-- ==== Sys2Proof/Word.lean ====
section
/-!
DEFINITION. The words the part reads, stores and sends: bytes, and the 32-bit register word (R3).
-/

namespace Sys2Proof

/-- One byte of a frame, of a record or of the flash. -/
abbrev Byte := BitVec 8

/-- One 32-bit register word (R3). -/
abbrev Word := BitVec 32

end Sys2Proof
end

