-- ==== Sys2Proof/Syntax.lean ====
section
/-!
DEFINITION. The commands of the part: one constructor of `Instr` for each row of the opcode table, with the operands
that come from outside the part (levels, codes, frames, written values, verdicts). Voltages are in microvolts,
durations in the unit each docstring names. What the part itself holds is state and no operand.
-/

namespace Sys2Proof

/-- A rail number (R13). -/
abbrev Rail := Fin 8
/-- A phase number (R13). -/
abbrev Phase := Fin 64
/-- A slice number (R17). -/
abbrev Slice := Fin 9

/-- The levels that the part senses on its straps in WAKE (R40, R41, R77). -/
structure Straps where
  role1 : Bool
  role0 : Bool
  xinUv : Nat
  addrUv : Nat
deriving DecidableEq, Repr

/-- The fast clocks that the AON watchdog watches (R27). -/
inductive FastClock where
  | ref | pwm | eng | sys
deriving DecidableEq, Repr

/-- What a self-test run of a partition or of a slice shows at its end (R570 to R573): the end-of-test marker, whether
the seal, and the signature, equal their golden values, and whether the OTP word of those has an uncorrectable error. -/
structure RunResult where
  otpError : Bool
  marker : Bool
  sealOk : Bool
  misrOk : Bool
deriving DecidableEq, Repr

/-- A fast-read mode that the table of the flash advertises: its mode bits and dummy clocks (R83). -/
structure ReadMode where
  modeBits : Nat
  dummy : Nat
deriving DecidableEq, Repr

/-- What the discovery of the flash answers (R81 to R86): `quadEnable` names the status register and the bit of the
quad-enable method, none of a method that has no bit. -/
structure Sfdp where
  signature : List Byte
  majorRev : Nat
  adv144 : Option ReadMode
  adv114 : Option ReadMode
  adv111 : Option ReadMode
  only4Byte : Bool
  quadEnable : Option (Nat × Nat)
deriving DecidableEq, Repr

/-- What the flash answers: its discovery parameters, its status registers and the bytes of both slots (R88). -/
structure Flash where
  sfdp : Sfdp
  status : List Nat
  slotA : List Byte
  slotB : List Byte
deriving DecidableEq, Repr

/-- The start calibration of one converter: the summed codes of its 256 samples at the internal zero, at the internal
reference and, for a phase converter, at its own input (R155). -/
structure CalSums where
  zero : Int
  ref : Int
  rest : Int
deriving DecidableEq, Repr

/-- What the converters read during the start calibration and at the start of the monitors (R155, R501). -/
structure StartInputs where
  ecSums : List CalSums
  phSums : List CalSums
  monUv : List Nat
  enPins : Nat
  control : Bool
deriving DecidableEq, Repr

/-- The wake sources of R110, in its order. -/
inductive WakeSource where
  | pmbus | avs | lip | en | control | monitor | demand | timer
deriving DecidableEq, Repr

/-- The two sides of a sense pair (R149). -/
inductive SenseSide where
  | pos | neg
deriving DecidableEq, Repr

/-- The two converters of the housekeeping block (R474). -/
inductive HkConv where
  | a | b
deriving DecidableEq, Repr

/-- What a conversion of the housekeeping block can see (R474, R475): the voltages at the inputs 0 to 56, as the table's
dividers leave them, AUXREF_P − AUXREF_N, and the outputs of the 48 threshold DACs, in microvolts. -/
structure HkInputs where
  uv : List Int
  auxRefUv : Nat
  dacUv : List Int
deriving DecidableEq, Repr

/-- What the lockstep compares of the native computations show at a control sample (R197, R198): of the serving slice's, and of the
incoming slice's, its replays since the sample before included (assumption log 57). -/
structure Checks where
  native : Bool
  incoming : Bool
deriving DecidableEq, Repr

/-- A level of a pin and how long it has held, in nanoseconds (R358). -/
structure HeldLevel where
  level : Bool
  heldNs : Nat
deriving DecidableEq, Repr

/-- A stage group and how long its fault input has held its level, in nanoseconds (R443). -/
structure HeldGroup where
  group : Fin 8
  heldNs : Nat
deriving DecidableEq, Repr

/-- What a window monitor sees: its input in microvolts, and the straps that a WAKE senses which the sample leads to (R69, R503). -/
structure MonSeen where
  uv : Nat
  straps : Straps
deriving DecidableEq, Repr

/-- A parked burst that ends: its rail, and the straps that a WAKE senses which it leads to (R69, R390). -/
structure ParkedBurst where
  rail : Rail
  straps : Straps
deriving DecidableEq, Repr

/-- What the digest compare of a slice shows (R199). -/
inductive DigestOutcome where
  | equal | singleBit | mismatch | doubleBit
deriving DecidableEq, Repr

/-- The end of an in-field test run of a slice, of a RAM or of a ring port (R571, R576, R581, R585). -/
inductive TestRun where
  | done (r : RunResult)
  | aborted
deriving DecidableEq, Repr

/-- The two load-intent ports (R262). -/
inductive LipPort where
  | a | b
deriving DecidableEq, Repr

/-- The conditions of a phase sense fault (R325). -/
inductive SenseCond where
  | outOfRange | noRipple | inconsistent
deriving DecidableEq, Repr

/-- The levels of the input voltage (R441). -/
inductive VinLevel where
  | overSet | overClear | underSet | underClear | warnSet | warnClear
deriving DecidableEq, Repr

/-- The three thermal levels (R546). -/
inductive ThermLevel where
  | warn | throttle | shutdown
deriving DecidableEq, Repr

/-- What the thermal front end measures in a sensor's slot: in diode mode ΔVbe in nanovolts and TIN − TRTN at 160 µA
(R536, R540), in NTC mode the pin at 5 µA and at 100 µA and R_NTC in milliohms (R537, R540), on the die the reading in
0.125 °C (R535). -/
inductive ThermMeas where
  | diode (dvbeNv uv : Int)
  | ntc (at5Uv at100Uv rMohm : Nat)
  | die (eighths : Int)
deriving DecidableEq, Repr

/-- The two ring ports (R617). -/
inductive HalPort where
  | east | west
deriving DecidableEq, Repr

/-- The reasons of R620 for which a ring port goes down. -/
inductive PortDownWhy where
  | silence | violations | disabled | loopback
deriving DecidableEq, Repr

/-- A ring frame as received (R622, R623). -/
structure Frame where
  type : Nat
  flags : Nat
  src : Nat
  dest : Nat
  id : Nat
  hops : Nat
  hopLim : Nat
  payload : List Byte
deriving DecidableEq, Repr

/-- A received frame: its port, whether its CRC matches, and its fields. -/
structure HalRx where
  port : HalPort
  crcOk : Bool
  frame : Frame
deriving DecidableEq, Repr

/-- How the PEC byte of a PMBus transaction came (R688). -/
inductive Pec where
  | none | good | bad
deriving DecidableEq, Repr

/-- A PMBus transaction of one command: a read, or a write of its data bytes (R687). -/
inductive PmbTx where
  | read (pec : Pec)
  | write (data : List Byte) (pec : Pec)
deriving DecidableEq, Repr

/-- An AVSBus frame of the master (R711 to R713): `secondBit` is the bit after the start bit; the row names CmdDataType. -/
structure AvsReq where
  port : Fin 2
  secondBit : Bool
  cmd : Nat
  group : Bool
  select : Nat
  data : Nat
  crc : Nat
deriving DecidableEq, Repr

/-- Who writes a register (R686). -/
inductive HostSrc where
  | pmbus | jtag
deriving DecidableEq, Repr

/-- The commands of the part, in the order of the opcode table. -/
inductive Instr where
  | suppliesGood (straps : Straps)
  | powerCycle
  | supplyLoss (vdd33 vdda18 vdd08 : Bool)
  | vaonLow
  | resetN (lowNs : Nat)
  | clockLoss (clk : FastClock)
  | refRetry (xinUv : Nat)
  | pllLock (sealOk : Bool) (monUv : List Nat)
  | partitionVerdict (part : Fin 6) (result : RunResult)
  | partitionTimeout (part : Fin 6)
  | slotCheck (flash : Flash)
  | loadComplete (inputs : StartInputs)
  | park (key : Nat)
  | parkEntry
  | parkTimeout
  | safe (key : Nat)
  | swreset (key : Nat)
  | rollbackCommit (key : Nat)
  | keyRevokeReq (key0 key1 : Bool) (key : Nat)
  | wakeRequest (sources : List WakeSource) (straps : Straps)
  | wakeTimer (straps : Straps)
  | sclHoldRelease
  | reloadDone (flash : Flash) (inputs : StartInputs)
  | fixedDieShutdown
  | hotlatchClockStop
  | requestChallenge (key : Nat)
  | submitResponse (key : Nat) (zeroised : Bool)
  | closeSession (key : Nat)
  | sessionTimeout
  | extest
  | samplePreload
  | regacc (addr data : Nat) (write : Bool)
  | scan
  | bypass (code : Nat)
  | controlSample (rail : Rail) (uv : List Int) (checks : Checks) (spec : List Bool)
  | telltaleFilter (rail : Rail) (side : SenseSide) (present : Bool)
  | phaseSample (phase : Phase) (code : Int)
  | vinsSample (code : Int)
  | vinFault (level : VinLevel)
  | digestCheck (slice : Slice) (outcome : DigestOutcome)
  | load16 (slice : Slice) (value : Nat) (index : Nat)
  | coefficientSwap (key : Nat) (rail : Rail) (slice : Nat)
  | timingMove (key : Nat) (rail : Rail) (tmode : Bool)
  | reserveSpare (key : Nat)
  | releaseReservation (key slice : Nat)
  | exchangeGrant
  | reservationExpiry (slice : Slice)
  | rotationDue
  | rotationStart
  | overdue
  | sliceTestEnd (slice : Slice) (run : TestRun)
  | bookkeepingPass (slice : Slice)
  | commit (rail : Rail)
  | disarm (rail : Rail)
  | lipStrobe (port : LipPort) (code : Nat)
  | intentMissed (rail : Rail)
  | prepDone (rail : Rail)
  | periodStart (phase : Phase)
  | fastScTrip (phase : Phase) (senseUv : Int) (durationPs : Nat)
  | phasePeriodEnd (phase : Phase)
  | phaseSc (phase : Phase)
  | phaseOpen (phase : Phase)
  | phaseSenseFault (phase : Phase) (cond : SenseCond)
  | phaseRetire (rail : Rail)
  | reefAdd (rail : Rail)
  | reefShed (rail : Rail)
  | healthUpdate
  | healthForecast (phase : Phase) (indicator : Fin 4)
  | enDebounce (rail : Rail) (pin : HeldLevel)
  | controlDebounce (pin : HeldLevel)
  | delayOnEnd (rail : Rail)
  | prebiasStep (rail : Rail) (uv : Int)
  | toffDelayEnd (rail : Rail)
  | offWaitExpiry (rail : Rail)
  | pgRelease (rail : Rail)
  | thrHoldEnd (thr : Fin 4)
  | burstEntry (rail : Rail)
  | burstTrip (rail : Rail)
  | monSample (mon : Fin 24) (seen : MonSeen)
  | pbBurstEnd (burst : ParkedBurst)
  | hiccupRetry (rail : Rail)
  | retryClear (rail : Rail)
  | ovEc (rail : Rail)
  | uvEc (rail : Rail)
  | shortAtStart (rail : Rail)
  | frozen (rail : Rail)
  | currentHoldEnd (rail : Rail)
  | ovLowEnd (rail : Rail)
  | stageFault (low : HeldGroup)
  | sfltClear (high : HeldGroup)
  | conversionDone (conv : HkConv) (inputs : HkInputs)
  | softwareTrigger (mask : Nat)
  | pwmTrigger (rail : Rail)
  | tbTrigger (seq : Fin 8)
  | seqTbhiWrite (seq : Fin 8) (value : Nat)
  | seqDisable (seq : Fin 8)
  | injectedRequest (value : Nat)
  | hkQloRead
  | hkQhiRead
  | calZero (set refVal : Nat)
  | calFull (set refVal : Nat)
  | calAbort
  | captureEnd (uv : List Int) (auxRefUv : Nat)
  | calBindWrite (set : Fin 16) (value : Nat)
  | monCrossing (mon : Fin 24) (uv : Nat)
  | dacReadback
  | thermSample (sensor : Fin 20) (meas : ThermMeas)
  | thermalLevelEnter (sensor : Fin 20) (level : ThermLevel)
  | thermalLevelExit (sensor : Fin 20) (level : ThermLevel)
  | sensorBroken (sensor : Fin 20)
  | thermCheck (zeroUv refUv : Int)
  | feFail
  | ecInjection (rail : Rail) (ref : Nat) (code : Int)
  | ecInjFail (rail : Rail)
  | phInjection (phase : Phase) (ref : Nat) (code : Int)
  | phInjFail (phase : Phase)
  | mbistStep (ram : Fin 6) (last : Option TestRun)
  | halLoopback (port : HalPort) (run : TestRun)
  | testLate (cycle : Fin 5)
  | portUp (port : HalPort)
  | portDown (port : HalPort) (why : PortDownWhy)
  | sync (rx : HalRx)
  | syncSend
  | delayExchange (port : HalPort)
  | delayReq (rx : HalRx)
  | delayResp (rx : HalRx)
  | discoverSend
  | discover (rx : HalRx)
  | tbLockTimeout
  | faultFrame (rx : HalRx)
  | barToken (rx : HalRx)
  | barRelease (rx : HalRx)
  | barrierSlotFree (slot : Fin 4)
  | barrierTimeout (slot : Fin 4)
  | snapSched (rx : HalRx)
  | snapLatch
  | snapCollect (rx : HalRx)
  | snapResp (rx : HalRx)
  | collectTimeout
  | resetFrame (rx : HalRx)
  | barrierArrive (key id : Nat)
  | barrierLaunch (key id : Nat)
  | snapshotSchedule (key id : Nat)
  | snapshotCollect (key id : Nat)
  | resetAll (key id : Nat)
  | resetNode (key id : Nat)
  | hbSend
  | hb (rx : HalRx)
  | hbTimeout
  | pairHold (group : Fin 8)
  | selfFaultTimeout
  | pairxSend
  | pairx (rx : HalRx)
  | ringBrokenClear
  | halTbloRead
  | page (tx : PmbTx)
  | operation (tx : PmbTx)
  | onOffConfig (tx : PmbTx)
  | clearFaults (tx : PmbTx)
  | phase (tx : PmbTx)
  | capability (tx : PmbTx)
  | voutMode (tx : PmbTx)
  | voutCommand (tx : PmbTx)
  | voutMax (tx : PmbTx)
  | voutMarginHigh (tx : PmbTx)
  | voutMarginLow (tx : PmbTx)
  | ioutOcFaultLimit (tx : PmbTx)
  | ioutOcFaultResponse (tx : PmbTx)
  | otFaultLimit (tx : PmbTx)
  | otFaultResponse (tx : PmbTx)
  | otWarnLimit (tx : PmbTx)
  | tonDelay (tx : PmbTx)
  | tonRise (tx : PmbTx)
  | toffDelay (tx : PmbTx)
  | toffFall (tx : PmbTx)
  | statusByte (tx : PmbTx)
  | statusWord (tx : PmbTx)
  | statusVout (tx : PmbTx)
  | statusIout (tx : PmbTx)
  | statusInput (tx : PmbTx)
  | statusTemperature (tx : PmbTx)
  | statusCml (tx : PmbTx)
  | statusMfrSpecific (tx : PmbTx)
  | readVin (tx : PmbTx)
  | readVout (tx : PmbTx)
  | readIout (tx : PmbTx)
  | readTemperature1 (tx : PmbTx)
  | pmbusRevision (tx : PmbTx)
  | mfrRegAddr (tx : PmbTx)
  | mfrRegData (tx : PmbTx)
  | mfrRegDataInc (tx : PmbTx)
  | mfrBitCount (tx : PmbTx)
  | mfrBitSel (tx : PmbTx)
  | mfrBitRead (tx : PmbTx)
  | mfrSlogCount (tx : PmbTx)
  | mfrSlogSel (tx : PmbTx)
  | mfrSlogRead (tx : PmbTx)
  | mfrCalCmd (tx : PmbTx)
  | mfrCalStat (tx : PmbTx)
  | alertResponse
  | smbusTimeout
  | avsVoltage (req : AvsReq)
  | avsVoutTransitionRate (req : AvsReq)
  | avsCurrentRead (req : AvsReq)
  | avsTemperatureRead (req : AvsReq)
  | avsResetVoltage (req : AvsReq)
  | avsPowerMode (req : AvsReq)
  | avsStatus (req : AvsReq)
  | avsWriteHold (req : AvsReq) (type : Nat)
  | registerWrite (src : HostSrc) (addr value : Nat)
  | nvmOpDone (verifyOk : Bool)
  | resetRelease (straps : Straps)
  | unsupportedCommand (code : Nat)
  | avsUnsupportedType (req : AvsReq) (type : Nat)
  | avsIdleResync (port : Fin 2)
  | unknownTypeFrame (rx : HalRx)
  | pairxWindowSkip
  | discoverTimeout
  | otpProgramDone
  | vaonWarningRise
deriving DecidableEq, Repr

end Sys2Proof
end

