-- ==== Sys2Proof/Decode.lean ====
section
/-!
DEFINITION. The command that a word spells by the bits of the opcode table. The table of this block gives no row any
bits: its commands come as transactions, frames, samples and events, and no word spells one.
-/

namespace Sys2Proof

/-- The command that a word spells: none, for every word, since no row of the table has bits. -/
def decodeTableWord (_nbits _w : Nat) : Option Instr := none

end Sys2Proof
end

