-- ==== Sys2Proof/Machine/Arith.lean ====
section
/-!
DEFINITION. Exact arithmetic and the narrowing the spec names: rounding to nearest with ties away from zero and
saturation (R4), two's complement fields (R3), little-endian bytes (R3), and the two transcendental functions the
spec uses (the exponential of the filter coefficients, the logarithm of the thermal formulas).
-/

namespace Sys2Proof.Machine

/-- Round an exact quotient to the nearest whole number, ties away from zero (R4). -/
def roundDiv (n : Int) (d : Nat) : Int :=
  if n < 0 then -(((2 * (-n) + d) / (2 * d) : Int)) else (2 * n + d) / (2 * d)

/-- Round an exact rational to the nearest whole number, ties away from zero (R4). -/
def roundQ (q : Rat) : Int := roundDiv q.num q.den

/-- The nearest value inside a closed range (R4). -/
def clampI (lo hi x : Int) : Int := if x < lo then lo else if hi < x then hi else x

/-- The nearest value inside a closed range of naturals. -/
def clampN (lo hi x : Nat) : Nat := if x < lo then lo else if hi < x then hi else x

/-- Saturation at the limits of a signed field of `w` bits (R4). -/
def satS (w : Nat) (x : Int) : Int := clampI (-(2 ^ (w - 1) : Nat)) ((2 ^ (w - 1) : Nat) - 1) x

/-- Saturation at the limits of an unsigned field of `w` bits (R4). -/
def satU (w : Nat) (x : Int) : Nat := (clampI 0 ((2 ^ w : Nat) - 1) x).toNat

/-- The two's complement value of a field of `w` bits (R3). -/
def toS (w n : Nat) : Int := if n < 2 ^ (w - 1) then (n : Int) else (n : Int) - (2 ^ w : Nat)

/-- The field of `w` bits that holds a value in two's complement (R3). -/
def ofS (w : Nat) (z : Int) : Nat := (z % ((2 ^ w : Nat) : Int)).toNat

/-- Bit `k` of a number. -/
def bitOf (n k : Nat) : Nat := n / 2 ^ k % 2

/-- `n` with bit `k` set. -/
def withBit (n k : Nat) : Nat := if bitOf n k = 1 then n else n + 2 ^ k

/-- `n` with bit `k` cleared. -/
def withoutBit (n k : Nat) : Nat := if bitOf n k = 1 then n - 2 ^ k else n

/-- Bits `lsb` to `lsb + w - 1` of a number. -/
def bitsOf (n lsb w : Nat) : Nat := n / 2 ^ lsb % 2 ^ w

/-- 1 for true, 0 for false. -/
def b2n (b : Bool) : Nat := if b then 1 else 0

/-- The number of ones among the low `w` bits. -/
def popcount : Nat → Nat → Nat
  | 0, _ => 0
  | w + 1, n => n % 2 + popcount w (n / 2)

/-- The even parity of the low `w` bits. -/
def parity (w n : Nat) : Nat := popcount w n % 2

/-- The numbers 0 to `n - 1` whose bit is set in a mask. -/
def maskList (n m : Nat) : List Nat := (List.range n).filter fun k => bitOf m k == 1

/-- The `n` bytes of a number, least significant first (R3). -/
def leBytes : Nat → Nat → List Byte
  | 0, _ => []
  | n + 1, v => BitVec.ofNat 8 v :: leBytes n (v / 256)

/-- The number that a little-endian byte list holds (R3). -/
def ofLe : List Byte → Nat
  | [] => 0
  | b :: bs => b.toNat + 256 * ofLe bs

/-- The little-endian number of `n` bytes at an offset of a byte list. -/
def leAt (bs : List Byte) (ofs n : Nat) : Nat := ofLe ((bs.drop ofs).take n)

/-- The sum of a list of integers. -/
def sumI (l : List Int) : Int := l.foldl (· + ·) 0

/-- The sum of a list of naturals. -/
def sumN (l : List Nat) : Nat := l.foldl (· + ·) 0

/-- The mean of a list of naturals as an exact rational, 0 of the empty list. -/
def meanN (l : List Nat) : Rat := if l.isEmpty then 0 else (sumN l : Rat) / (l.length : Rat)

/-- The largest of a list of naturals, 0 of the empty list. -/
def maxN (l : List Nat) : Nat := l.foldl Nat.max 0

/-- The smallest of a nonempty list of naturals, 0 of the empty list. -/
def minN : List Nat → Nat
  | [] => 0
  | a :: l => l.foldl Nat.min a

/-- The element at an index, with a default past the end. -/
def nth {α : Type} (l : List α) (n : Nat) (d : α) : α := (l[n]?).getD d

/-- A list with the element at an index replaced; unchanged past the end. -/
def upd {α : Type} (l : List α) (n : Nat) (f : α → α) : List α := l.modify n f

/-- A saturating count (R684 and the counters of every chapter). -/
def satInc (limit n : Nat) : Nat := if n < limit then n + 1 else n

/-- Scale of the fixed-point evaluation below: 2^128. -/
def fxOne : Nat := 2 ^ 128

/-- Partial sums of the series of the exponential of a nonnegative fixed-point number, term by term. -/
def expSeries : Nat → Nat → Nat → Nat → Nat → Nat
  | 0, _, _, _, acc => acc
  | fuel + 1, k, x, term, acc =>
    let t := term * x / (fxOne * k)
    expSeries fuel (k + 1) x t (acc + t)

/-- The exponential of minus `x`, `x` not negative, rounded to `w` fraction bits. DESIGN CHOICE (assumption log 8):
evaluated in fixed point of 128 fraction bits; above 64 the result is below every format used and reads 0. -/
def expNeg (w : Nat) (x : Rat) : Nat :=
  if 64 ≤ x then 0
  else
    let k := x.floor.toNat
    let fx := ((x - (k : Rat)) * (fxOne : Rat)).floor.toNat
    let ef := expSeries 60 1 fx fxOne fxOne
    let e1 := expSeries 60 1 fxOne fxOne fxOne
    let pow := (List.range k).foldl (fun a _ => a * e1 / fxOne) fxOne
    let big := ef * pow / fxOne
    (roundDiv ((fxOne * 2 ^ w : Nat) : Int) big).toNat

/-- Partial sums of the series of the inverse hyperbolic tangent. -/
def atanhSeries : Nat → Nat → Nat → Nat → Nat → Nat
  | 0, _, _, _, acc => acc
  | fuel + 1, k, z2, pow, acc => atanhSeries fuel (k + 2) z2 (pow * z2 / fxOne) (acc + pow / k)

/-- The natural logarithm of a fixed-point number between 1 and 2, in fixed point. -/
def lnUnit (m : Nat) : Nat :=
  let z := (m - fxOne) * fxOne / (m + fxOne)
  2 * atanhSeries 60 1 (z * z / fxOne) z 0

/-- The natural logarithm of a positive rational, as an exact rational near it (128 fraction bits). DESIGN CHOICE
(assumption log 8). -/
def lnQ (q : Rat) : Rat :=
  if q ≤ 0 then 0
  else
    let n := q.num.toNat
    let d := q.den
    let e : Int := (Nat.log2 n : Int) - (Nat.log2 d : Int)
    let m := if 0 ≤ e then n * fxOne / (d * 2 ^ e.toNat) else n * 2 ^ (-e).toNat * fxOne / d
    let e' := if m < fxOne then e - 1 else e
    let m' := if m < fxOne then 2 * m else m
    (((lnUnit m' : Int) + e' * (lnUnit (2 * fxOne) : Int) : Int) : Rat) / (fxOne : Rat)

/-- The rational of a natural number: the fractions of either sign with a denominator up to 2^32. A free value that is no
natural number is read through it (assumption log 1). -/
def anyRat (k : Nat) : Rat :=
  let a : Rat := ((k / 2 ^ 33 : Nat) : Rat) / ((k / 2 % 2 ^ 32 + 1 : Nat) : Rat)
  if k % 2 = 0 then a else -a

end Sys2Proof.Machine
end

