-- ==== Sys2Proof/Machine/Crypto.lean ====
section
/-!
DEFINITION. The check codes that the spec names by their standards: CRC-32C (R89, R109, R743) and the AES-128 CMAC of
NIST SP 800-38B (R95, R590), the packet error code of SMBus (R688) and the CRC of AVSBus (R713). Bytes are naturals below 256 here.
-/

namespace Sys2Proof.Machine

/-- One bit step of the reflected CRC-32C register. -/
def crc32cBit (c : Nat) : Nat := if c % 2 = 1 then (c / 2) ^^^ 0x82F63B78 else c / 2

/-- One byte through the CRC-32C register. -/
def crc32cByte (c b : Nat) : Nat := (List.range 8).foldl (fun c _ => crc32cBit c) (c ^^^ b)

/-- CRC-32C of a byte list. -/
def crc32c (bs : List Byte) : Nat := (bs.foldl (fun c b => crc32cByte c b.toNat) 0xFFFFFFFF) ^^^ 0xFFFFFFFF

/-- The packet error code of SMBus (R688): CRC-8 with x^8 + x^2 + x + 1. -/
def smbusPec (bs : List Byte) : Nat :=
  bs.foldl (fun c b => (List.range 8).foldl (fun c _ => if 128 ≤ c then (2 * c - 256) ^^^ 0x07 else 2 * c) (c ^^^ b.toNat)) 0

/-- One bit, the most significant first, through the 3-bit CRC of AVSBus, polynomial x^3 + x + 1 (R713). -/
def crc3Bit (c b : Nat) : Nat := if (c / 4 + b) % 2 = 1 then (2 * c % 8) ^^^ 3 else 2 * c % 8

/-- The 3-bit CRC of the bits of a number from bit `k` - 1 down to bit 0 (R713). -/
def crc3 : Nat → Nat → Nat → Nat
  | 0, c, _ => c
  | k + 1, c, w => crc3 k (crc3Bit c (bitOf w k)) w

/-- Doubling in the AES field. -/
def gfDouble (a : Nat) : Nat := if a < 128 then 2 * a else (2 * a - 256) ^^^ 0x1B

/-- Product in the AES field. -/
def gfMul (a b : Nat) : Nat :=
  ((List.range 8).foldl (fun (p : Nat × Nat) k => (if bitOf b k = 1 then p.1 ^^^ p.2 else p.1, gfDouble p.2)) (0, a)).1

/-- Inverse in the AES field, 0 of 0: the 254th power. -/
def gfInv (a : Nat) : Nat :=
  let sq := fun x => gfMul x x
  let a2 := sq a
  let a3 := gfMul a2 a
  let a6 := sq a3
  let a12 := sq a6
  let a15 := gfMul a12 a3
  let a240 := sq (sq (sq (sq a15)))
  gfMul (gfMul a240 a12) a2

/-- Rotation of a byte to the left. -/
def rotByte (a n : Nat) : Nat := (a * 2 ^ n) % 256 + a / 2 ^ (8 - n)

/-- The AES byte substitution. -/
def aesSub (a : Nat) : Nat :=
  let i := gfInv a
  i ^^^ rotByte i 1 ^^^ rotByte i 2 ^^^ rotByte i 3 ^^^ rotByte i 4 ^^^ 0x63

/-- Bytewise exclusive or. -/
def xorBytes (a b : List Nat) : List Nat := List.zipWith (· ^^^ ·) a b

/-- The next round key from the present one. -/
def aesNextKey (k : List Nat) (rcon : Nat) : List Nat :=
  let w := fun i => (k.drop (4 * i)).take 4
  let t := ((w 3).drop 1 ++ (w 3).take 1).map aesSub
  let t := xorBytes t [rcon, 0, 0, 0]
  let w0 := xorBytes (w 0) t
  let w1 := xorBytes (w 1) w0
  let w2 := xorBytes (w 2) w1
  let w3 := xorBytes (w 3) w2
  w0 ++ w1 ++ w2 ++ w3

/-- The row shift, on the column-wise byte order of the state. -/
def aesShiftRows (s : List Nat) : List Nat :=
  (List.range 16).map fun i => nth s ((i + 4 * (i % 4)) % 16) 0

/-- The mix of one column. -/
def aesMixColumn (c : List Nat) : List Nat :=
  (List.range 4).map fun r =>
    gfMul (nth c r 0) 2 ^^^ gfMul (nth c ((r + 1) % 4) 0) 3 ^^^ nth c ((r + 2) % 4) 0 ^^^ nth c ((r + 3) % 4) 0

/-- The mix of all columns. -/
def aesMixColumns (s : List Nat) : List Nat :=
  (List.range 4).flatMap fun i => aesMixColumn ((s.drop (4 * i)).take 4)

/-- The rounds of AES-128 from a round number on, with `fuel` rounds left. -/
def aesRounds : Nat → List Nat → Nat → List Nat → List Nat
  | 0, _, _, s => s
  | fuel + 1, k, rcon, s =>
    let k' := aesNextKey k rcon
    let t := aesShiftRows (s.map aesSub)
    let t := if fuel = 0 then t else aesMixColumns t
    aesRounds fuel k' (gfDouble rcon) (xorBytes t k')

/-- AES-128 encryption of one block of 16 bytes. -/
def aes128 (key block : List Nat) : List Nat := aesRounds 10 key 1 (xorBytes block key)

/-- Doubling of a block in the CMAC subkey field. -/
def cmacDouble (b : List Nat) : List Nat :=
  let n := b.foldl (fun a x => a * 256 + x) 0
  let d := if n < 2 ^ 127 then 2 * n else (2 * n - 2 ^ 128) ^^^ 0x87
  (List.range 16).map fun i => d / 256 ^ (15 - i) % 256

/-- The chained blocks of a CMAC. -/
def cmacChain (key k1 k2 : List Nat) : Nat → List Nat → List Nat → List Nat
  | 0, acc, _ => acc
  | fuel + 1, acc, m =>
    if m.length ≤ 16 then
      let last := if m.length = 16 then xorBytes m k1
        else xorBytes (m ++ [0x80] ++ List.replicate (15 - m.length) 0) k2
      aes128 key (xorBytes acc last)
    else cmacChain key k1 k2 fuel (aes128 key (xorBytes acc (m.take 16))) (m.drop 16)

/-- The untruncated AES-128 CMAC of a message. -/
def cmac (key : List Nat) (m : List Byte) : List Nat :=
  let l := aes128 key (List.replicate 16 0)
  let k1 := cmacDouble l
  let k2 := cmacDouble k1
  let ms := m.map BitVec.toNat
  cmacChain key k1 k2 (ms.length / 16 + 1) (List.replicate 16 0) ms

end Sys2Proof.Machine
end

