-- ==== Sys2Proof/Config.lean ====
section
/-!
DEFINITION. What one part fixes and the spec does not (assumption log 1 to 6): opaque constants without a body, so that
nothing can be proved about a value of them. The values that differ from use to use take a counter of the state as
their argument.
-/

namespace Sys2Proof.Config

/-- How many revisions the part stands behind revision A (R114). -/
opaque revisionStep : Nat

/-- The silicon revision of the 4-bit field REV: 1 for A, 2 for B, and so on (R114). -/
def siliconRev : Nat := revisionStep % 15 + 1

/-- Byte `i` of the image key of a number, as OTP holds it (R95). -/
opaque imageKeyByte : Nat → Nat → Byte

/-- The image key of a number, an AES-128 key (R95). -/
def imageKey (n : Nat) : List Nat := (List.range 16).map fun i => (imageKeyByte n i).toNat

/-- Whether OTP holds the image key of a number (R96, check 8). -/
opaque keyPresent : Nat → Bool

/-- Byte `i` of the debug key in OTP (R590). -/
opaque debugKeyByte : Nat → Byte

/-- The debug key in OTP, an AES-128 key (R590). -/
def debugKey : List Nat := (List.range 16).map fun i => (debugKeyByte i).toNat

/-- Byte `i` of the nonce of a challenge, from the internal entropy source (R589). -/
opaque nonceByte : Nat → Nat → Nat

/-- Whether a low pulse on RESET_N of 0.2 µs or more and less than 1 µs resets the part, which R43 leaves open. -/
opaque shortResetTaken : Nat → Bool

/-- The capture delay of a strobe inside the bounds that R266 and R720 leave open. -/
opaque strobeDelay : Nat → Nat

/-- Whether the fast comparator trips on an excursion that R797 leaves open. -/
opaque shortTrip : Nat → Bool

/-- Whether a key register fails to read zero after the zeroisation of a response that a register write submitted
(R592). -/
opaque zeroFails : Nat → Bool

/-- How far a node steers its PLLs for an offset (R633 bounds it by 300 ppm). -/
opaque steering : Nat → Nat

/-- A byte of a page whose write was aborted (R60, R754 name no content). -/
opaque tornByte : Nat → Nat → Nat

/-- A telemetry value that no rule gives a formula for. -/
opaque unstated : Nat → Nat

end Sys2Proof.Config
end

