-- ==== Sys2Proof/Machine/RegFile.lean ====
section
/-!
DEFINITION. The register file as plain data. Every field of every register has one cell, whose key is 32 times the
register's byte address plus the number of the field's lowest bit; the file lists only the cells that differ from
their value at reset, in rising order of key (the canonical form `RegFile.wf`).
-/

namespace Sys2Proof.Machine

/-- A register field: the key of its first instance, the key steps of its two instance numbers, its width. -/
structure Fld where
  key : Nat
  step1 : Nat
  step2 : Nat
  width : Nat
deriving DecidableEq, Repr

/-- The key of an instance of a field. -/
def Fld.at (f : Fld) (i j : Nat) : Nat := f.key + i * f.step1 + j * f.step2

/-- The access types of R5. -/
inductive AccessKind where
  | ro | rw | w1c | wo | rwl | img
deriving DecidableEq, Repr

/-- One row of a field table: the field and its access type. -/
structure FieldDef where
  fld : Fld
  kind : AccessKind
deriving DecidableEq, Repr

/-- One register of the map (R761): address of the first instance, byte steps and counts of its two instance
numbers, and its fields. -/
structure RegDef where
  addr : Nat
  step1 : Nat
  count1 : Nat
  step2 : Nat
  count2 : Nat
  fields : List FieldDef
deriving DecidableEq, Repr

/-- The cells that differ from their reset value, keys strictly rising. -/
abbrev RegFile := List (Nat × Nat)

/-- The value that an unlisted cell reads as: the reset value of its field table. SYS_ID.ID reads 0x6408 (R114);
SEN_CAL.GTRIM (R168) and PCS_CAL.GTRIM (R172) read 0x8000; HOST_PMBSTAT.PHASE reads 0xFF (R726); MODE and SHUT_EN of
the four die sensors read 1 (R557); every other field reads 0. -/
def regReset (k : Nat) : Nat :=
  if k = 0 then 0x6408
  else if k = 0xC000C * 32 + 8 then 0xFF
  else if 0x5001C * 32 ≤ k ∧ k ≤ 0x5001C * 32 + 7 * 0x40 * 32 ∧ (k - 0x5001C * 32) % (0x40 * 32) = 0 then 0x8000
  else if 0x51004 * 32 + 12 ≤ k ∧ k ≤ 0x51004 * 32 + 12 + 63 * 0x10 * 32 ∧ (k - (0x51004 * 32 + 12)) % (0x10 * 32) = 0 then 0x8000
  else if 0x90200 * 32 ≤ k ∧ k ≤ 0x90200 * 32 + 3 * 0x20 * 32 + 16 ∧
      ((k - 0x90200 * 32) % (0x20 * 32) = 0 ∨ (k - 0x90200 * 32) % (0x20 * 32) = 16) then 1
  else 0

/-- Read a cell. -/
def RegFile.read : RegFile → Nat → Nat
  | [], k => regReset k
  | (k', v) :: r, k => if k = k' then v else if k < k' then regReset k else RegFile.read r k

/-- Write a cell, keeping the canonical form: the reset value removes the entry (in any list, the canonical ones or not:
no entry with a key up to this one stays in front). -/
def RegFile.write : RegFile → Nat → Nat → RegFile
  | [], k, v => if v = regReset k then [] else [(k, v)]
  | (k', v') :: r, k, v =>
    if k < k' then (if v = regReset k then (k', v') :: r else (k, v) :: (k', v') :: r)
    else if k = k' then (if v = regReset k then r.dropWhile fun c => decide (c.1 ≤ k) else (k, v) :: r)
    else (k', v') :: RegFile.write r k v

/-- Keys strictly rising from a lower bound, and no entry equal to its reset value. -/
def RegFile.wfFrom : Nat → RegFile → Bool
  | _, [] => true
  | lo, (k, v) :: r => decide (lo ≤ k) && decide (v ≠ regReset k) && RegFile.wfFrom (k + 1) r

/-- The canonical form of the register file. -/
def RegFile.wf (r : RegFile) : Bool := RegFile.wfFrom 0 r

/-- The cells from a bound on that a predicate keeps. -/
def RegFile.keepFrom (keepKey : Nat → Bool) : Nat → RegFile → RegFile
  | _, [] => []
  | lo, (k, v) :: r =>
    if k < lo then RegFile.keepFrom keepKey lo r
    else if keepKey k then (k, v) :: RegFile.keepFrom keepKey (k + 1) r
    else RegFile.keepFrom keepKey (k + 1) r

/-- The cells that a predicate keeps; the others return to their reset value. -/
def RegFile.keep (r : RegFile) (keepKey : Nat → Bool) : RegFile := RegFile.keepFrom keepKey 0 r

/-- The row and the instance numbers that a byte address names. -/
def RegDef.find? (d : RegDef) (addr : Nat) : Option (Nat × Nat) :=
  if addr < d.addr then none
  else
    let o := addr - d.addr
    let i := if d.step1 = 0 then 0 else o / d.step1
    let o2 := o - i * d.step1
    let j := if d.step2 = 0 then 0 else o2 / d.step2
    if i < d.count1 ∧ j < d.count2 ∧ o2 = j * d.step2 then some (i, j) else none

/-- The first register of a list of rows at a byte address, with its instance numbers. -/
def findReg (rows : List RegDef) (addr : Nat) : Option (RegDef × Nat × Nat) :=
  rows.findSome? fun d => (d.find? addr).map fun ij => (d, ij.1, ij.2)

/-- The lowest bit of a field inside its register word. -/
def FieldDef.lsb (d : FieldDef) : Nat := d.fld.key % 32

end Sys2Proof.Machine
end

