-- ==== Sys2Proof/Machine/RegsHalyard.lean ====
section
/-!
DEFINITION. The register fields of the HALYARD block, and the rows of the register map that hold them.
A field is named REGISTER.FIELD as the field tables of spec/ name it; each register cites the rule that gives its table.
-/

namespace Sys2Proof.Machine.Reg

/-! HAL_CFG at 0xB0000 (R664). -/
def HAL_CFG.EN_E : Fld := ⟨23068672, 0, 0, 1⟩
def HAL_CFG.EN_W : Fld := ⟨23068673, 0, 0, 1⟩
def HAL_CFG.NODE_ID : Fld := ⟨23068674, 0, 0, 11⟩
def HAL_CFG.MASTER_ELIG : Fld := ⟨23068685, 0, 0, 1⟩
def HAL_CFG.RESET_EN : Fld := ⟨23068686, 0, 0, 1⟩
def HAL_CFG.FAULT_BCAST : Fld := ⟨23068687, 0, 0, 1⟩
def HAL_CFG.PAIR_PORT : Fld := ⟨23068688, 0, 0, 1⟩
/-! HAL_ASYM at 0xB0004 (R665). -/
def HAL_ASYM.ASYM_E : Fld := ⟨23068800, 0, 0, 16⟩
def HAL_ASYM.ASYM_W : Fld := ⟨23068816, 0, 0, 16⟩
/-! HAL_STAT at 0xB0008 (R666). -/
def HAL_STAT.UP_E : Fld := ⟨23068928, 0, 0, 1⟩
def HAL_STAT.UP_W : Fld := ⟨23068929, 0, 0, 1⟩
def HAL_STAT.INTACT : Fld := ⟨23068930, 0, 0, 1⟩
def HAL_STAT.TB_LOCK : Fld := ⟨23068931, 0, 0, 1⟩
def HAL_STAT.TB_COARSE : Fld := ⟨23068932, 0, 0, 1⟩
def HAL_STAT.IS_MASTER : Fld := ⟨23068933, 0, 0, 1⟩
def HAL_STAT.HOLDOVER : Fld := ⟨23068934, 0, 0, 1⟩
def HAL_STAT.LINK_EV : Fld := ⟨23068944, 0, 0, 1⟩
def HAL_STAT.RINGBRK_EV : Fld := ⟨23068945, 0, 0, 1⟩
def HAL_STAT.LOCKLOST_EV : Fld := ⟨23068946, 0, 0, 1⟩
def HAL_STAT.RXFAULT_EV : Fld := ⟨23068947, 0, 0, 1⟩
def HAL_STAT.UNK_EV : Fld := ⟨23068948, 0, 0, 1⟩
def HAL_STAT.STEP_EV : Fld := ⟨23068949, 0, 0, 1⟩
/-! HAL_EVCNT at 0xB000C (R667). -/
def HAL_EVCNT.LINK_CNT : Fld := ⟨23069056, 0, 0, 8⟩
def HAL_EVCNT.RINGBRK_CNT : Fld := ⟨23069064, 0, 0, 8⟩
def HAL_EVCNT.LOCKLOST_CNT : Fld := ⟨23069072, 0, 0, 8⟩
def HAL_EVCNT.RXFAULT_CNT : Fld := ⟨23069080, 0, 0, 8⟩
/-! HAL_ERRCNT at 0xB0010 (R667). -/
def HAL_ERRCNT.CRC_E_CNT : Fld := ⟨23069184, 0, 0, 8⟩
def HAL_ERRCNT.CRC_W_CNT : Fld := ⟨23069192, 0, 0, 8⟩
def HAL_ERRCNT.UNK_CNT : Fld := ⟨23069200, 0, 0, 8⟩
def HAL_ERRCNT.STEP_CNT : Fld := ⟨23069208, 0, 0, 8⟩
/-! HAL_TIME at 0xB0014 (R668). -/
def HAL_TIME.OFFSET : Fld := ⟨23069312, 0, 0, 16⟩
def HAL_TIME.HOPS_M : Fld := ⟨23069328, 0, 0, 12⟩
/-! HAL_RING at 0xB0018 (R668). -/
def HAL_RING.MASTER_ID : Fld := ⟨23069440, 0, 0, 11⟩
def HAL_RING.RING_N : Fld := ⟨23069452, 0, 0, 12⟩
/-! HAL_LINKDLY at 0xB001C (R668). -/
def HAL_LINKDLY.DLY_E : Fld := ⟨23069568, 0, 0, 16⟩
def HAL_LINKDLY.DLY_W : Fld := ⟨23069584, 0, 0, 16⟩
/-! HAL_TBLO at 0xB0020 (R669). -/
def HAL_TBLO.TBLO : Fld := ⟨23069696, 0, 0, 32⟩
/-! HAL_TBHI at 0xB0024 (R669). -/
def HAL_TBHI.TBHI : Fld := ⟨23069824, 0, 0, 32⟩
/-! HAL_OPREQ at 0xB0030 (R670). -/
def HAL_OPREQ.KEY : Fld := ⟨23070208, 0, 0, 8⟩
def HAL_OPREQ.OP : Fld := ⟨23070216, 0, 0, 3⟩
def HAL_OPREQ.ID : Fld := ⟨23070220, 0, 0, 16⟩
/-! HAL_OPT_LO at 0xB0034 (R671). -/
def HAL_OPT_LO.T_LO : Fld := ⟨23070336, 0, 0, 32⟩
/-! HAL_OPT_HI at 0xB0038 (R671). -/
def HAL_OPT_HI.T_HI : Fld := ⟨23070464, 0, 0, 32⟩
/-! HAL_OPARG at 0xB003C (R671). -/
def HAL_OPARG.DEST : Fld := ⟨23070592, 0, 0, 17⟩
def HAL_OPARG.SCOPE : Fld := ⟨23070609, 0, 0, 1⟩
def HAL_OPARG.GROUP : Fld := ⟨23070610, 0, 0, 3⟩
def HAL_OPARG.COUNT : Fld := ⟨23070613, 0, 0, 7⟩
/-! HAL_OPSTAT at 0xB0040 (R672). -/
def HAL_OPSTAT.BUSY : Fld := ⟨23070720, 0, 0, 1⟩
def HAL_OPSTAT.OP : Fld := ⟨23070721, 0, 0, 3⟩
def HAL_OPSTAT.RESULT : Fld := ⟨23070724, 0, 0, 4⟩
def HAL_OPSTAT.MISSING : Fld := ⟨23070728, 0, 0, 8⟩
def HAL_OPSTAT.OPDONE_EV : Fld := ⟨23070736, 0, 0, 1⟩
def HAL_OPSTAT.RCVD : Fld := ⟨23070737, 0, 0, 7⟩
def HAL_OPSTAT.OPDONE_CNT : Fld := ⟨23070744, 0, 0, 8⟩
/-! HAL_BAR at 0xB0050 (R673). -/
def HAL_BAR.BID : Fld := ⟨23071232, 0, 128, 16⟩
def HAL_BAR.STATE : Fld := ⟨23071248, 0, 128, 2⟩
def HAL_BAR.ORIG : Fld := ⟨23071250, 0, 128, 1⟩
def HAL_BAR.REL_EV : Fld := ⟨23071256, 0, 128, 1⟩
/-! HAL_RXFAULT at 0xB0060 (R674). -/
def HAL_RXFAULT.SRC : Fld := ⟨23071744, 0, 0, 17⟩
def HAL_RXFAULT.CODE : Fld := ⟨23071761, 0, 0, 7⟩
def HAL_RXFAULT.CLASS : Fld := ⟨23071768, 0, 0, 2⟩
def HAL_RXFAULT.RAIL : Fld := ⟨23071770, 0, 0, 3⟩
/-! HAL_BARCNT at 0xB0064 (R675). -/
def HAL_BARCNT.REL_CNT0 : Fld := ⟨23071872, 0, 0, 8⟩
def HAL_BARCNT.REL_CNT1 : Fld := ⟨23071880, 0, 0, 8⟩
def HAL_BARCNT.REL_CNT2 : Fld := ⟨23071888, 0, 0, 8⟩
def HAL_BARCNT.REL_CNT3 : Fld := ⟨23071896, 0, 0, 8⟩
/-! HAL_SNAP at 0xB0080 (R676). -/
def HAL_SNAP.V0 : Fld := ⟨23072768, 0, 128, 16⟩
def HAL_SNAP.V1 : Fld := ⟨23072784, 0, 128, 16⟩
/-! HAL_SNAPSTAT at 0xB00A0 (R676). -/
def HAL_SNAPSTAT.ID : Fld := ⟨23073792, 0, 0, 16⟩
def HAL_SNAPSTAT.LATE : Fld := ⟨23073808, 0, 0, 1⟩
def HAL_SNAPSTAT.UNLOCKED : Fld := ⟨23073809, 0, 0, 1⟩
def HAL_SNAPSTAT.SCOPE : Fld := ⟨23073810, 0, 0, 1⟩
def HAL_SNAPSTAT.GROUP : Fld := ⟨23073811, 0, 0, 3⟩
/-! PAIR_CFG at 0xB0200 (R678). -/
def PAIR_CFG.STG_SEL : Fld := ⟨23085056, 0, 0, 7⟩
def PAIR_CFG.TRK_EN : Fld := ⟨23085063, 0, 0, 1⟩
def PAIR_CFG.XCHK_TOL : Fld := ⟨23085064, 0, 0, 16⟩
def PAIR_CFG.XCHK_N : Fld := ⟨23085080, 0, 0, 4⟩
/-! PAIR_TRK at 0xB0204 (R679). -/
def PAIR_TRK.TRK_MAX : Fld := ⟨23085184, 0, 0, 16⟩
/-! PAIR_STAT at 0xB0208 (R680). -/
def PAIR_STAT.OWNER : Fld := ⟨23085312, 0, 0, 1⟩
def PAIR_STAT.ARMED : Fld := ⟨23085313, 0, 0, 1⟩
def PAIR_STAT.PARTNER_HB : Fld := ⟨23085314, 0, 0, 1⟩
def PAIR_STAT.PARTNER_ARMED : Fld := ⟨23085315, 0, 0, 1⟩
def PAIR_STAT.XMIS : Fld := ⟨23085316, 0, 0, 8⟩
def PAIR_STAT.TAKEOVER_EV : Fld := ⟨23085328, 0, 0, 1⟩
def PAIR_STAT.SELFFLT_EV : Fld := ⟨23085329, 0, 0, 1⟩
def PAIR_STAT.HBLOST_EV : Fld := ⟨23085330, 0, 0, 1⟩
def PAIR_STAT.XMIS_EV : Fld := ⟨23085331, 0, 0, 1⟩
def PAIR_STAT.HOLD_CNT : Fld := ⟨23085336, 0, 0, 8⟩
/-! PAIR_EVCNT at 0xB020C (R681). -/
def PAIR_EVCNT.TAKEOVER_CNT : Fld := ⟨23085440, 0, 0, 8⟩
def PAIR_EVCNT.SELFFLT_CNT : Fld := ⟨23085448, 0, 0, 8⟩
def PAIR_EVCNT.HBLOST_CNT : Fld := ⟨23085456, 0, 0, 8⟩
def PAIR_EVCNT.XMIS_CNT : Fld := ⟨23085464, 0, 0, 8⟩
/-! PAIR_XCNT at 0xB0210 (R681). -/
def PAIR_XCNT.XWIN_CNT : Fld := ⟨23085568, 0, 0, 16⟩
def PAIR_XCNT.XSKIP_CNT : Fld := ⟨23085584, 0, 0, 16⟩
/-! PAIR_DIFF at 0xB0220 (R682). -/
def PAIR_DIFF.DIFF : Fld := ⟨23086080, 128, 0, 16⟩
/-! HAL_COLL_SRC at 0xB1000 (R677). -/
def HAL_COLL_SRC.SRC : Fld := ⟨23199744, 2048, 0, 17⟩
/-! HAL_COLL at 0xB1004 (R677). -/
def HAL_COLL.DATA : Fld := ⟨23199872, 2048, 128, 32⟩
/-- Indexed view: release count of barrier slot i (R675). -/
def HAL_BARCNT.REL_CNT : Fld := ⟨23071872, 8, 0, 8⟩

/-- Rows of the register map: the HALYARD block. DESIGN CHOICE (assumption log 54): the words 11 to 15 of HAL_COLLi, which
R677 calls reserved, name no register here, so a write of one is refused and counted (R761) and not only ignored (R7). -/
def tableHalyard : List RegDef :=
  [ ⟨0xB0000, 0x0, 1, 0, 1, [⟨HAL_CFG.EN_E, .img⟩, ⟨HAL_CFG.EN_W, .img⟩, ⟨HAL_CFG.NODE_ID, .img⟩, ⟨HAL_CFG.MASTER_ELIG, .img⟩, ⟨HAL_CFG.RESET_EN, .img⟩, ⟨HAL_CFG.FAULT_BCAST, .img⟩, ⟨HAL_CFG.PAIR_PORT, .img⟩]⟩,
    ⟨0xB0004, 0x0, 1, 0, 1, [⟨HAL_ASYM.ASYM_E, .img⟩, ⟨HAL_ASYM.ASYM_W, .img⟩]⟩,
    ⟨0xB0008, 0x0, 1, 0, 1, [⟨HAL_STAT.UP_E, .ro⟩, ⟨HAL_STAT.UP_W, .ro⟩, ⟨HAL_STAT.INTACT, .ro⟩, ⟨HAL_STAT.TB_LOCK, .ro⟩, ⟨HAL_STAT.TB_COARSE, .ro⟩, ⟨HAL_STAT.IS_MASTER, .ro⟩, ⟨HAL_STAT.HOLDOVER, .ro⟩, ⟨HAL_STAT.LINK_EV, .w1c⟩, ⟨HAL_STAT.RINGBRK_EV, .w1c⟩, ⟨HAL_STAT.LOCKLOST_EV, .w1c⟩, ⟨HAL_STAT.RXFAULT_EV, .w1c⟩, ⟨HAL_STAT.UNK_EV, .w1c⟩, ⟨HAL_STAT.STEP_EV, .w1c⟩]⟩,
    ⟨0xB000C, 0x0, 1, 0, 1, [⟨HAL_EVCNT.LINK_CNT, .ro⟩, ⟨HAL_EVCNT.RINGBRK_CNT, .ro⟩, ⟨HAL_EVCNT.LOCKLOST_CNT, .ro⟩, ⟨HAL_EVCNT.RXFAULT_CNT, .ro⟩]⟩,
    ⟨0xB0010, 0x0, 1, 0, 1, [⟨HAL_ERRCNT.CRC_E_CNT, .ro⟩, ⟨HAL_ERRCNT.CRC_W_CNT, .ro⟩, ⟨HAL_ERRCNT.UNK_CNT, .ro⟩, ⟨HAL_ERRCNT.STEP_CNT, .ro⟩]⟩,
    ⟨0xB0014, 0x0, 1, 0, 1, [⟨HAL_TIME.OFFSET, .ro⟩, ⟨HAL_TIME.HOPS_M, .ro⟩]⟩,
    ⟨0xB0018, 0x0, 1, 0, 1, [⟨HAL_RING.MASTER_ID, .ro⟩, ⟨HAL_RING.RING_N, .ro⟩]⟩,
    ⟨0xB001C, 0x0, 1, 0, 1, [⟨HAL_LINKDLY.DLY_E, .ro⟩, ⟨HAL_LINKDLY.DLY_W, .ro⟩]⟩,
    ⟨0xB0020, 0x0, 1, 0, 1, [⟨HAL_TBLO.TBLO, .ro⟩]⟩,
    ⟨0xB0024, 0x0, 1, 0, 1, [⟨HAL_TBHI.TBHI, .ro⟩]⟩,
    ⟨0xB0030, 0x0, 1, 0, 1, [⟨HAL_OPREQ.KEY, .wo⟩, ⟨HAL_OPREQ.OP, .wo⟩, ⟨HAL_OPREQ.ID, .wo⟩]⟩,
    ⟨0xB0034, 0x0, 1, 0, 1, [⟨HAL_OPT_LO.T_LO, .rw⟩]⟩,
    ⟨0xB0038, 0x0, 1, 0, 1, [⟨HAL_OPT_HI.T_HI, .rw⟩]⟩,
    ⟨0xB003C, 0x0, 1, 0, 1, [⟨HAL_OPARG.DEST, .rw⟩, ⟨HAL_OPARG.SCOPE, .rw⟩, ⟨HAL_OPARG.GROUP, .rw⟩, ⟨HAL_OPARG.COUNT, .rw⟩]⟩,
    ⟨0xB0040, 0x0, 1, 0, 1, [⟨HAL_OPSTAT.BUSY, .ro⟩, ⟨HAL_OPSTAT.OP, .ro⟩, ⟨HAL_OPSTAT.RESULT, .ro⟩, ⟨HAL_OPSTAT.MISSING, .ro⟩, ⟨HAL_OPSTAT.OPDONE_EV, .w1c⟩, ⟨HAL_OPSTAT.RCVD, .ro⟩, ⟨HAL_OPSTAT.OPDONE_CNT, .ro⟩]⟩,
    ⟨0xB0050, 0x0, 1, 4, 4, [⟨HAL_BAR.BID, .ro⟩, ⟨HAL_BAR.STATE, .ro⟩, ⟨HAL_BAR.ORIG, .ro⟩, ⟨HAL_BAR.REL_EV, .w1c⟩]⟩,
    ⟨0xB0060, 0x0, 1, 0, 1, [⟨HAL_RXFAULT.SRC, .ro⟩, ⟨HAL_RXFAULT.CODE, .ro⟩, ⟨HAL_RXFAULT.CLASS, .ro⟩, ⟨HAL_RXFAULT.RAIL, .ro⟩]⟩,
    ⟨0xB0064, 0x0, 1, 0, 1, [⟨HAL_BARCNT.REL_CNT0, .ro⟩, ⟨HAL_BARCNT.REL_CNT1, .ro⟩, ⟨HAL_BARCNT.REL_CNT2, .ro⟩, ⟨HAL_BARCNT.REL_CNT3, .ro⟩]⟩,
    ⟨0xB0080, 0x0, 1, 4, 8, [⟨HAL_SNAP.V0, .ro⟩, ⟨HAL_SNAP.V1, .ro⟩]⟩,
    ⟨0xB00A0, 0x0, 1, 0, 1, [⟨HAL_SNAPSTAT.ID, .ro⟩, ⟨HAL_SNAPSTAT.LATE, .ro⟩, ⟨HAL_SNAPSTAT.UNLOCKED, .ro⟩, ⟨HAL_SNAPSTAT.SCOPE, .ro⟩, ⟨HAL_SNAPSTAT.GROUP, .ro⟩]⟩,
    ⟨0xB0200, 0x0, 1, 0, 1, [⟨PAIR_CFG.STG_SEL, .img⟩, ⟨PAIR_CFG.TRK_EN, .img⟩, ⟨PAIR_CFG.XCHK_TOL, .img⟩, ⟨PAIR_CFG.XCHK_N, .img⟩]⟩,
    ⟨0xB0204, 0x0, 1, 0, 1, [⟨PAIR_TRK.TRK_MAX, .img⟩]⟩,
    ⟨0xB0208, 0x0, 1, 0, 1, [⟨PAIR_STAT.OWNER, .ro⟩, ⟨PAIR_STAT.ARMED, .ro⟩, ⟨PAIR_STAT.PARTNER_HB, .ro⟩, ⟨PAIR_STAT.PARTNER_ARMED, .ro⟩, ⟨PAIR_STAT.XMIS, .ro⟩, ⟨PAIR_STAT.TAKEOVER_EV, .w1c⟩, ⟨PAIR_STAT.SELFFLT_EV, .w1c⟩, ⟨PAIR_STAT.HBLOST_EV, .w1c⟩, ⟨PAIR_STAT.XMIS_EV, .w1c⟩, ⟨PAIR_STAT.HOLD_CNT, .ro⟩]⟩,
    ⟨0xB020C, 0x0, 1, 0, 1, [⟨PAIR_EVCNT.TAKEOVER_CNT, .ro⟩, ⟨PAIR_EVCNT.SELFFLT_CNT, .ro⟩, ⟨PAIR_EVCNT.HBLOST_CNT, .ro⟩, ⟨PAIR_EVCNT.XMIS_CNT, .ro⟩]⟩,
    ⟨0xB0210, 0x0, 1, 0, 1, [⟨PAIR_XCNT.XWIN_CNT, .ro⟩, ⟨PAIR_XCNT.XSKIP_CNT, .ro⟩]⟩,
    ⟨0xB0220, 0x4, 8, 0, 1, [⟨PAIR_DIFF.DIFF, .ro⟩]⟩,
    ⟨0xB1000, 0x40, 64, 0, 1, [⟨HAL_COLL_SRC.SRC, .ro⟩]⟩,
    ⟨0xB1004, 0x40, 64, 4, 10, [⟨HAL_COLL.DATA, .ro⟩]⟩ ]

end Sys2Proof.Machine.Reg
end

