-- ==== Sys2Proof/Machine/RegsHkAdc.lean ====
section
/-!
DEFINITION. The register fields of the HKADC block, and the rows of the register map that hold them.
A field is named REGISTER.FIELD as the field tables of spec/ name it; each register cites the rule that gives its table.
-/

namespace Sys2Proof.Machine.Reg

/-! HK_CFG at 0x70000 (R513). -/
def HK_CFG.REF_SEL : Fld := ⟨14680064, 0, 0, 1⟩
def HK_CFG.QWM : Fld := ⟨14680072, 0, 0, 9⟩
/-! HK_STAT at 0x70004 (R514). -/
def HK_STAT.BUSY_A : Fld := ⟨14680192, 0, 0, 1⟩
def HK_STAT.BUSY_B : Fld := ⟨14680193, 0, 0, 1⟩
def HK_STAT.CAL_BUSY : Fld := ⟨14680194, 0, 0, 1⟩
def HK_STAT.QLEVEL : Fld := ⟨14680196, 0, 0, 9⟩
def HK_STAT.INJ_PEND : Fld := ⟨14680205, 0, 0, 3⟩
def HK_STAT.QOVF_EV : Fld := ⟨14680208, 0, 0, 1⟩
def HK_STAT.QWM_EV : Fld := ⟨14680209, 0, 0, 1⟩
def HK_STAT.QUNDER_EV : Fld := ⟨14680210, 0, 0, 1⟩
def HK_STAT.INJREF_EV : Fld := ⟨14680211, 0, 0, 1⟩
def HK_STAT.CALDONE_EV : Fld := ⟨14680212, 0, 0, 1⟩
def HK_STAT.CALFAIL_EV : Fld := ⟨14680213, 0, 0, 1⟩
def HK_STAT.REFCAL_EV : Fld := ⟨14680214, 0, 0, 1⟩
/-! HK_EVCNT0 at 0x70008 (R515). -/
def HK_EVCNT0.QOVF_CNT : Fld := ⟨14680320, 0, 0, 8⟩
def HK_EVCNT0.QWM_CNT : Fld := ⟨14680328, 0, 0, 8⟩
def HK_EVCNT0.QUNDER_CNT : Fld := ⟨14680336, 0, 0, 8⟩
def HK_EVCNT0.INJREF_CNT : Fld := ⟨14680344, 0, 0, 8⟩
/-! HK_EVCNT1 at 0x7000C (R515). -/
def HK_EVCNT1.CALDONE_CNT : Fld := ⟨14680448, 0, 0, 8⟩
def HK_EVCNT1.CALFAIL_CNT : Fld := ⟨14680456, 0, 0, 8⟩
def HK_EVCNT1.REFCAL_CNT : Fld := ⟨14680464, 0, 0, 8⟩
/-! HK_SWTRIG at 0x70010 (R516). -/
def HK_SWTRIG.TRIG : Fld := ⟨14680576, 0, 0, 8⟩
/-! HK_INJ at 0x70014 (R517). -/
def HK_INJ.CH : Fld := ⟨14680704, 0, 0, 6⟩
def HK_INJ.CONV : Fld := ⟨14680710, 0, 0, 2⟩
def HK_INJ.DACIDX : Fld := ⟨14680712, 0, 0, 6⟩
/-! HK_CALCMD at 0x70018 (R518). -/
def HK_CALCMD.OP : Fld := ⟨14680832, 0, 0, 2⟩
def HK_CALCMD.SET : Fld := ⟨14680836, 0, 0, 4⟩
def HK_CALCMD.REF_VAL : Fld := ⟨14680848, 0, 0, 16⟩
/-! HK_CALSTAT at 0x7001C (R519). -/
def HK_CALSTAT.PHASE : Fld := ⟨14680960, 0, 0, 3⟩
def HK_CALSTAT.SET : Fld := ⟨14680964, 0, 0, 4⟩
def HK_CALSTAT.LAST : Fld := ⟨14680968, 0, 0, 3⟩
/-! HK_QLO at 0x70020 (R520). -/
def HK_QLO.ENTRY_LO : Fld := ⟨14681088, 0, 0, 32⟩
/-! HK_QHI at 0x70024 (R520). -/
def HK_QHI.ENTRY_HI : Fld := ⟨14681216, 0, 0, 32⟩
/-! SEQ_CFG at 0x70100 (R521). -/
def SEQ_CFG.EN : Fld := ⟨14688256, 2048, 0, 1⟩
def SEQ_CFG.CONV : Fld := ⟨14688257, 2048, 0, 1⟩
def SEQ_CFG.POLICY : Fld := ⟨14688258, 2048, 0, 1⟩
def SEQ_CFG.LEN : Fld := ⟨14688260, 2048, 0, 4⟩
def SEQ_CFG.TRIG : Fld := ⟨14688264, 2048, 0, 3⟩
/-! SEQ_TRIG at 0x70104 (R522). -/
def SEQ_TRIG.RAIL : Fld := ⟨14688384, 2048, 0, 3⟩
def SEQ_TRIG.DIV : Fld := ⟨14688388, 2048, 0, 8⟩
def SEQ_TRIG.MON : Fld := ⟨14688396, 2048, 0, 5⟩
def SEQ_TRIG.EDGE : Fld := ⟨14688401, 2048, 0, 2⟩
/-! SEQ_TOFS at 0x70108 (R523). -/
def SEQ_TOFS.TRG_OFS : Fld := ⟨14688512, 2048, 0, 16⟩
/-! SEQ_TBLO at 0x7010C (R523). -/
def SEQ_TBLO.TB0_LO : Fld := ⟨14688640, 2048, 0, 32⟩
/-! SEQ_TBHI at 0x70110 (R523). -/
def SEQ_TBHI.TB0_HI : Fld := ⟨14688768, 2048, 0, 32⟩
/-! SEQ_PERIOD at 0x70114 (R523). -/
def SEQ_PERIOD.PERIOD : Fld := ⟨14688896, 2048, 0, 16⟩
/-! SEQ_STAT at 0x70118 (R524). -/
def SEQ_STAT.RUNNING : Fld := ⟨14689024, 2048, 0, 1⟩
def SEQ_STAT.PENDING : Fld := ⟨14689025, 2048, 0, 1⟩
def SEQ_STAT.HELD : Fld := ⟨14689026, 2048, 0, 1⟩
def SEQ_STAT.SUSPENDED : Fld := ⟨14689027, 2048, 0, 1⟩
def SEQ_STAT.NEXT_ENT : Fld := ⟨14689028, 2048, 0, 4⟩
def SEQ_STAT.OVR_EV : Fld := ⟨14689032, 2048, 0, 1⟩
def SEQ_STAT.OVR_CNT : Fld := ⟨14689040, 2048, 0, 8⟩
/-! SEQ_ENT at 0x70120 (R525). -/
def SEQ_ENT.CH : Fld := ⟨14689280, 2048, 128, 6⟩
def SEQ_ENT.DACIDX : Fld := ⟨14689286, 2048, 128, 6⟩
def SEQ_ENT.CH1 : Fld := ⟨14689296, 2048, 128, 6⟩
def SEQ_ENT.DACIDX1 : Fld := ⟨14689302, 2048, 128, 6⟩
/-! CAL_BIND at 0x70400 (R526). -/
def CAL_BIND.CH : Fld := ⟨14712832, 512, 0, 6⟩
def CAL_BIND.CONV : Fld := ⟨14712838, 512, 0, 1⟩
def CAL_BIND.VALID : Fld := ⟨14712840, 512, 0, 1⟩
/-! CAL_GAIN at 0x70404 (R527). -/
def CAL_GAIN.GAIN : Fld := ⟨14712960, 512, 0, 32⟩
/-! CAL_OFS at 0x70408 (R527). -/
def CAL_OFS.OFFSET : Fld := ⟨14713088, 512, 0, 24⟩

/-- Rows of the register map: the HKADC block. -/
def tableHkAdc : List RegDef :=
  [ ⟨0x70000, 0x0, 1, 0, 1, [⟨HK_CFG.REF_SEL, .img⟩, ⟨HK_CFG.QWM, .rw⟩]⟩,
    ⟨0x70004, 0x0, 1, 0, 1, [⟨HK_STAT.BUSY_A, .ro⟩, ⟨HK_STAT.BUSY_B, .ro⟩, ⟨HK_STAT.CAL_BUSY, .ro⟩, ⟨HK_STAT.QLEVEL, .ro⟩, ⟨HK_STAT.INJ_PEND, .ro⟩, ⟨HK_STAT.QOVF_EV, .w1c⟩, ⟨HK_STAT.QWM_EV, .w1c⟩, ⟨HK_STAT.QUNDER_EV, .w1c⟩, ⟨HK_STAT.INJREF_EV, .w1c⟩, ⟨HK_STAT.CALDONE_EV, .w1c⟩, ⟨HK_STAT.CALFAIL_EV, .w1c⟩, ⟨HK_STAT.REFCAL_EV, .w1c⟩]⟩,
    ⟨0x70008, 0x0, 1, 0, 1, [⟨HK_EVCNT0.QOVF_CNT, .ro⟩, ⟨HK_EVCNT0.QWM_CNT, .ro⟩, ⟨HK_EVCNT0.QUNDER_CNT, .ro⟩, ⟨HK_EVCNT0.INJREF_CNT, .ro⟩]⟩,
    ⟨0x7000C, 0x0, 1, 0, 1, [⟨HK_EVCNT1.CALDONE_CNT, .ro⟩, ⟨HK_EVCNT1.CALFAIL_CNT, .ro⟩, ⟨HK_EVCNT1.REFCAL_CNT, .ro⟩]⟩,
    ⟨0x70010, 0x0, 1, 0, 1, [⟨HK_SWTRIG.TRIG, .wo⟩]⟩,
    ⟨0x70014, 0x0, 1, 0, 1, [⟨HK_INJ.CH, .wo⟩, ⟨HK_INJ.CONV, .wo⟩, ⟨HK_INJ.DACIDX, .wo⟩]⟩,
    ⟨0x70018, 0x0, 1, 0, 1, [⟨HK_CALCMD.OP, .wo⟩, ⟨HK_CALCMD.SET, .wo⟩, ⟨HK_CALCMD.REF_VAL, .wo⟩]⟩,
    ⟨0x7001C, 0x0, 1, 0, 1, [⟨HK_CALSTAT.PHASE, .ro⟩, ⟨HK_CALSTAT.SET, .ro⟩, ⟨HK_CALSTAT.LAST, .ro⟩]⟩,
    ⟨0x70020, 0x0, 1, 0, 1, [⟨HK_QLO.ENTRY_LO, .ro⟩]⟩,
    ⟨0x70024, 0x0, 1, 0, 1, [⟨HK_QHI.ENTRY_HI, .ro⟩]⟩,
    ⟨0x70100, 0x40, 8, 0, 1, [⟨SEQ_CFG.EN, .rw⟩, ⟨SEQ_CFG.CONV, .rwl⟩, ⟨SEQ_CFG.POLICY, .rwl⟩, ⟨SEQ_CFG.LEN, .rwl⟩, ⟨SEQ_CFG.TRIG, .rwl⟩]⟩,
    ⟨0x70104, 0x40, 8, 0, 1, [⟨SEQ_TRIG.RAIL, .rwl⟩, ⟨SEQ_TRIG.DIV, .rwl⟩, ⟨SEQ_TRIG.MON, .rwl⟩, ⟨SEQ_TRIG.EDGE, .rwl⟩]⟩,
    ⟨0x70108, 0x40, 8, 0, 1, [⟨SEQ_TOFS.TRG_OFS, .rwl⟩]⟩,
    ⟨0x7010C, 0x40, 8, 0, 1, [⟨SEQ_TBLO.TB0_LO, .rw⟩]⟩,
    ⟨0x70110, 0x40, 8, 0, 1, [⟨SEQ_TBHI.TB0_HI, .rw⟩]⟩,
    ⟨0x70114, 0x40, 8, 0, 1, [⟨SEQ_PERIOD.PERIOD, .rw⟩]⟩,
    ⟨0x70118, 0x40, 8, 0, 1, [⟨SEQ_STAT.RUNNING, .ro⟩, ⟨SEQ_STAT.PENDING, .ro⟩, ⟨SEQ_STAT.HELD, .ro⟩, ⟨SEQ_STAT.SUSPENDED, .ro⟩, ⟨SEQ_STAT.NEXT_ENT, .ro⟩, ⟨SEQ_STAT.OVR_EV, .w1c⟩, ⟨SEQ_STAT.OVR_CNT, .ro⟩]⟩,
    ⟨0x70120, 0x40, 8, 4, 8, [⟨SEQ_ENT.CH, .rwl⟩, ⟨SEQ_ENT.DACIDX, .rwl⟩, ⟨SEQ_ENT.CH1, .rwl⟩, ⟨SEQ_ENT.DACIDX1, .rwl⟩]⟩,
    ⟨0x70400, 0x10, 16, 0, 1, [⟨CAL_BIND.CH, .rw⟩, ⟨CAL_BIND.CONV, .rw⟩, ⟨CAL_BIND.VALID, .rw⟩]⟩,
    ⟨0x70404, 0x10, 16, 0, 1, [⟨CAL_GAIN.GAIN, .rw⟩]⟩,
    ⟨0x70408, 0x10, 16, 0, 1, [⟨CAL_OFS.OFFSET, .rw⟩]⟩ ]

end Sys2Proof.Machine.Reg
end

