-- ==== Sys2Proof/Machine/RegsHostPorts.lean ====
section
/-!
DEFINITION. The register fields of the HOST block, and the rows of the register map that hold them.
A field is named REGISTER.FIELD as the field tables of spec/ name it; each register cites the rule that gives its table.
-/

namespace Sys2Proof.Machine.Reg

/-! HOST_REFUSED at 0xC0000 (R723). -/
def HOST_REFUSED.CNT : Fld := ⟨25165824, 0, 0, 16⟩
def HOST_REFUSED.SRC : Fld := ⟨25165840, 0, 0, 2⟩
/-! HOST_REFADDR at 0xC0004 (R724). -/
def HOST_REFADDR.ADDR : Fld := ⟨25165952, 0, 0, 32⟩
/-! HOST_PMBCFG at 0xC0008 (R725). -/
def HOST_PMBCFG.PEC_REQ : Fld := ⟨25166080, 0, 0, 1⟩
def HOST_PMBCFG.ALERT_EN : Fld := ⟨25166081, 0, 0, 1⟩
def HOST_PMBCFG.ALERT_MASK : Fld := ⟨25166088, 0, 0, 6⟩
/-! HOST_PMBSTAT at 0xC000C (R726). -/
def HOST_PMBSTAT.PAGE : Fld := ⟨25166208, 0, 0, 8⟩
def HOST_PMBSTAT.PHASE : Fld := ⟨25166216, 0, 0, 8⟩
def HOST_PMBSTAT.PEC_EV : Fld := ⟨25166224, 0, 0, 1⟩
def HOST_PMBSTAT.TIMEOUT_EV : Fld := ⟨25166225, 0, 0, 1⟩
def HOST_PMBSTAT.UNSUP_EV : Fld := ⟨25166226, 0, 0, 1⟩
def HOST_PMBSTAT.BADDATA_EV : Fld := ⟨25166227, 0, 0, 1⟩
/-! HOST_PMBEVCNT at 0xC0010 (R727). -/
def HOST_PMBEVCNT.PEC_CNT : Fld := ⟨25166336, 0, 0, 8⟩
def HOST_PMBEVCNT.TIMEOUT_CNT : Fld := ⟨25166344, 0, 0, 8⟩
def HOST_PMBEVCNT.UNSUP_CNT : Fld := ⟨25166352, 0, 0, 8⟩
def HOST_PMBEVCNT.BADDATA_CNT : Fld := ⟨25166360, 0, 0, 8⟩
/-! HOST_REGPTR at 0xC0014 (R728). -/
def HOST_REGPTR.ADDR : Fld := ⟨25166464, 0, 0, 32⟩
/-! AVS_CFG at 0xC0100 (R729). -/
def AVS_CFG.EN : Fld := ⟨25174016, 2048, 0, 1⟩
def AVS_CFG.IUNIT : Fld := ⟨25174017, 2048, 0, 1⟩
/-! AVS_MAP at 0xC0104 (R730). -/
def AVS_MAP.SEL0 : Fld := ⟨25174144, 2048, 0, 4⟩
def AVS_MAP.SEL1 : Fld := ⟨25174148, 2048, 0, 4⟩
def AVS_MAP.SEL2 : Fld := ⟨25174152, 2048, 0, 4⟩
def AVS_MAP.SEL3 : Fld := ⟨25174156, 2048, 0, 4⟩
def AVS_MAP.SEL4 : Fld := ⟨25174160, 2048, 0, 4⟩
def AVS_MAP.SEL5 : Fld := ⟨25174164, 2048, 0, 4⟩
def AVS_MAP.SEL6 : Fld := ⟨25174168, 2048, 0, 4⟩
def AVS_MAP.SEL7 : Fld := ⟨25174172, 2048, 0, 4⟩
/-! AVS_STAT at 0xC0108 (R731). -/
def AVS_STAT.HOLD_N : Fld := ⟨25174272, 2048, 0, 3⟩
def AVS_STAT.CRC_EV : Fld := ⟨25174280, 2048, 0, 1⟩
def AVS_STAT.REJ_EV : Fld := ⟨25174281, 2048, 0, 1⟩
def AVS_STAT.FRAME_EV : Fld := ⟨25174282, 2048, 0, 1⟩
/-! AVS_EVCNT at 0xC010C (R732). -/
def AVS_EVCNT.CRC_CNT : Fld := ⟨25174400, 2048, 0, 8⟩
def AVS_EVCNT.REJ_CNT : Fld := ⟨25174408, 2048, 0, 8⟩
def AVS_EVCNT.FRAME_CNT : Fld := ⟨25174416, 2048, 0, 8⟩
/-! AVS_PMODE at 0xC0110 (R733). -/
def AVS_PMODE.PMODE : Fld := ⟨25174528, 2048, 0, 16⟩
/-! AVS_RSTAT at 0xC0180 (R734). -/
def AVS_RSTAT.R0 : Fld := ⟨25178112, 0, 0, 4⟩
def AVS_RSTAT.R1 : Fld := ⟨25178116, 0, 0, 4⟩
def AVS_RSTAT.R2 : Fld := ⟨25178120, 0, 0, 4⟩
def AVS_RSTAT.R3 : Fld := ⟨25178124, 0, 0, 4⟩
def AVS_RSTAT.R4 : Fld := ⟨25178128, 0, 0, 4⟩
def AVS_RSTAT.R5 : Fld := ⟨25178132, 0, 0, 4⟩
def AVS_RSTAT.R6 : Fld := ⟨25178136, 0, 0, 4⟩
def AVS_RSTAT.R7 : Fld := ⟨25178140, 0, 0, 4⟩
/-- Indexed view: rail map of port i, select j (R730). -/
def AVS_MAP.SEL : Fld := ⟨25174144, 2048, 4, 4⟩
/-- Indexed view: AVSBus status bits of rail i (R734). -/
def AVS_RSTAT.R : Fld := ⟨25178112, 4, 0, 4⟩

/-- Rows of the register map: the HOST block. -/
def tableHostPorts : List RegDef :=
  [ ⟨0xC0000, 0x0, 1, 0, 1, [⟨HOST_REFUSED.CNT, .ro⟩, ⟨HOST_REFUSED.SRC, .ro⟩]⟩,
    ⟨0xC0004, 0x0, 1, 0, 1, [⟨HOST_REFADDR.ADDR, .ro⟩]⟩,
    ⟨0xC0008, 0x0, 1, 0, 1, [⟨HOST_PMBCFG.PEC_REQ, .img⟩, ⟨HOST_PMBCFG.ALERT_EN, .rw⟩, ⟨HOST_PMBCFG.ALERT_MASK, .rw⟩]⟩,
    ⟨0xC000C, 0x0, 1, 0, 1, [⟨HOST_PMBSTAT.PAGE, .ro⟩, ⟨HOST_PMBSTAT.PHASE, .ro⟩, ⟨HOST_PMBSTAT.PEC_EV, .w1c⟩, ⟨HOST_PMBSTAT.TIMEOUT_EV, .w1c⟩, ⟨HOST_PMBSTAT.UNSUP_EV, .w1c⟩, ⟨HOST_PMBSTAT.BADDATA_EV, .w1c⟩]⟩,
    ⟨0xC0010, 0x0, 1, 0, 1, [⟨HOST_PMBEVCNT.PEC_CNT, .ro⟩, ⟨HOST_PMBEVCNT.TIMEOUT_CNT, .ro⟩, ⟨HOST_PMBEVCNT.UNSUP_CNT, .ro⟩, ⟨HOST_PMBEVCNT.BADDATA_CNT, .ro⟩]⟩,
    ⟨0xC0014, 0x0, 1, 0, 1, [⟨HOST_REGPTR.ADDR, .ro⟩]⟩,
    ⟨0xC0100, 0x40, 2, 0, 1, [⟨AVS_CFG.EN, .img⟩, ⟨AVS_CFG.IUNIT, .img⟩]⟩,
    ⟨0xC0104, 0x40, 2, 0, 1, [⟨AVS_MAP.SEL0, .img⟩, ⟨AVS_MAP.SEL1, .img⟩, ⟨AVS_MAP.SEL2, .img⟩, ⟨AVS_MAP.SEL3, .img⟩, ⟨AVS_MAP.SEL4, .img⟩, ⟨AVS_MAP.SEL5, .img⟩, ⟨AVS_MAP.SEL6, .img⟩, ⟨AVS_MAP.SEL7, .img⟩]⟩,
    ⟨0xC0108, 0x40, 2, 0, 1, [⟨AVS_STAT.HOLD_N, .ro⟩, ⟨AVS_STAT.CRC_EV, .w1c⟩, ⟨AVS_STAT.REJ_EV, .w1c⟩, ⟨AVS_STAT.FRAME_EV, .w1c⟩]⟩,
    ⟨0xC010C, 0x40, 2, 0, 1, [⟨AVS_EVCNT.CRC_CNT, .ro⟩, ⟨AVS_EVCNT.REJ_CNT, .ro⟩, ⟨AVS_EVCNT.FRAME_CNT, .ro⟩]⟩,
    ⟨0xC0110, 0x40, 2, 0, 1, [⟨AVS_PMODE.PMODE, .ro⟩]⟩,
    ⟨0xC0180, 0x0, 1, 0, 1, [⟨AVS_RSTAT.R0, .ro⟩, ⟨AVS_RSTAT.R1, .ro⟩, ⟨AVS_RSTAT.R2, .ro⟩, ⟨AVS_RSTAT.R3, .ro⟩, ⟨AVS_RSTAT.R4, .ro⟩, ⟨AVS_RSTAT.R5, .ro⟩, ⟨AVS_RSTAT.R6, .ro⟩, ⟨AVS_RSTAT.R7, .ro⟩]⟩ ]

end Sys2Proof.Machine.Reg
end

