-- ==== Sys2Proof/Machine/RegsMon.lean ====
section
/-!
DEFINITION. The register fields of the MON block, and the rows of the register map that hold them.
A field is named REGISTER.FIELD as the field tables of spec/ name it; each register cites the rule that gives its table.
-/

namespace Sys2Proof.Machine.Reg

/-! MON_CFG at 0x80000 (R528). -/
def MON_CFG.SRC : Fld := ⟨16777216, 1024, 0, 6⟩
def MON_CFG.MODE : Fld := ⟨16777222, 1024, 0, 2⟩
def MON_CFG.N : Fld := ⟨16777224, 1024, 0, 4⟩
def MON_CFG.PARK_MODE : Fld := ⟨16777228, 1024, 0, 1⟩
def MON_CFG.WAKE : Fld := ⟨16777229, 1024, 0, 1⟩
def MON_CFG.SAFE_STATE : Fld := ⟨16777230, 1024, 0, 2⟩
def MON_CFG.HYS : Fld := ⟨16777232, 1024, 0, 5⟩
def MON_CFG.DACERR_ACT : Fld := ⟨16777237, 1024, 0, 2⟩
/-! MON_THR at 0x80004 (R529). -/
def MON_THR.LOWER : Fld := ⟨16777344, 1024, 0, 10⟩
def MON_THR.UPPER : Fld := ⟨16777360, 1024, 0, 10⟩
/-! MON_STAT at 0x80008 (R530). -/
def MON_STAT.STATE : Fld := ⟨16777472, 1024, 0, 2⟩
def MON_STAT.START_HOLD : Fld := ⟨16777474, 1024, 0, 1⟩
def MON_STAT.FORCED : Fld := ⟨16777475, 1024, 0, 1⟩
def MON_STAT.RB_ERR_L : Fld := ⟨16777476, 1024, 0, 1⟩
def MON_STAT.RB_ERR_U : Fld := ⟨16777477, 1024, 0, 1⟩
def MON_STAT.ABOVE_EV : Fld := ⟨16777480, 1024, 0, 1⟩
def MON_STAT.BELOW_EV : Fld := ⟨16777481, 1024, 0, 1⟩
def MON_STAT.IN_EV : Fld := ⟨16777482, 1024, 0, 1⟩
def MON_STAT.DACERR_EV : Fld := ⟨16777483, 1024, 0, 1⟩
/-! MON_EVCNT at 0x8000C (R531). -/
def MON_EVCNT.ABOVE_CNT : Fld := ⟨16777600, 1024, 0, 8⟩
def MON_EVCNT.BELOW_CNT : Fld := ⟨16777608, 1024, 0, 8⟩
def MON_EVCNT.IN_CNT : Fld := ⟨16777616, 1024, 0, 8⟩
def MON_EVCNT.DACERR_CNT : Fld := ⟨16777624, 1024, 0, 8⟩
/-! MON_RB at 0x80010 (R532). -/
def MON_RB.RB_LOWER : Fld := ⟨16777728, 1024, 0, 16⟩
def MON_RB.RB_UPPER : Fld := ⟨16777744, 1024, 0, 16⟩
/-! MON_RBCFG at 0x80400 (R533). -/
def MON_RBCFG.RB_TOL : Fld := ⟨16809984, 0, 0, 4⟩
def MON_RBCFG.RB_NEXT : Fld := ⟨16809992, 0, 0, 6⟩

/-- Rows of the register map: the MON block. -/
def tableMon : List RegDef :=
  [ ⟨0x80000, 0x20, 24, 0, 1, [⟨MON_CFG.SRC, .img⟩, ⟨MON_CFG.MODE, .img⟩, ⟨MON_CFG.N, .img⟩, ⟨MON_CFG.PARK_MODE, .img⟩, ⟨MON_CFG.WAKE, .img⟩, ⟨MON_CFG.SAFE_STATE, .img⟩, ⟨MON_CFG.HYS, .img⟩, ⟨MON_CFG.DACERR_ACT, .img⟩]⟩,
    ⟨0x80004, 0x20, 24, 0, 1, [⟨MON_THR.LOWER, .img⟩, ⟨MON_THR.UPPER, .img⟩]⟩,
    ⟨0x80008, 0x20, 24, 0, 1, [⟨MON_STAT.STATE, .ro⟩, ⟨MON_STAT.START_HOLD, .ro⟩, ⟨MON_STAT.FORCED, .ro⟩, ⟨MON_STAT.RB_ERR_L, .ro⟩, ⟨MON_STAT.RB_ERR_U, .ro⟩, ⟨MON_STAT.ABOVE_EV, .w1c⟩, ⟨MON_STAT.BELOW_EV, .w1c⟩, ⟨MON_STAT.IN_EV, .w1c⟩, ⟨MON_STAT.DACERR_EV, .w1c⟩]⟩,
    ⟨0x8000C, 0x20, 24, 0, 1, [⟨MON_EVCNT.ABOVE_CNT, .ro⟩, ⟨MON_EVCNT.BELOW_CNT, .ro⟩, ⟨MON_EVCNT.IN_CNT, .ro⟩, ⟨MON_EVCNT.DACERR_CNT, .ro⟩]⟩,
    ⟨0x80010, 0x20, 24, 0, 1, [⟨MON_RB.RB_LOWER, .ro⟩, ⟨MON_RB.RB_UPPER, .ro⟩]⟩,
    ⟨0x80400, 0x0, 1, 0, 1, [⟨MON_RBCFG.RB_TOL, .img⟩, ⟨MON_RBCFG.RB_NEXT, .ro⟩]⟩ ]

end Sys2Proof.Machine.Reg
end

