-- ==== Sys2Proof/Machine/RegsNvmPower.lean ====
section
/-!
DEFINITION. The register fields of the NVM and the CLOCK and POWER blocks, and the rows of the register map that hold them.
A field is named REGISTER.FIELD as the field tables of spec/ name it; each register cites the rule that gives its table.
-/

namespace Sys2Proof.Machine.Reg

/-! NVM_STAT at 0xD0000 (R755). -/
def NVM_STAT.BUSY : Fld := ⟨27262976, 0, 0, 1⟩
def NVM_STAT.QREC : Fld := ⟨27262977, 0, 0, 4⟩
def NVM_STAT.QLOG : Fld := ⟨27262981, 0, 0, 4⟩
def NVM_STAT.WEAR_PCT : Fld := ⟨27262985, 0, 0, 7⟩
def NVM_STAT.DROP_EV : Fld := ⟨27262992, 0, 0, 1⟩
def NVM_STAT.LOGDROP_EV : Fld := ⟨27262993, 0, 0, 1⟩
def NVM_STAT.BAD_EV : Fld := ⟨27262994, 0, 0, 1⟩
def NVM_STAT.CORRUPT_EV : Fld := ⟨27262995, 0, 0, 1⟩
def NVM_STAT.WEAR_EV : Fld := ⟨27262996, 0, 0, 1⟩
/-! NVM_EVCNT0 at 0xD0004 (R756). -/
def NVM_EVCNT0.DROP_CNT : Fld := ⟨27263104, 0, 0, 8⟩
def NVM_EVCNT0.LOGDROP_CNT : Fld := ⟨27263112, 0, 0, 8⟩
def NVM_EVCNT0.BADEV_CNT : Fld := ⟨27263120, 0, 0, 8⟩
def NVM_EVCNT0.CORRUPT_CNT : Fld := ⟨27263128, 0, 0, 8⟩
/-! NVM_EVCNT1 at 0xD0008 (R756). -/
def NVM_EVCNT1.WEAR_CNT : Fld := ⟨27263232, 0, 0, 8⟩
def NVM_EVCNT1.LOGSUPP_CNT : Fld := ⟨27263240, 0, 0, 8⟩
/-! NVM_INFO at 0xD000C (R757). -/
def NVM_INFO.REC_HELD : Fld := ⟨27263360, 0, 0, 7⟩
def NVM_INFO.BAD_PAGES : Fld := ⟨27263368, 0, 0, 8⟩
def NVM_INFO.SLOG_HELD : Fld := ⟨27263376, 0, 0, 10⟩
/-! NVM_PCYC at 0xD0010 (R758). -/
def NVM_PCYC.PCYC : Fld := ⟨27263488, 0, 0, 32⟩
/-! NVM_RECSEQ at 0xD0014 (R758). -/
def NVM_RECSEQ.RECSEQ : Fld := ⟨27263616, 0, 0, 32⟩
/-! NVM_WEAR at 0xD0018 (R758). -/
def NVM_WEAR.MAX_ERASE : Fld := ⟨27263744, 0, 0, 20⟩
def NVM_WEAR.UNSEALED : Fld := ⟨27263764, 0, 0, 8⟩
/-! NVM_CFG at 0xD001C (R759). -/
def NVM_CFG.HIST_RAIL : Fld := ⟨27263872, 0, 0, 3⟩
def NVM_CFG.HIST_EN : Fld := ⟨27263875, 0, 0, 1⟩
/-! PWR_STATUS at 0xE0100 (R65). -/
def PWR_STATUS.VAON_OK : Fld := ⟨29368320, 0, 0, 1⟩
def PWR_STATUS.VDD33_OK : Fld := ⟨29368321, 0, 0, 1⟩
def PWR_STATUS.VDDA18_OK : Fld := ⟨29368322, 0, 0, 1⟩
def PWR_STATUS.VDD08_OK : Fld := ⟨29368323, 0, 0, 1⟩
def PWR_STATUS.FIRST_LOSS : Fld := ⟨29368328, 0, 0, 3⟩
/-! PWR_EVENT at 0xE0104 (R66). -/
def PWR_EVENT.VAON_LOW : Fld := ⟨29368448, 0, 0, 1⟩
def PWR_EVENT.VDD33_LOST : Fld := ⟨29368449, 0, 0, 1⟩
def PWR_EVENT.VDDA18_LOST : Fld := ⟨29368450, 0, 0, 1⟩
def PWR_EVENT.VDD08_LOST : Fld := ⟨29368451, 0, 0, 1⟩
/-! PWR_EVCNT at 0xE0108 (R67). -/
def PWR_EVCNT.VAON_LOW_CNT : Fld := ⟨29368576, 0, 0, 8⟩
def PWR_EVCNT.VDD33_CNT : Fld := ⟨29368584, 0, 0, 8⟩
def PWR_EVCNT.VDDA18_CNT : Fld := ⟨29368592, 0, 0, 8⟩
def PWR_EVCNT.VDD08_CNT : Fld := ⟨29368600, 0, 0, 8⟩
/-! PWR_CFG at 0xE010C (R68). -/
def PWR_CFG.VAON_LOW_SAFE : Fld := ⟨29368704, 0, 0, 1⟩

/-- Rows of the register map: the NVM and the CLOCK and POWER blocks. -/
def tableNvmPower : List RegDef :=
  [ ⟨0xD0000, 0x0, 1, 0, 1, [⟨NVM_STAT.BUSY, .ro⟩, ⟨NVM_STAT.QREC, .ro⟩, ⟨NVM_STAT.QLOG, .ro⟩, ⟨NVM_STAT.WEAR_PCT, .ro⟩, ⟨NVM_STAT.DROP_EV, .w1c⟩, ⟨NVM_STAT.LOGDROP_EV, .w1c⟩, ⟨NVM_STAT.BAD_EV, .w1c⟩, ⟨NVM_STAT.CORRUPT_EV, .w1c⟩, ⟨NVM_STAT.WEAR_EV, .w1c⟩]⟩,
    ⟨0xD0004, 0x0, 1, 0, 1, [⟨NVM_EVCNT0.DROP_CNT, .ro⟩, ⟨NVM_EVCNT0.LOGDROP_CNT, .ro⟩, ⟨NVM_EVCNT0.BADEV_CNT, .ro⟩, ⟨NVM_EVCNT0.CORRUPT_CNT, .ro⟩]⟩,
    ⟨0xD0008, 0x0, 1, 0, 1, [⟨NVM_EVCNT1.WEAR_CNT, .ro⟩, ⟨NVM_EVCNT1.LOGSUPP_CNT, .ro⟩]⟩,
    ⟨0xD000C, 0x0, 1, 0, 1, [⟨NVM_INFO.REC_HELD, .ro⟩, ⟨NVM_INFO.BAD_PAGES, .ro⟩, ⟨NVM_INFO.SLOG_HELD, .ro⟩]⟩,
    ⟨0xD0010, 0x0, 1, 0, 1, [⟨NVM_PCYC.PCYC, .ro⟩]⟩,
    ⟨0xD0014, 0x0, 1, 0, 1, [⟨NVM_RECSEQ.RECSEQ, .ro⟩]⟩,
    ⟨0xD0018, 0x0, 1, 0, 1, [⟨NVM_WEAR.MAX_ERASE, .ro⟩, ⟨NVM_WEAR.UNSEALED, .ro⟩]⟩,
    ⟨0xD001C, 0x0, 1, 0, 1, [⟨NVM_CFG.HIST_RAIL, .img⟩, ⟨NVM_CFG.HIST_EN, .img⟩]⟩,
    ⟨0xE0100, 0x0, 1, 0, 1, [⟨PWR_STATUS.VAON_OK, .ro⟩, ⟨PWR_STATUS.VDD33_OK, .ro⟩, ⟨PWR_STATUS.VDDA18_OK, .ro⟩, ⟨PWR_STATUS.VDD08_OK, .ro⟩, ⟨PWR_STATUS.FIRST_LOSS, .ro⟩]⟩,
    ⟨0xE0104, 0x0, 1, 0, 1, [⟨PWR_EVENT.VAON_LOW, .w1c⟩, ⟨PWR_EVENT.VDD33_LOST, .w1c⟩, ⟨PWR_EVENT.VDDA18_LOST, .w1c⟩, ⟨PWR_EVENT.VDD08_LOST, .w1c⟩]⟩,
    ⟨0xE0108, 0x0, 1, 0, 1, [⟨PWR_EVCNT.VAON_LOW_CNT, .ro⟩, ⟨PWR_EVCNT.VDD33_CNT, .ro⟩, ⟨PWR_EVCNT.VDDA18_CNT, .ro⟩, ⟨PWR_EVCNT.VDD08_CNT, .ro⟩]⟩,
    ⟨0xE010C, 0x0, 1, 0, 1, [⟨PWR_CFG.VAON_LOW_SAFE, .img⟩]⟩ ]

end Sys2Proof.Machine.Reg
end

