-- ==== Sys2Proof/Machine/RegsPhase.lean ====
section
/-!
DEFINITION. The register fields of the PHASE block (fabric and phases), and the rows of the register map that hold them.
A field is named REGISTER.FIELD as the field tables of spec/ name it; each register cites the rule that gives its table.
-/

namespace Sys2Proof.Machine.Reg

/-! PH_CFG at 0x40000 (R350). -/
def PH_CFG.TSENS : Fld := ⟨8388608, 2048, 0, 5⟩
def PH_CFG.R_NOM : Fld := ⟨8388616, 2048, 0, 12⟩
/-! PH_TRIM at 0x40004 (R351). -/
def PH_TRIM.TRIM : Fld := ⟨8388736, 2048, 0, 13⟩
/-! PH_STAT at 0x40008 (R352). -/
def PH_STAT.STATE : Fld := ⟨8388864, 2048, 0, 3⟩
def PH_STAT.RET_CAUSE : Fld := ⟨8388867, 2048, 0, 4⟩
def PH_STAT.HF_SHARE : Fld := ⟨8388872, 2048, 0, 1⟩
def PH_STAT.HF_RES : Fld := ⟨8388873, 2048, 0, 1⟩
def PH_STAT.HF_RIPPLE : Fld := ⟨8388874, 2048, 0, 1⟩
def PH_STAT.HF_TEMP : Fld := ⟨8388875, 2048, 0, 1⟩
def PH_STAT.T_INVALID : Fld := ⟨8388876, 2048, 0, 1⟩
def PH_STAT.RETIRE_EV : Fld := ⟨8388880, 2048, 0, 1⟩
def PH_STAT.FORECAST_EV : Fld := ⟨8388881, 2048, 0, 1⟩
/-! PH_EVCNT at 0x4000C (R353). -/
def PH_EVCNT.RETIRE_CNT : Fld := ⟨8388992, 2048, 0, 8⟩
def PH_EVCNT.FORECAST_CNT : Fld := ⟨8389000, 2048, 0, 8⟩
/-! PH_HEALTH at 0x40010 (R354). -/
def PH_HEALTH.RC : Fld := ⟨8389120, 2048, 0, 12⟩
def PH_HEALTH.SHARE_F : Fld := ⟨8389132, 2048, 0, 8⟩
def PH_HEALTH.RIPPLE_F : Fld := ⟨8389140, 2048, 0, 8⟩
/-! PH_TEMP at 0x40014 (R355). -/
def PH_TEMP.T_PH : Fld := ⟨8389248, 2048, 0, 16⟩
def PH_TEMP.TDIFF_F : Fld := ⟨8389264, 2048, 0, 8⟩
/-! FAB_CFG at 0x41000 (R336). -/
def FAB_CFG.PER : Fld := ⟨8519680, 4096, 0, 18⟩
def FAB_CFG.MSEL : Fld := ⟨8519698, 4096, 0, 3⟩
def FAB_CFG.ALIGN : Fld := ⟨8519701, 4096, 0, 1⟩
/-! FAB_PHASE at 0x41004 (R337). -/
def FAB_PHASE.CARRIER_PH : Fld := ⟨8519808, 4096, 0, 18⟩
/-! FAB_PWM at 0x41008 (R338). -/
def FAB_PWM.TON_MIN : Fld := ⟨8519936, 4096, 0, 10⟩
def FAB_PWM.TOFF_MIN : Fld := ⟨8519946, 4096, 0, 10⟩
def FAB_PWM.SKIP_EN : Fld := ⟨8519956, 4096, 0, 1⟩
def FAB_PWM.OFFMODE : Fld := ⟨8519957, 4096, 0, 1⟩
def FAB_PWM.IZC : Fld := ⟨8519958, 4096, 0, 8⟩
/-! FAB_BAL at 0x4100C (R339). -/
def FAB_BAL.KB : Fld := ⟨8520064, 4096, 0, 8⟩
def FAB_BAL.TRIM_MAX : Fld := ⟨8520072, 4096, 0, 12⟩
def FAB_BAL.BAL_EN : Fld := ⟨8520084, 4096, 0, 1⟩
/-! FAB_REEF at 0x41010 (R340). -/
def FAB_REEF.LMAX : Fld := ⟨8520192, 4096, 0, 3⟩
def FAB_REEF.START_LVL : Fld := ⟨8520196, 4096, 0, 3⟩
def FAB_REEF.REEF_TAU : Fld := ⟨8520200, 4096, 0, 8⟩
def FAB_REEF.SHED_DWELL : Fld := ⟨8520208, 4096, 0, 8⟩
def FAB_REEF.ADD_CONFIRM : Fld := ⟨8520216, 4096, 0, 4⟩
/-! FAB_LVL at 0x41014 (R341). -/
def FAB_LVL.SHED : Fld := ⟨8520320, 4096, 128, 6⟩
def FAB_LVL.I_SHED : Fld := ⟨8520326, 4096, 128, 12⟩
def FAB_LVL.I_ADD : Fld := ⟨8520338, 4096, 128, 12⟩
/-! FAB_RATE at 0x41030 (R342). -/
def FAB_RATE.IPH_RATE : Fld := ⟨8521216, 4096, 0, 12⟩
def FAB_RATE.MIN_AVAIL : Fld := ⟨8521228, 4096, 0, 7⟩
/-! FAB_DET at 0x41034 (R343). -/
def FAB_DET.IOPEN_THR : Fld := ⟨8521344, 4096, 0, 8⟩
def FAB_DET.TON_OPEN : Fld := ⟨8521352, 4096, 0, 10⟩
def FAB_DET.RIP_MIN : Fld := ⟨8521362, 4096, 0, 8⟩
/-! FAB_DET2 at 0x41038 (R344). -/
def FAB_DET2.ISENSE_DEV : Fld := ⟨8521472, 4096, 0, 12⟩
def FAB_DET2.IPH_PHYS : Fld := ⟨8521484, 4096, 0, 12⟩
def FAB_DET2.ADD_SETTLE : Fld := ⟨8521496, 4096, 0, 8⟩
/-! FAB_HLIM at 0x41040 (R345). -/
def FAB_HLIM.SHARE_LIM : Fld := ⟨8521728, 4096, 0, 8⟩
def FAB_HLIM.RDRIFT_LIM : Fld := ⟨8521736, 4096, 0, 8⟩
def FAB_HLIM.RIPPLE_LIM : Fld := ⟨8521744, 4096, 0, 8⟩
def FAB_HLIM.TDIFF_LIM : Fld := ⟨8521752, 4096, 0, 8⟩
/-! FAB_HCFG at 0x41044 (R346). -/
def FAB_HCFG.HSH : Fld := ⟨8521856, 4096, 0, 4⟩
def FAB_HCFG.FORECAST_HOLD : Fld := ⟨8521864, 4096, 0, 8⟩
def FAB_HCFG.ALPHA : Fld := ⟨8521872, 4096, 0, 8⟩
def FAB_HCFG.HEALTH_IMIN : Fld := ⟨8521880, 4096, 0, 8⟩
/-! FAB_STAT at 0x41050 (R347). -/
def FAB_STAT.LEVEL : Fld := ⟨8522240, 4096, 0, 3⟩
def FAB_STAT.N_ACT : Fld := ⟨8522244, 4096, 0, 7⟩
def FAB_STAT.N_AVAIL : Fld := ⟨8522251, 4096, 0, 7⟩
def FAB_STAT.MOVING : Fld := ⟨8522258, 4096, 0, 1⟩
def FAB_STAT.REEF_BAD : Fld := ⟨8522259, 4096, 0, 1⟩
def FAB_STAT.THR_CAP : Fld := ⟨8522260, 4096, 0, 1⟩
def FAB_STAT.SHED_BLOCK : Fld := ⟨8522261, 4096, 0, 1⟩
def FAB_STAT.ADD_EV : Fld := ⟨8522264, 4096, 0, 1⟩
def FAB_STAT.SHED_EV : Fld := ⟨8522265, 4096, 0, 1⟩
def FAB_STAT.CAPTHR_EV : Fld := ⟨8522266, 4096, 0, 1⟩
/-! FAB_IREEF at 0x41054 (R348). -/
def FAB_IREEF.I_REEF : Fld := ⟨8522368, 4096, 0, 16⟩
def FAB_IREEF.CAP : Fld := ⟨8522384, 4096, 0, 16⟩
/-! FAB_EVCNT at 0x41058 (R349). -/
def FAB_EVCNT.ADD_CNT : Fld := ⟨8522496, 4096, 0, 8⟩
def FAB_EVCNT.SHED_CNT : Fld := ⟨8522504, 4096, 0, 8⟩
def FAB_EVCNT.CAPTHR_CNT : Fld := ⟨8522512, 4096, 0, 8⟩

/-- Rows of the register map: the PHASE block (fabric and phases). -/
def tablePhase : List RegDef :=
  [ ⟨0x40000, 0x40, 64, 0, 1, [⟨PH_CFG.TSENS, .img⟩, ⟨PH_CFG.R_NOM, .img⟩]⟩,
    ⟨0x40004, 0x40, 64, 0, 1, [⟨PH_TRIM.TRIM, .ro⟩]⟩,
    ⟨0x40008, 0x40, 64, 0, 1, [⟨PH_STAT.STATE, .ro⟩, ⟨PH_STAT.RET_CAUSE, .ro⟩, ⟨PH_STAT.HF_SHARE, .ro⟩, ⟨PH_STAT.HF_RES, .ro⟩, ⟨PH_STAT.HF_RIPPLE, .ro⟩, ⟨PH_STAT.HF_TEMP, .ro⟩, ⟨PH_STAT.T_INVALID, .ro⟩, ⟨PH_STAT.RETIRE_EV, .w1c⟩, ⟨PH_STAT.FORECAST_EV, .w1c⟩]⟩,
    ⟨0x4000C, 0x40, 64, 0, 1, [⟨PH_EVCNT.RETIRE_CNT, .ro⟩, ⟨PH_EVCNT.FORECAST_CNT, .ro⟩]⟩,
    ⟨0x40010, 0x40, 64, 0, 1, [⟨PH_HEALTH.RC, .ro⟩, ⟨PH_HEALTH.SHARE_F, .ro⟩, ⟨PH_HEALTH.RIPPLE_F, .ro⟩]⟩,
    ⟨0x40014, 0x40, 64, 0, 1, [⟨PH_TEMP.T_PH, .ro⟩, ⟨PH_TEMP.TDIFF_F, .ro⟩]⟩,
    ⟨0x41000, 0x80, 8, 0, 1, [⟨FAB_CFG.PER, .rwl⟩, ⟨FAB_CFG.MSEL, .img⟩, ⟨FAB_CFG.ALIGN, .img⟩]⟩,
    ⟨0x41004, 0x80, 8, 0, 1, [⟨FAB_PHASE.CARRIER_PH, .img⟩]⟩,
    ⟨0x41008, 0x80, 8, 0, 1, [⟨FAB_PWM.TON_MIN, .rwl⟩, ⟨FAB_PWM.TOFF_MIN, .rwl⟩, ⟨FAB_PWM.SKIP_EN, .rwl⟩, ⟨FAB_PWM.OFFMODE, .rwl⟩, ⟨FAB_PWM.IZC, .rwl⟩]⟩,
    ⟨0x4100C, 0x80, 8, 0, 1, [⟨FAB_BAL.KB, .rw⟩, ⟨FAB_BAL.TRIM_MAX, .rw⟩, ⟨FAB_BAL.BAL_EN, .rw⟩]⟩,
    ⟨0x41010, 0x80, 8, 0, 1, [⟨FAB_REEF.LMAX, .rw⟩, ⟨FAB_REEF.START_LVL, .rw⟩, ⟨FAB_REEF.REEF_TAU, .rw⟩, ⟨FAB_REEF.SHED_DWELL, .rw⟩, ⟨FAB_REEF.ADD_CONFIRM, .rw⟩]⟩,
    ⟨0x41014, 0x80, 8, 4, 7, [⟨FAB_LVL.SHED, .rw⟩, ⟨FAB_LVL.I_SHED, .rw⟩, ⟨FAB_LVL.I_ADD, .rw⟩]⟩,
    ⟨0x41030, 0x80, 8, 0, 1, [⟨FAB_RATE.IPH_RATE, .img⟩, ⟨FAB_RATE.MIN_AVAIL, .img⟩]⟩,
    ⟨0x41034, 0x80, 8, 0, 1, [⟨FAB_DET.IOPEN_THR, .img⟩, ⟨FAB_DET.TON_OPEN, .img⟩, ⟨FAB_DET.RIP_MIN, .img⟩]⟩,
    ⟨0x41038, 0x80, 8, 0, 1, [⟨FAB_DET2.ISENSE_DEV, .img⟩, ⟨FAB_DET2.IPH_PHYS, .img⟩, ⟨FAB_DET2.ADD_SETTLE, .img⟩]⟩,
    ⟨0x41040, 0x80, 8, 0, 1, [⟨FAB_HLIM.SHARE_LIM, .rw⟩, ⟨FAB_HLIM.RDRIFT_LIM, .rw⟩, ⟨FAB_HLIM.RIPPLE_LIM, .rw⟩, ⟨FAB_HLIM.TDIFF_LIM, .rw⟩]⟩,
    ⟨0x41044, 0x80, 8, 0, 1, [⟨FAB_HCFG.HSH, .rw⟩, ⟨FAB_HCFG.FORECAST_HOLD, .rw⟩, ⟨FAB_HCFG.ALPHA, .rw⟩, ⟨FAB_HCFG.HEALTH_IMIN, .rw⟩]⟩,
    ⟨0x41050, 0x80, 8, 0, 1, [⟨FAB_STAT.LEVEL, .ro⟩, ⟨FAB_STAT.N_ACT, .ro⟩, ⟨FAB_STAT.N_AVAIL, .ro⟩, ⟨FAB_STAT.MOVING, .ro⟩, ⟨FAB_STAT.REEF_BAD, .ro⟩, ⟨FAB_STAT.THR_CAP, .ro⟩, ⟨FAB_STAT.SHED_BLOCK, .ro⟩, ⟨FAB_STAT.ADD_EV, .w1c⟩, ⟨FAB_STAT.SHED_EV, .w1c⟩, ⟨FAB_STAT.CAPTHR_EV, .w1c⟩]⟩,
    ⟨0x41054, 0x80, 8, 0, 1, [⟨FAB_IREEF.I_REEF, .ro⟩, ⟨FAB_IREEF.CAP, .ro⟩]⟩,
    ⟨0x41058, 0x80, 8, 0, 1, [⟨FAB_EVCNT.ADD_CNT, .ro⟩, ⟨FAB_EVCNT.SHED_CNT, .ro⟩, ⟨FAB_EVCNT.CAPTHR_CNT, .ro⟩]⟩ ]

end Sys2Proof.Machine.Reg
end

