-- ==== Sys2Proof/Machine/RegsProt.lean ====
section
/-!
DEFINITION. The register fields of the PROT block, and the rows of the register map that hold them.
A field is named REGISTER.FIELD as the field tables of spec/ name it; each register cites the rule that gives its table.
-/

namespace Sys2Proof.Machine.Reg

/-! PR_OCLIM at 0x60000 (R456). -/
def PR_OCLIM.OC_WARN : Fld := ⟨12582912, 8192, 0, 16⟩
def PR_OCLIM.OC_FAULT : Fld := ⟨12582928, 8192, 0, 16⟩
/-! PR_OCCFG at 0x60004 (R457). -/
def PR_OCCFG.OC_THR : Fld := ⟨12583040, 8192, 0, 16⟩
def PR_OCCFG.OC_WIN : Fld := ⟨12583056, 8192, 0, 10⟩
/-! PR_VLIM at 0x60008 (R458). -/
def PR_VLIM.OV_EC : Fld := ⟨12583168, 8192, 0, 10⟩
def PR_VLIM.UV_EC : Fld := ⟨12583178, 8192, 0, 10⟩
def PR_VLIM.OV_N : Fld := ⟨12583188, 8192, 0, 4⟩
def PR_VLIM.UV_N : Fld := ⟨12583192, 8192, 0, 4⟩
/-! PR_MON at 0x6000C (R459). -/
def PR_MON.MON_OV : Fld := ⟨12583296, 8192, 0, 5⟩
def PR_MON.MON_UV : Fld := ⟨12583304, 8192, 0, 5⟩
def PR_MON.SL_MON : Fld := ⟨12583312, 8192, 0, 5⟩
/-! PR_SL at 0x60010 (R460). -/
def PR_SL.DV_PHYS : Fld := ⟨12583424, 8192, 0, 14⟩
def PR_SL.CH_TIME : Fld := ⟨12583440, 8192, 0, 5⟩
def PR_SL.INDEP : Fld := ⟨12583448, 8192, 0, 1⟩
/-! PR_CH at 0x60014 (R461). -/
def PR_CH.CH_GAIN : Fld := ⟨12583552, 8192, 0, 16⟩
def PR_CH.FRZ_DMOVE : Fld := ⟨12583568, 8192, 0, 16⟩
/-! PR_TRK at 0x60018 (R462). -/
def PR_TRK.TRACK_WIN : Fld := ⟨12583680, 8192, 0, 10⟩
def PR_TRK.TRACK_T : Fld := ⟨12583690, 8192, 0, 7⟩
def PR_TRK.TRK_ILIM : Fld := ⟨12583697, 8192, 0, 15⟩
/-! PR_SC at 0x6001C (R463). -/
def PR_SC.SC_N : Fld := ⟨12583808, 8192, 0, 4⟩
def PR_SC.SC_BLANK : Fld := ⟨12583812, 8192, 0, 5⟩
def PR_SC.OV_LOW_T : Fld := ⟨12583820, 8192, 0, 8⟩
def PR_SC.RETRY_CLR : Fld := ⟨12583828, 8192, 0, 8⟩
/-! PR_RESP at 0x60040 (R464). -/
def PR_RESP.CLASS : Fld := ⟨12584960, 8192, 128, 2⟩
def PR_RESP.ACTION : Fld := ⟨12584962, 8192, 128, 2⟩
def PR_RESP.RETRY : Fld := ⟨12584964, 8192, 128, 3⟩
/-! PR_STAT at 0x60080 (R465). -/
def PR_STAT.CH_ACT : Fld := ⟨12587008, 8192, 0, 1⟩
def PR_STAT.TRK_RUN : Fld := ⟨12587009, 8192, 0, 1⟩
def PR_STAT.OC_WARN_ACT : Fld := ⟨12587010, 8192, 0, 1⟩
def PR_STAT.OC_THR_ACT : Fld := ⟨12587011, 8192, 0, 1⟩
def PR_STAT.HIC_CNT : Fld := ⟨12587012, 8192, 0, 3⟩
def PR_STAT.LAST_FAULT : Fld := ⟨12587016, 8192, 0, 4⟩
def PR_STAT.FLT_EV : Fld := ⟨12587024, 8192, 0, 12⟩
def PR_STAT.OCW_EV : Fld := ⟨12587036, 8192, 0, 1⟩
/-! PR_EVCNT at 0x60084 (R466). -/
def PR_EVCNT.CODE1 : Fld := ⟨12587136, 8192, 128, 8⟩
def PR_EVCNT.CODE2 : Fld := ⟨12587144, 8192, 128, 8⟩
def PR_EVCNT.CODE3 : Fld := ⟨12587152, 8192, 128, 8⟩
def PR_EVCNT.CODE4 : Fld := ⟨12587160, 8192, 128, 8⟩
/-! PR_EVCNT3 at 0x60090 (R466). -/
def PR_EVCNT3.OCW_CNT : Fld := ⟨12587520, 8192, 0, 8⟩
def PR_EVCNT3.SUPP_CNT : Fld := ⟨12587528, 8192, 0, 8⟩
/-! PR_IAVG at 0x60094 (R467). -/
def PR_IAVG.I_AVG : Fld := ⟨12587648, 8192, 0, 16⟩
def PR_IAVG.OC_FAULT_EFF : Fld := ⟨12587664, 8192, 0, 16⟩
/-! PROT_VINCFG at 0x60800 (R468). -/
def PROT_VINCFG.VIN_DIV : Fld := ⟨12648448, 0, 0, 16⟩
def PROT_VINCFG.VIN_HYS : Fld := ⟨12648464, 0, 0, 6⟩
/-! PROT_VINLIM at 0x60804 (R469). -/
def PROT_VINLIM.VIN_OV : Fld := ⟨12648576, 0, 0, 10⟩
def PROT_VINLIM.VIN_UV : Fld := ⟨12648586, 0, 0, 10⟩
def PROT_VINLIM.VIN_ON : Fld := ⟨12648596, 0, 0, 10⟩
/-! PROT_VINWARN at 0x60808 (R469). -/
def PROT_VINWARN.VIN_UVW : Fld := ⟨12648704, 0, 0, 10⟩
/-! PROT_VIN at 0x6080C (R470). -/
def PROT_VIN.V_IN : Fld := ⟨12648832, 0, 0, 24⟩
def PROT_VIN.VIN_OV_ACT : Fld := ⟨12648856, 0, 0, 1⟩
def PROT_VIN.VIN_UV_ACT : Fld := ⟨12648857, 0, 0, 1⟩
def PROT_VIN.VIN_UVW_ACT : Fld := ⟨12648858, 0, 0, 1⟩
def PROT_VIN.VINW_EV : Fld := ⟨12648860, 0, 0, 1⟩
/-! PROT_SFLT at 0x60810 (R471). -/
def PROT_SFLT.SFLT_FILT : Fld := ⟨12648960, 0, 0, 8⟩
def PROT_SFLT.SFLT_LVL : Fld := ⟨12648976, 0, 0, 8⟩
def PROT_SFLT.SFLT_EV : Fld := ⟨12648984, 0, 0, 8⟩
/-! PROT_SFLTCNT at 0x60814 (R472). -/
def PROT_SFLTCNT.G0 : Fld := ⟨12649088, 0, 128, 8⟩
def PROT_SFLTCNT.G1 : Fld := ⟨12649096, 0, 128, 8⟩
def PROT_SFLTCNT.G2 : Fld := ⟨12649104, 0, 128, 8⟩
def PROT_SFLTCNT.G3 : Fld := ⟨12649112, 0, 128, 8⟩
/-! PROT_VINWCNT at 0x6081C (R472). -/
def PROT_VINWCNT.VINW_CNT : Fld := ⟨12649344, 0, 0, 8⟩
/-! PSC at 0x61000 (R473). -/
def PSC.ISC_THR : Fld := ⟨12713984, 128, 0, 7⟩
def PSC.TRUNC : Fld := ⟨12713992, 128, 0, 1⟩
def PSC.SCF_EV : Fld := ⟨12713993, 128, 0, 1⟩
def PSC.TRUNC_CNT : Fld := ⟨12714000, 128, 0, 8⟩
def PSC.SCF_CNT : Fld := ⟨12714008, 128, 0, 8⟩
/-- Indexed view: stage fault count of group 4j+i (R472). -/
def PROT_SFLTCNT.G : Fld := ⟨12649088, 8, 128, 8⟩

/-- Rows of the register map: the PROT block. -/
def tableProt : List RegDef :=
  [ ⟨0x60000, 0x100, 8, 0, 1, [⟨PR_OCLIM.OC_WARN, .rw⟩, ⟨PR_OCLIM.OC_FAULT, .rw⟩]⟩,
    ⟨0x60004, 0x100, 8, 0, 1, [⟨PR_OCCFG.OC_THR, .rw⟩, ⟨PR_OCCFG.OC_WIN, .img⟩]⟩,
    ⟨0x60008, 0x100, 8, 0, 1, [⟨PR_VLIM.OV_EC, .rw⟩, ⟨PR_VLIM.UV_EC, .rw⟩, ⟨PR_VLIM.OV_N, .rw⟩, ⟨PR_VLIM.UV_N, .rw⟩]⟩,
    ⟨0x6000C, 0x100, 8, 0, 1, [⟨PR_MON.MON_OV, .img⟩, ⟨PR_MON.MON_UV, .img⟩, ⟨PR_MON.SL_MON, .img⟩]⟩,
    ⟨0x60010, 0x100, 8, 0, 1, [⟨PR_SL.DV_PHYS, .img⟩, ⟨PR_SL.CH_TIME, .img⟩, ⟨PR_SL.INDEP, .img⟩]⟩,
    ⟨0x60014, 0x100, 8, 0, 1, [⟨PR_CH.CH_GAIN, .img⟩, ⟨PR_CH.FRZ_DMOVE, .img⟩]⟩,
    ⟨0x60018, 0x100, 8, 0, 1, [⟨PR_TRK.TRACK_WIN, .rw⟩, ⟨PR_TRK.TRACK_T, .rw⟩, ⟨PR_TRK.TRK_ILIM, .rw⟩]⟩,
    ⟨0x6001C, 0x100, 8, 0, 1, [⟨PR_SC.SC_N, .img⟩, ⟨PR_SC.SC_BLANK, .img⟩, ⟨PR_SC.OV_LOW_T, .img⟩, ⟨PR_SC.RETRY_CLR, .img⟩]⟩,
    ⟨0x60040, 0x100, 8, 4, 12, [⟨PR_RESP.CLASS, .img⟩, ⟨PR_RESP.ACTION, .img⟩, ⟨PR_RESP.RETRY, .img⟩]⟩,
    ⟨0x60080, 0x100, 8, 0, 1, [⟨PR_STAT.CH_ACT, .ro⟩, ⟨PR_STAT.TRK_RUN, .ro⟩, ⟨PR_STAT.OC_WARN_ACT, .ro⟩, ⟨PR_STAT.OC_THR_ACT, .ro⟩, ⟨PR_STAT.HIC_CNT, .ro⟩, ⟨PR_STAT.LAST_FAULT, .ro⟩, ⟨PR_STAT.FLT_EV, .w1c⟩, ⟨PR_STAT.OCW_EV, .w1c⟩]⟩,
    ⟨0x60084, 0x100, 8, 4, 3, [⟨PR_EVCNT.CODE1, .ro⟩, ⟨PR_EVCNT.CODE2, .ro⟩, ⟨PR_EVCNT.CODE3, .ro⟩, ⟨PR_EVCNT.CODE4, .ro⟩]⟩,
    ⟨0x60090, 0x100, 8, 0, 1, [⟨PR_EVCNT3.OCW_CNT, .ro⟩, ⟨PR_EVCNT3.SUPP_CNT, .ro⟩]⟩,
    ⟨0x60094, 0x100, 8, 0, 1, [⟨PR_IAVG.I_AVG, .ro⟩, ⟨PR_IAVG.OC_FAULT_EFF, .ro⟩]⟩,
    ⟨0x60800, 0x0, 1, 0, 1, [⟨PROT_VINCFG.VIN_DIV, .img⟩, ⟨PROT_VINCFG.VIN_HYS, .img⟩]⟩,
    ⟨0x60804, 0x0, 1, 0, 1, [⟨PROT_VINLIM.VIN_OV, .rw⟩, ⟨PROT_VINLIM.VIN_UV, .rw⟩, ⟨PROT_VINLIM.VIN_ON, .rw⟩]⟩,
    ⟨0x60808, 0x0, 1, 0, 1, [⟨PROT_VINWARN.VIN_UVW, .rw⟩]⟩,
    ⟨0x6080C, 0x0, 1, 0, 1, [⟨PROT_VIN.V_IN, .ro⟩, ⟨PROT_VIN.VIN_OV_ACT, .ro⟩, ⟨PROT_VIN.VIN_UV_ACT, .ro⟩, ⟨PROT_VIN.VIN_UVW_ACT, .ro⟩, ⟨PROT_VIN.VINW_EV, .w1c⟩]⟩,
    ⟨0x60810, 0x0, 1, 0, 1, [⟨PROT_SFLT.SFLT_FILT, .img⟩, ⟨PROT_SFLT.SFLT_LVL, .ro⟩, ⟨PROT_SFLT.SFLT_EV, .w1c⟩]⟩,
    ⟨0x60814, 0x0, 1, 4, 2, [⟨PROT_SFLTCNT.G0, .ro⟩, ⟨PROT_SFLTCNT.G1, .ro⟩, ⟨PROT_SFLTCNT.G2, .ro⟩, ⟨PROT_SFLTCNT.G3, .ro⟩]⟩,
    ⟨0x6081C, 0x0, 1, 0, 1, [⟨PROT_VINWCNT.VINW_CNT, .ro⟩]⟩,
    ⟨0x61000, 0x4, 64, 0, 1, [⟨PSC.ISC_THR, .img⟩, ⟨PSC.TRUNC, .ro⟩, ⟨PSC.SCF_EV, .w1c⟩, ⟨PSC.TRUNC_CNT, .ro⟩, ⟨PSC.SCF_CNT, .ro⟩]⟩ ]

end Sys2Proof.Machine.Reg
end

