-- ==== Sys2Proof/Machine/RegsRail.lean ====
section
/-!
DEFINITION. The register fields of the RAIL block, and the rows of the register map that hold them.
A field is named REGISTER.FIELD as the field tables of spec/ name it; each register cites the rule that gives its table.
-/

namespace Sys2Proof.Machine.Reg

/-! RAIL_CFG at 0x10000 (R400). -/
def RAIL_CFG.RAIL_EN : Fld := ⟨2097152, 32768, 0, 1⟩
def RAIL_CFG.PH_FIRST : Fld := ⟨2097153, 32768, 0, 6⟩
def RAIL_CFG.PH_COUNT : Fld := ⟨2097159, 32768, 0, 7⟩
def RAIL_CFG.SP_SRC : Fld := ⟨2097166, 32768, 0, 1⟩
def RAIL_CFG.PB_RAIL : Fld := ⟨2097167, 32768, 0, 1⟩
def RAIL_CFG.EN_USE : Fld := ⟨2097168, 32768, 0, 1⟩
def RAIL_CFG.EN_POL : Fld := ⟨2097169, 32768, 0, 1⟩
def RAIL_CFG.EN_DEB : Fld := ⟨2097170, 32768, 0, 8⟩
def RAIL_CFG.PREBIAS_EN : Fld := ⟨2097178, 32768, 0, 1⟩
/-! RAIL_ONOFF at 0x10004 (R401). -/
def RAIL_ONOFF.ON_OFF_CONFIG : Fld := ⟨2097280, 32768, 0, 5⟩
def RAIL_ONOFF.OP_ON : Fld := ⟨2097285, 32768, 0, 1⟩
def RAIL_ONOFF.MARGIN : Fld := ⟨2097286, 32768, 0, 2⟩
/-! RAIL_VOUT at 0x10008 (R402). -/
def RAIL_VOUT.VOUT_COMMAND : Fld := ⟨2097408, 32768, 0, 16⟩
def RAIL_VOUT.VOUT_MAX : Fld := ⟨2097424, 32768, 0, 16⟩
/-! RAIL_MARGIN at 0x1000C (R402). -/
def RAIL_MARGIN.VOUT_MARGIN_LOW : Fld := ⟨2097536, 32768, 0, 16⟩
def RAIL_MARGIN.VOUT_MARGIN_HIGH : Fld := ⟨2097552, 32768, 0, 16⟩
/-! RAIL_SLEW at 0x10010 (R403). -/
def RAIL_SLEW.SLEW_UP : Fld := ⟨2097664, 32768, 0, 13⟩
def RAIL_SLEW.SLEW_DN : Fld := ⟨2097680, 32768, 0, 13⟩
/-! RAIL_TONDLY at 0x10014 (R404). -/
def RAIL_TONDLY.TIME : Fld := ⟨2097792, 32768, 0, 20⟩
/-! RAIL_TONRISE at 0x10018 (R404). -/
def RAIL_TONRISE.TIME : Fld := ⟨2097920, 32768, 0, 20⟩
/-! RAIL_TOFFDLY at 0x1001C (R404). -/
def RAIL_TOFFDLY.TIME : Fld := ⟨2098048, 32768, 0, 20⟩
/-! RAIL_TOFFFALL at 0x10020 (R404). -/
def RAIL_TOFFFALL.TIME : Fld := ⟨2098176, 32768, 0, 20⟩
/-! RAIL_STOPCFG at 0x10024 (R405). -/
def RAIL_STOPCFG.SS_FALL : Fld := ⟨2098304, 32768, 0, 16⟩
def RAIL_STOPCFG.OFF_WAIT : Fld := ⟨2098320, 32768, 0, 16⟩
/-! RAIL_LL at 0x10028 (R406). -/
def RAIL_LL.R_LL : Fld := ⟨2098432, 32768, 0, 11⟩
def RAIL_LL.LL_POLE : Fld := ⟨2098448, 32768, 0, 11⟩
/-! RAIL_LLIMAX at 0x1002C (R406). -/
def RAIL_LLIMAX.LL_IMAX : Fld := ⟨2098560, 32768, 0, 16⟩
/-! RAIL_PG at 0x10030 (R407). -/
def RAIL_PG.PG_ON : Fld := ⟨2098688, 32768, 0, 10⟩
def RAIL_PG.PG_OFF : Fld := ⟨2098698, 32768, 0, 10⟩
def RAIL_PG.PG_OV : Fld := ⟨2098708, 32768, 0, 10⟩
/-! RAIL_PGDLY at 0x10034 (R407). -/
def RAIL_PGDLY.PG_DLY : Fld := ⟨2098816, 32768, 0, 16⟩
/-! RAIL_BURST at 0x10038 (R408). -/
def RAIL_BURST.BURST_EN : Fld := ⟨2098944, 32768, 0, 1⟩
def RAIL_BURST.BURST_LO : Fld := ⟨2098946, 32768, 0, 10⟩
def RAIL_BURST.BURST_HI : Fld := ⟨2098956, 32768, 0, 10⟩
/-! RAIL_BURST2 at 0x1003C (R408). -/
def RAIL_BURST2.I_BURST_IN : Fld := ⟨2099072, 32768, 0, 12⟩
def RAIL_BURST2.BURST_DWELL : Fld := ⟨2099084, 32768, 0, 8⟩
def RAIL_BURST2.BURST_MINGAP : Fld := ⟨2099092, 32768, 0, 8⟩
/-! RAIL_PB at 0x10040 (R409). -/
def RAIL_PB.PB_TON : Fld := ⟨2099200, 32768, 0, 7⟩
def RAIL_PB.PB_TLOW : Fld := ⟨2099207, 32768, 0, 7⟩
def RAIL_PB.PB_PER : Fld := ⟨2099214, 32768, 0, 8⟩
def RAIL_PB.PB_PULSES : Fld := ⟨2099222, 32768, 0, 4⟩
def RAIL_PB.PB_DEMAND_N : Fld := ⟨2099226, 32768, 0, 4⟩
/-! RAIL_PBMON at 0x10044 (R409). -/
def RAIL_PBMON.PB_MON : Fld := ⟨2099328, 32768, 0, 5⟩
def RAIL_PBMON.PB_TICK : Fld := ⟨2099336, 32768, 0, 4⟩
/-! RAIL_THR at 0x10048 (R410). -/
def RAIL_THR.THR_FORCE : Fld := ⟨2099456, 32768, 0, 1⟩
def RAIL_THR.THR_HOLD : Fld := ⟨2099464, 32768, 0, 8⟩
def RAIL_THR.THR_SEL : Fld := ⟨2099472, 32768, 0, 2⟩
def RAIL_THR.THR_EN : Fld := ⟨2099474, 32768, 0, 1⟩
/-! RAIL_AVS at 0x1004C (R411). -/
def RAIL_AVS.AVS_V : Fld := ⟨2099584, 32768, 0, 16⟩
def RAIL_AVS.AVS_VALID : Fld := ⟨2099600, 32768, 0, 1⟩
/-! RAIL_STATUS at 0x10080 (R412). -/
def RAIL_STATUS.STATE : Fld := ⟨2101248, 32768, 0, 4⟩
def RAIL_STATUS.ON_REQ : Fld := ⟨2101252, 32768, 0, 1⟩
def RAIL_STATUS.OFF_PEND : Fld := ⟨2101253, 32768, 0, 1⟩
def RAIL_STATUS.PG : Fld := ⟨2101254, 32768, 0, 1⟩
def RAIL_STATUS.SLEWING : Fld := ⟨2101255, 32768, 0, 1⟩
def RAIL_STATUS.OPEN_SEG : Fld := ⟨2101256, 32768, 0, 1⟩
def RAIL_STATUS.PREBIAS_FOUND : Fld := ⟨2101257, 32768, 0, 1⟩
def RAIL_STATUS.VMAX_CLAMP : Fld := ⟨2101258, 32768, 0, 1⟩
def RAIL_STATUS.LL_CLAMP : Fld := ⟨2101259, 32768, 0, 1⟩
def RAIL_STATUS.PG_EV : Fld := ⟨2101264, 32768, 0, 1⟩
def RAIL_STATUS.BURST_EV : Fld := ⟨2101265, 32768, 0, 1⟩
def RAIL_STATUS.VMAX_EV : Fld := ⟨2101266, 32768, 0, 1⟩
/-! RAIL_VSP at 0x10084 (R413). -/
def RAIL_VSP.VALUE : Fld := ⟨2101376, 32768, 0, 24⟩
/-! RAIL_VCMD at 0x10088 (R413). -/
def RAIL_VCMD.VALUE : Fld := ⟨2101504, 32768, 0, 24⟩
/-! RAIL_VPRE at 0x1008C (R413). -/
def RAIL_VPRE.VALUE : Fld := ⟨2101632, 32768, 0, 24⟩
/-! RAIL_ILLF at 0x10090 (R414). -/
def RAIL_ILLF.I_LLF : Fld := ⟨2101760, 32768, 0, 23⟩
/-! RAIL_EVCNT at 0x10094 (R415). -/
def RAIL_EVCNT.PG_CNT : Fld := ⟨2101888, 32768, 0, 8⟩
def RAIL_EVCNT.BURST_CNT : Fld := ⟨2101896, 32768, 0, 8⟩
def RAIL_EVCNT.VMAX_CNT : Fld := ⟨2101904, 32768, 0, 8⟩
/-! RAIL_ENGINE at 0x10380 (R242). -/
def RAIL_ENGINE.SLICE : Fld := ⟨2125824, 32768, 0, 4⟩
def RAIL_ENGINE.TIMING : Fld := ⟨2125828, 32768, 0, 1⟩
def RAIL_ENGINE.TMODE_INIT : Fld := ⟨2125829, 32768, 0, 1⟩
def RAIL_ENGINE.HO_CNT : Fld := ⟨2125832, 32768, 0, 8⟩
/-! RAIL_HANDOVER at 0x10384 (R243). -/
def RAIL_HANDOVER.HANDOVER_MAX : Fld := ⟨2125952, 32768, 0, 16⟩
def RAIL_HANDOVER.HANDOVER_SLEW : Fld := ⟨2125968, 32768, 0, 16⟩
/-! THR_STAT at 0x12000 (R416). -/
def THR_STAT.THR : Fld := ⟨2359296, 0, 0, 4⟩

/-- Rows of the register map: the RAIL block. -/
def tableRail : List RegDef :=
  [ ⟨0x10000, 0x400, 8, 0, 1, [⟨RAIL_CFG.RAIL_EN, .img⟩, ⟨RAIL_CFG.PH_FIRST, .img⟩, ⟨RAIL_CFG.PH_COUNT, .img⟩, ⟨RAIL_CFG.SP_SRC, .img⟩, ⟨RAIL_CFG.PB_RAIL, .img⟩, ⟨RAIL_CFG.EN_USE, .img⟩, ⟨RAIL_CFG.EN_POL, .img⟩, ⟨RAIL_CFG.EN_DEB, .img⟩, ⟨RAIL_CFG.PREBIAS_EN, .rwl⟩]⟩,
    ⟨0x10004, 0x400, 8, 0, 1, [⟨RAIL_ONOFF.ON_OFF_CONFIG, .rw⟩, ⟨RAIL_ONOFF.OP_ON, .rw⟩, ⟨RAIL_ONOFF.MARGIN, .rw⟩]⟩,
    ⟨0x10008, 0x400, 8, 0, 1, [⟨RAIL_VOUT.VOUT_COMMAND, .rw⟩, ⟨RAIL_VOUT.VOUT_MAX, .rw⟩]⟩,
    ⟨0x1000C, 0x400, 8, 0, 1, [⟨RAIL_MARGIN.VOUT_MARGIN_LOW, .rw⟩, ⟨RAIL_MARGIN.VOUT_MARGIN_HIGH, .rw⟩]⟩,
    ⟨0x10010, 0x400, 8, 0, 1, [⟨RAIL_SLEW.SLEW_UP, .rw⟩, ⟨RAIL_SLEW.SLEW_DN, .rw⟩]⟩,
    ⟨0x10014, 0x400, 8, 0, 1, [⟨RAIL_TONDLY.TIME, .rw⟩]⟩,
    ⟨0x10018, 0x400, 8, 0, 1, [⟨RAIL_TONRISE.TIME, .rw⟩]⟩,
    ⟨0x1001C, 0x400, 8, 0, 1, [⟨RAIL_TOFFDLY.TIME, .rw⟩]⟩,
    ⟨0x10020, 0x400, 8, 0, 1, [⟨RAIL_TOFFFALL.TIME, .rw⟩]⟩,
    ⟨0x10024, 0x400, 8, 0, 1, [⟨RAIL_STOPCFG.SS_FALL, .img⟩, ⟨RAIL_STOPCFG.OFF_WAIT, .img⟩]⟩,
    ⟨0x10028, 0x400, 8, 0, 1, [⟨RAIL_LL.R_LL, .rw⟩, ⟨RAIL_LL.LL_POLE, .rw⟩]⟩,
    ⟨0x1002C, 0x400, 8, 0, 1, [⟨RAIL_LLIMAX.LL_IMAX, .img⟩]⟩,
    ⟨0x10030, 0x400, 8, 0, 1, [⟨RAIL_PG.PG_ON, .rw⟩, ⟨RAIL_PG.PG_OFF, .rw⟩, ⟨RAIL_PG.PG_OV, .rw⟩]⟩,
    ⟨0x10034, 0x400, 8, 0, 1, [⟨RAIL_PGDLY.PG_DLY, .rw⟩]⟩,
    ⟨0x10038, 0x400, 8, 0, 1, [⟨RAIL_BURST.BURST_EN, .rw⟩, ⟨RAIL_BURST.BURST_LO, .rw⟩, ⟨RAIL_BURST.BURST_HI, .rw⟩]⟩,
    ⟨0x1003C, 0x400, 8, 0, 1, [⟨RAIL_BURST2.I_BURST_IN, .rw⟩, ⟨RAIL_BURST2.BURST_DWELL, .rw⟩, ⟨RAIL_BURST2.BURST_MINGAP, .rw⟩]⟩,
    ⟨0x10040, 0x400, 8, 0, 1, [⟨RAIL_PB.PB_TON, .img⟩, ⟨RAIL_PB.PB_TLOW, .img⟩, ⟨RAIL_PB.PB_PER, .img⟩, ⟨RAIL_PB.PB_PULSES, .img⟩, ⟨RAIL_PB.PB_DEMAND_N, .img⟩]⟩,
    ⟨0x10044, 0x400, 8, 0, 1, [⟨RAIL_PBMON.PB_MON, .img⟩, ⟨RAIL_PBMON.PB_TICK, .img⟩]⟩,
    ⟨0x10048, 0x400, 8, 0, 1, [⟨RAIL_THR.THR_FORCE, .rw⟩, ⟨RAIL_THR.THR_HOLD, .rw⟩, ⟨RAIL_THR.THR_SEL, .img⟩, ⟨RAIL_THR.THR_EN, .img⟩]⟩,
    ⟨0x1004C, 0x400, 8, 0, 1, [⟨RAIL_AVS.AVS_V, .ro⟩, ⟨RAIL_AVS.AVS_VALID, .ro⟩]⟩,
    ⟨0x10080, 0x400, 8, 0, 1, [⟨RAIL_STATUS.STATE, .ro⟩, ⟨RAIL_STATUS.ON_REQ, .ro⟩, ⟨RAIL_STATUS.OFF_PEND, .ro⟩, ⟨RAIL_STATUS.PG, .ro⟩, ⟨RAIL_STATUS.SLEWING, .ro⟩, ⟨RAIL_STATUS.OPEN_SEG, .ro⟩, ⟨RAIL_STATUS.PREBIAS_FOUND, .ro⟩, ⟨RAIL_STATUS.VMAX_CLAMP, .ro⟩, ⟨RAIL_STATUS.LL_CLAMP, .ro⟩, ⟨RAIL_STATUS.PG_EV, .w1c⟩, ⟨RAIL_STATUS.BURST_EV, .w1c⟩, ⟨RAIL_STATUS.VMAX_EV, .w1c⟩]⟩,
    ⟨0x10084, 0x400, 8, 0, 1, [⟨RAIL_VSP.VALUE, .ro⟩]⟩,
    ⟨0x10088, 0x400, 8, 0, 1, [⟨RAIL_VCMD.VALUE, .ro⟩]⟩,
    ⟨0x1008C, 0x400, 8, 0, 1, [⟨RAIL_VPRE.VALUE, .ro⟩]⟩,
    ⟨0x10090, 0x400, 8, 0, 1, [⟨RAIL_ILLF.I_LLF, .ro⟩]⟩,
    ⟨0x10094, 0x400, 8, 0, 1, [⟨RAIL_EVCNT.PG_CNT, .ro⟩, ⟨RAIL_EVCNT.BURST_CNT, .ro⟩, ⟨RAIL_EVCNT.VMAX_CNT, .ro⟩]⟩,
    ⟨0x10380, 0x400, 8, 0, 1, [⟨RAIL_ENGINE.SLICE, .ro⟩, ⟨RAIL_ENGINE.TIMING, .ro⟩, ⟨RAIL_ENGINE.TMODE_INIT, .img⟩, ⟨RAIL_ENGINE.HO_CNT, .ro⟩]⟩,
    ⟨0x10384, 0x400, 8, 0, 1, [⟨RAIL_HANDOVER.HANDOVER_MAX, .img⟩, ⟨RAIL_HANDOVER.HANDOVER_SLEW, .img⟩]⟩,
    ⟨0x12000, 0x0, 1, 0, 1, [⟨THR_STAT.THR, .ro⟩]⟩ ]

end Sys2Proof.Machine.Reg
end

