-- ==== Sys2Proof/Machine/RegsRunAhead.lean ====
section
/-!
DEFINITION. The register fields of the RUNAHEAD block, and the rows of the register map that hold them.
A field is named REGISTER.FIELD as the field tables of spec/ name it; each register cites the rule that gives its table.
-/

namespace Sys2Proof.Machine.Reg

/-! RA_CFG at 0x30000 (R282). -/
def RA_CFG.DEPTH : Fld := ⟨6291456, 8192, 0, 3⟩
def RA_CFG.PB_EN : Fld := ⟨6291459, 8192, 0, 1⟩
def RA_CFG.INTENT_EN : Fld := ⟨6291460, 8192, 0, 1⟩
def RA_CFG.DEPTH_EFF : Fld := ⟨6291464, 8192, 0, 3⟩
def RA_CFG.ARM_SLOPE : Fld := ⟨6291472, 8192, 0, 16⟩
/-! RA_MODEL at 0x30004 (R283). -/
def RA_MODEL.KC : Fld := ⟨6291584, 8192, 0, 16⟩
def RA_MODEL.KL_PH : Fld := ⟨6291600, 8192, 0, 16⟩
/-! RA_TOL at 0x30008 (R284). -/
def RA_TOL.TOL_BASE : Fld := ⟨6291712, 8192, 0, 12⟩
def RA_TOL.TOL_INT : Fld := ⟨6291728, 8192, 0, 12⟩
/-! RA_ARM at 0x3000C (R285). -/
def RA_ARM.ARM_ERR : Fld := ⟨6291840, 8192, 0, 15⟩
def RA_ARM.ARM_HOLD : Fld := ⟨6291856, 8192, 0, 8⟩
def RA_ARM.ADD_LEAD : Fld := ⟨6291864, 8192, 0, 7⟩
/-! RA_PB at 0x30010 (R286). -/
def RA_PB.PREBOOST_MAX : Fld := ⟨6291968, 8192, 0, 10⟩
def RA_PB.R_PB : Fld := ⟨6291979, 8192, 0, 11⟩
def RA_PB.MISS_WIN : Fld := ⟨6291991, 8192, 0, 7⟩
/-! RA_STAT at 0x30020 (R287). -/
def RA_STAT.ARMED : Fld := ⟨6292480, 8192, 0, 1⟩
def RA_STAT.ENTRIES : Fld := ⟨6292481, 8192, 0, 3⟩
def RA_STAT.INTENT : Fld := ⟨6292484, 8192, 0, 2⟩
def RA_STAT.ICODE : Fld := ⟨6292486, 8192, 0, 4⟩
def RA_STAT.PREP : Fld := ⟨6292490, 8192, 0, 1⟩
def RA_STAT.PREP_DONE : Fld := ⟨6292491, 8192, 0, 1⟩
def RA_STAT.SQ_EV : Fld := ⟨6292496, 8192, 0, 1⟩
def RA_STAT.ARRIVE_EV : Fld := ⟨6292497, 8192, 0, 1⟩
def RA_STAT.MISS_EV : Fld := ⟨6292498, 8192, 0, 1⟩
def RA_STAT.LIPREF_EV : Fld := ⟨6292499, 8192, 0, 1⟩
/-! RA_BETA at 0x30024 (R288). -/
def RA_BETA.BETA : Fld := ⟨6292608, 8192, 0, 16⟩
def RA_BETA.B_TARGET : Fld := ⟨6292624, 8192, 0, 16⟩
/-! RA_COMMITS at 0x30028 (R289). -/
def RA_COMMITS.SPEC_CNT : Fld := ⟨6292736, 8192, 0, 16⟩
def RA_COMMITS.NATIVE_CNT : Fld := ⟨6292752, 8192, 0, 16⟩
/-! RA_SQCNT at 0x3002C (R290). -/
def RA_SQCNT.SQ_VAL : Fld := ⟨6292864, 8192, 0, 8⟩
def RA_SQCNT.SQ_PROT : Fld := ⟨6292872, 8192, 0, 8⟩
def RA_SQCNT.SQ_ENG : Fld := ⟨6292880, 8192, 0, 8⟩
def RA_SQCNT.SQ_OTHER : Fld := ⟨6292888, 8192, 0, 8⟩
/-! RA_EVCNT at 0x30030 (R291). -/
def RA_EVCNT.SQ_CNT : Fld := ⟨6292992, 8192, 0, 8⟩
def RA_EVCNT.ARRIVE_CNT : Fld := ⟨6293000, 8192, 0, 8⟩
def RA_EVCNT.MISS_CNT : Fld := ⟨6293008, 8192, 0, 8⟩
def RA_EVCNT.LIPREF_CNT : Fld := ⟨6293016, 8192, 0, 8⟩
/-! RA_ITAB at 0x30040 (R292). -/
def RA_ITAB.STEP : Fld := ⟨6293504, 8192, 128, 16⟩
def RA_ITAB.LEAD : Fld := ⟨6293520, 8192, 128, 7⟩
def RA_ITAB.W : Fld := ⟨6293527, 8192, 128, 4⟩
def RA_ITAB.KIND : Fld := ⟨6293531, 8192, 128, 2⟩
/-! LIP_CFG at 0x30800 (R293). -/
def LIP_CFG.MAP_A : Fld := ⟨6356992, 0, 0, 8⟩
def LIP_CFG.MAP_B : Fld := ⟨6357000, 0, 0, 8⟩
/-! LIP_STAT at 0x30804 (R294). -/
def LIP_STAT.CODE_A : Fld := ⟨6357120, 0, 0, 4⟩
def LIP_STAT.CODE_B : Fld := ⟨6357124, 0, 0, 4⟩
def LIP_STAT.VIOL_A_EV : Fld := ⟨6357128, 0, 0, 1⟩
def LIP_STAT.VIOL_B_EV : Fld := ⟨6357129, 0, 0, 1⟩
/-! LIP_EVCNT at 0x30808 (R295). -/
def LIP_EVCNT.VIOL_A_CNT : Fld := ⟨6357248, 0, 0, 8⟩
def LIP_EVCNT.VIOL_B_CNT : Fld := ⟨6357256, 0, 0, 8⟩
def LIP_EVCNT.STB_A_CNT : Fld := ⟨6357264, 0, 0, 8⟩
def LIP_EVCNT.STB_B_CNT : Fld := ⟨6357272, 0, 0, 8⟩

/-- Rows of the register map: the RUNAHEAD block. -/
def tableRunAhead : List RegDef :=
  [ ⟨0x30000, 0x100, 8, 0, 1, [⟨RA_CFG.DEPTH, .rw⟩, ⟨RA_CFG.PB_EN, .rw⟩, ⟨RA_CFG.INTENT_EN, .rw⟩, ⟨RA_CFG.DEPTH_EFF, .ro⟩, ⟨RA_CFG.ARM_SLOPE, .rw⟩]⟩,
    ⟨0x30004, 0x100, 8, 0, 1, [⟨RA_MODEL.KC, .rw⟩, ⟨RA_MODEL.KL_PH, .rw⟩]⟩,
    ⟨0x30008, 0x100, 8, 0, 1, [⟨RA_TOL.TOL_BASE, .rw⟩, ⟨RA_TOL.TOL_INT, .rw⟩]⟩,
    ⟨0x3000C, 0x100, 8, 0, 1, [⟨RA_ARM.ARM_ERR, .rw⟩, ⟨RA_ARM.ARM_HOLD, .rw⟩, ⟨RA_ARM.ADD_LEAD, .rw⟩]⟩,
    ⟨0x30010, 0x100, 8, 0, 1, [⟨RA_PB.PREBOOST_MAX, .img⟩, ⟨RA_PB.R_PB, .rw⟩, ⟨RA_PB.MISS_WIN, .rw⟩]⟩,
    ⟨0x30020, 0x100, 8, 0, 1, [⟨RA_STAT.ARMED, .ro⟩, ⟨RA_STAT.ENTRIES, .ro⟩, ⟨RA_STAT.INTENT, .ro⟩, ⟨RA_STAT.ICODE, .ro⟩, ⟨RA_STAT.PREP, .ro⟩, ⟨RA_STAT.PREP_DONE, .ro⟩, ⟨RA_STAT.SQ_EV, .w1c⟩, ⟨RA_STAT.ARRIVE_EV, .w1c⟩, ⟨RA_STAT.MISS_EV, .w1c⟩, ⟨RA_STAT.LIPREF_EV, .w1c⟩]⟩,
    ⟨0x30024, 0x100, 8, 0, 1, [⟨RA_BETA.BETA, .ro⟩, ⟨RA_BETA.B_TARGET, .ro⟩]⟩,
    ⟨0x30028, 0x100, 8, 0, 1, [⟨RA_COMMITS.SPEC_CNT, .ro⟩, ⟨RA_COMMITS.NATIVE_CNT, .ro⟩]⟩,
    ⟨0x3002C, 0x100, 8, 0, 1, [⟨RA_SQCNT.SQ_VAL, .ro⟩, ⟨RA_SQCNT.SQ_PROT, .ro⟩, ⟨RA_SQCNT.SQ_ENG, .ro⟩, ⟨RA_SQCNT.SQ_OTHER, .ro⟩]⟩,
    ⟨0x30030, 0x100, 8, 0, 1, [⟨RA_EVCNT.SQ_CNT, .ro⟩, ⟨RA_EVCNT.ARRIVE_CNT, .ro⟩, ⟨RA_EVCNT.MISS_CNT, .ro⟩, ⟨RA_EVCNT.LIPREF_CNT, .ro⟩]⟩,
    ⟨0x30040, 0x100, 8, 4, 16, [⟨RA_ITAB.STEP, .rw⟩, ⟨RA_ITAB.LEAD, .rw⟩, ⟨RA_ITAB.W, .rw⟩, ⟨RA_ITAB.KIND, .rw⟩]⟩,
    ⟨0x30800, 0x0, 1, 0, 1, [⟨LIP_CFG.MAP_A, .img⟩, ⟨LIP_CFG.MAP_B, .img⟩]⟩,
    ⟨0x30804, 0x0, 1, 0, 1, [⟨LIP_STAT.CODE_A, .ro⟩, ⟨LIP_STAT.CODE_B, .ro⟩, ⟨LIP_STAT.VIOL_A_EV, .w1c⟩, ⟨LIP_STAT.VIOL_B_EV, .w1c⟩]⟩,
    ⟨0x30808, 0x0, 1, 0, 1, [⟨LIP_EVCNT.VIOL_A_CNT, .ro⟩, ⟨LIP_EVCNT.VIOL_B_CNT, .ro⟩, ⟨LIP_EVCNT.STB_A_CNT, .ro⟩, ⟨LIP_EVCNT.STB_B_CNT, .ro⟩]⟩ ]

end Sys2Proof.Machine.Reg
end

