-- ==== Sys2Proof/Machine/RegsSafety.lean ====
section
/-!
DEFINITION. The register fields of the SAFETY and BIST block, and the rows of the register map that hold them.
A field is named REGISTER.FIELD as the field tables of spec/ name it; each register cites the rule that gives its table.
-/

namespace Sys2Proof.Machine.Reg

/-! SB_VERDICT at 0xA0000 (R603). -/
def SB_VERDICT.V0 : Fld := ⟨20971520, 0, 0, 3⟩
def SB_VERDICT.V1 : Fld := ⟨20971523, 0, 0, 3⟩
def SB_VERDICT.V2 : Fld := ⟨20971526, 0, 0, 3⟩
def SB_VERDICT.V3 : Fld := ⟨20971529, 0, 0, 3⟩
def SB_VERDICT.V4 : Fld := ⟨20971532, 0, 0, 3⟩
def SB_VERDICT.V5 : Fld := ⟨20971535, 0, 0, 3⟩
/-! SB_TIME at 0xA0004 (R604). -/
def SB_TIME.DURATION : Fld := ⟨20971648, 0, 0, 16⟩
/-! IF_CFG at 0xA0008 (R605). -/
def IF_CFG.EC_TOL : Fld := ⟨20971776, 0, 0, 8⟩
def IF_CFG.PH_TOL : Fld := ⟨20971784, 0, 0, 8⟩
/-! IF_SLICE at 0xA000C (R606). -/
def IF_SLICE.S0 : Fld := ⟨20971904, 0, 0, 3⟩
def IF_SLICE.S1 : Fld := ⟨20971907, 0, 0, 3⟩
def IF_SLICE.S2 : Fld := ⟨20971910, 0, 0, 3⟩
def IF_SLICE.S3 : Fld := ⟨20971913, 0, 0, 3⟩
def IF_SLICE.S4 : Fld := ⟨20971916, 0, 0, 3⟩
def IF_SLICE.S5 : Fld := ⟨20971919, 0, 0, 3⟩
def IF_SLICE.S6 : Fld := ⟨20971922, 0, 0, 3⟩
def IF_SLICE.S7 : Fld := ⟨20971925, 0, 0, 3⟩
def IF_SLICE.S8 : Fld := ⟨20971928, 0, 0, 3⟩
/-! IF_STAT at 0xA0010 (R607). -/
def IF_STAT.LATE_MBIST : Fld := ⟨20972032, 0, 0, 1⟩
def IF_STAT.LATE_EINJ : Fld := ⟨20972033, 0, 0, 1⟩
def IF_STAT.LATE_PINJ : Fld := ⟨20972034, 0, 0, 1⟩
def IF_STAT.LATE_DACRB : Fld := ⟨20972035, 0, 0, 1⟩
def IF_STAT.LATE_HAL : Fld := ⟨20972036, 0, 0, 1⟩
def IF_STAT.MBIST_FAIL : Fld := ⟨20972040, 0, 0, 6⟩
def IF_STAT.QUEUE_OFF : Fld := ⟨20972046, 0, 0, 1⟩
def IF_STAT.IFFAIL_EV : Fld := ⟨20972048, 0, 0, 1⟩
def IF_STAT.NOTRUN_EV : Fld := ⟨20972049, 0, 0, 1⟩
def IF_STAT.LATE_EV : Fld := ⟨20972050, 0, 0, 1⟩
/-! IF_EVCNT at 0xA0014 (R608). -/
def IF_EVCNT.IFFAIL_CNT : Fld := ⟨20972160, 0, 0, 8⟩
def IF_EVCNT.NOTRUN_CNT : Fld := ⟨20972168, 0, 0, 8⟩
def IF_EVCNT.LATE_CNT : Fld := ⟨20972176, 0, 0, 8⟩
/-! IF_PASSCNT at 0xA0018 (R609). -/
def IF_PASSCNT.PASS_CNT : Fld := ⟨20972288, 0, 0, 32⟩
/-! IF_INJ at 0xA001C (R610). -/
def IF_INJ.EC_INJ_FAIL : Fld := ⟨20972416, 0, 0, 8⟩
def IF_INJ.PH_INJ_FAIL_CNT : Fld := ⟨20972424, 0, 0, 7⟩
/-! SVC_STATUS at 0xA0020 (R611). -/
def SVC_STATUS.CAUSE : Fld := ⟨20972544, 0, 0, 8⟩
def SVC_STATUS.SVC_EV : Fld := ⟨20972560, 0, 0, 8⟩
/-! SVC_EVCNT at 0xA0024 (R612). -/
def SVC_EVCNT.C0 : Fld := ⟨20972672, 0, 128, 8⟩
def SVC_EVCNT.C1 : Fld := ⟨20972680, 0, 128, 8⟩
def SVC_EVCNT.C2 : Fld := ⟨20972688, 0, 128, 8⟩
def SVC_EVCNT.C3 : Fld := ⟨20972696, 0, 128, 8⟩
/-! SAFE_DETAIL at 0xA002C (R613). -/
def SAFE_DETAIL.DETAIL : Fld := ⟨20972928, 0, 0, 3⟩
def SAFE_DETAIL.DETAIL_SEEN : Fld := ⟨20972936, 0, 0, 4⟩
/-! DBG_CTRL at 0xA0100 (R614). -/
def DBG_CTRL.KEY : Fld := ⟨20979712, 0, 0, 8⟩
def DBG_CTRL.OP : Fld := ⟨20979720, 0, 0, 2⟩
/-! DBG_STAT at 0xA0104 (R615). -/
def DBG_STAT.SESSION : Fld := ⟨20979840, 0, 0, 1⟩
def DBG_STAT.UNLOCKED : Fld := ⟨20979841, 0, 0, 1⟩
def DBG_STAT.ZERO_OK : Fld := ⟨20979842, 0, 0, 1⟩
def DBG_STAT.OTP_KEY_BLOCK : Fld := ⟨20979843, 0, 0, 1⟩
def DBG_STAT.LAST : Fld := ⟨20979844, 0, 0, 2⟩
def DBG_STAT.DBG_FAIL_CNT : Fld := ⟨20979846, 0, 0, 2⟩
def DBG_STAT.DBG_LOCK : Fld := ⟨20979848, 0, 0, 1⟩
/-! DBG_CHAL at 0xA0110 (R616). -/
def DBG_CHAL.CHAL : Fld := ⟨20980224, 0, 128, 32⟩
/-! DBG_RESP at 0xA0120 (R616). -/
def DBG_RESP.RESP : Fld := ⟨20980736, 0, 128, 32⟩
/-- Indexed view: verdict of partition i (R603). -/
def SB_VERDICT.V : Fld := ⟨20971520, 3, 0, 3⟩
/-- Indexed view: in-field verdict of slice i (R606). -/
def IF_SLICE.S : Fld := ⟨20971904, 3, 0, 3⟩
/-- Indexed view: service event count of cause 4j+i (R612). -/
def SVC_EVCNT.C : Fld := ⟨20972672, 8, 128, 8⟩

/-- Rows of the register map: the SAFETY and BIST block. -/
def tableSafety : List RegDef :=
  [ ⟨0xA0000, 0x0, 1, 0, 1, [⟨SB_VERDICT.V0, .ro⟩, ⟨SB_VERDICT.V1, .ro⟩, ⟨SB_VERDICT.V2, .ro⟩, ⟨SB_VERDICT.V3, .ro⟩, ⟨SB_VERDICT.V4, .ro⟩, ⟨SB_VERDICT.V5, .ro⟩]⟩,
    ⟨0xA0004, 0x0, 1, 0, 1, [⟨SB_TIME.DURATION, .ro⟩]⟩,
    ⟨0xA0008, 0x0, 1, 0, 1, [⟨IF_CFG.EC_TOL, .img⟩, ⟨IF_CFG.PH_TOL, .img⟩]⟩,
    ⟨0xA000C, 0x0, 1, 0, 1, [⟨IF_SLICE.S0, .ro⟩, ⟨IF_SLICE.S1, .ro⟩, ⟨IF_SLICE.S2, .ro⟩, ⟨IF_SLICE.S3, .ro⟩, ⟨IF_SLICE.S4, .ro⟩, ⟨IF_SLICE.S5, .ro⟩, ⟨IF_SLICE.S6, .ro⟩, ⟨IF_SLICE.S7, .ro⟩, ⟨IF_SLICE.S8, .ro⟩]⟩,
    ⟨0xA0010, 0x0, 1, 0, 1, [⟨IF_STAT.LATE_MBIST, .ro⟩, ⟨IF_STAT.LATE_EINJ, .ro⟩, ⟨IF_STAT.LATE_PINJ, .ro⟩, ⟨IF_STAT.LATE_DACRB, .ro⟩, ⟨IF_STAT.LATE_HAL, .ro⟩, ⟨IF_STAT.MBIST_FAIL, .ro⟩, ⟨IF_STAT.QUEUE_OFF, .ro⟩, ⟨IF_STAT.IFFAIL_EV, .w1c⟩, ⟨IF_STAT.NOTRUN_EV, .w1c⟩, ⟨IF_STAT.LATE_EV, .w1c⟩]⟩,
    ⟨0xA0014, 0x0, 1, 0, 1, [⟨IF_EVCNT.IFFAIL_CNT, .ro⟩, ⟨IF_EVCNT.NOTRUN_CNT, .ro⟩, ⟨IF_EVCNT.LATE_CNT, .ro⟩]⟩,
    ⟨0xA0018, 0x0, 1, 0, 1, [⟨IF_PASSCNT.PASS_CNT, .ro⟩]⟩,
    ⟨0xA001C, 0x0, 1, 0, 1, [⟨IF_INJ.EC_INJ_FAIL, .ro⟩, ⟨IF_INJ.PH_INJ_FAIL_CNT, .ro⟩]⟩,
    ⟨0xA0020, 0x0, 1, 0, 1, [⟨SVC_STATUS.CAUSE, .ro⟩, ⟨SVC_STATUS.SVC_EV, .w1c⟩]⟩,
    ⟨0xA0024, 0x0, 1, 4, 2, [⟨SVC_EVCNT.C0, .ro⟩, ⟨SVC_EVCNT.C1, .ro⟩, ⟨SVC_EVCNT.C2, .ro⟩, ⟨SVC_EVCNT.C3, .ro⟩]⟩,
    ⟨0xA002C, 0x0, 1, 0, 1, [⟨SAFE_DETAIL.DETAIL, .ro⟩, ⟨SAFE_DETAIL.DETAIL_SEEN, .ro⟩]⟩,
    ⟨0xA0100, 0x0, 1, 0, 1, [⟨DBG_CTRL.KEY, .wo⟩, ⟨DBG_CTRL.OP, .wo⟩]⟩,
    ⟨0xA0104, 0x0, 1, 0, 1, [⟨DBG_STAT.SESSION, .ro⟩, ⟨DBG_STAT.UNLOCKED, .ro⟩, ⟨DBG_STAT.ZERO_OK, .ro⟩, ⟨DBG_STAT.OTP_KEY_BLOCK, .ro⟩, ⟨DBG_STAT.LAST, .ro⟩, ⟨DBG_STAT.DBG_FAIL_CNT, .ro⟩, ⟨DBG_STAT.DBG_LOCK, .ro⟩]⟩,
    ⟨0xA0110, 0x0, 1, 4, 4, [⟨DBG_CHAL.CHAL, .ro⟩]⟩,
    ⟨0xA0120, 0x0, 1, 4, 4, [⟨DBG_RESP.RESP, .wo⟩]⟩ ]

end Sys2Proof.Machine.Reg
end

