-- ==== Sys2Proof/Machine/RegsSense.lean ====
section
/-!
DEFINITION. The register fields of the SENSE block, and the rows of the register map that hold them.
A field is named REGISTER.FIELD as the field tables of spec/ name it; each register cites the rule that gives its table.
-/

namespace Sys2Proof.Machine.Reg

/-! SEN_CFG at 0x50000 (R161). -/
def SEN_CFG.DIV_K : Fld := ⟨10485760, 2048, 0, 16⟩
def SEN_CFG.DEC_N : Fld := ⟨10485776, 2048, 0, 3⟩
def SEN_CFG.PROBE_EN : Fld := ⟨10485779, 2048, 0, 1⟩
def SEN_CFG.TT_COMP : Fld := ⟨10485780, 2048, 0, 9⟩
/-! SEN_TIMING at 0x50004 (R162). -/
def SEN_TIMING.SAMPLE_OFS : Fld := ⟨10485888, 2048, 0, 16⟩
/-! SEN_ERR at 0x50008 (R163). -/
def SEN_ERR.ECODE : Fld := ⟨10486016, 2048, 0, 16⟩
def SEN_ERR.RAW : Fld := ⟨10486032, 2048, 0, 11⟩
def SEN_ERR.WSAT : Fld := ⟨10486043, 2048, 0, 1⟩
/-! SEN_SPDAC at 0x5000C (R164). -/
def SEN_SPDAC.SP_CODE : Fld := ⟨10486144, 2048, 0, 15⟩
def SEN_SPDAC.DITHER_S : Fld := ⟨10486159, 2048, 0, 1⟩
def SEN_SPDAC.SP_CLAMP : Fld := ⟨10486160, 2048, 0, 1⟩
/-! SEN_PROBE at 0x50010 (R165). -/
def SEN_PROBE.PROBE_STAT : Fld := ⟨10486272, 2048, 0, 16⟩
def SEN_PROBE.PROBE_THR : Fld := ⟨10486288, 2048, 0, 16⟩
/-! SEN_STAT at 0x50014 (R166). -/
def SEN_STAT.TT_P : Fld := ⟨10486400, 2048, 0, 1⟩
def SEN_STAT.TT_N : Fld := ⟨10486401, 2048, 0, 1⟩
def SEN_STAT.PROBE_VALID : Fld := ⟨10486402, 2048, 0, 1⟩
def SEN_STAT.PROBE_ABSENT : Fld := ⟨10486403, 2048, 0, 1⟩
def SEN_STAT.TT_EV : Fld := ⟨10486408, 2048, 0, 1⟩
def SEN_STAT.SATH_EV : Fld := ⟨10486409, 2048, 0, 1⟩
def SEN_STAT.SATL_EV : Fld := ⟨10486410, 2048, 0, 1⟩
def SEN_STAT.PROBE_EV : Fld := ⟨10486411, 2048, 0, 1⟩
/-! SEN_ISUM at 0x50018 (R167). -/
def SEN_ISUM.I_FAST : Fld := ⟨10486528, 2048, 0, 23⟩
/-! SEN_CAL at 0x5001C (R168). -/
def SEN_CAL.GTRIM : Fld := ⟨10486656, 2048, 0, 16⟩
def SEN_CAL.OFS : Fld := ⟨10486672, 2048, 0, 10⟩
/-! SEN_EVCNT at 0x50020 (R169). -/
def SEN_EVCNT.TT_CNT : Fld := ⟨10486784, 2048, 0, 8⟩
def SEN_EVCNT.SATH_CNT : Fld := ⟨10486792, 2048, 0, 8⟩
def SEN_EVCNT.SATL_CNT : Fld := ⟨10486800, 2048, 0, 8⟩
def SEN_EVCNT.PROBE_CNT : Fld := ⟨10486808, 2048, 0, 8⟩
/-! SENSE_CALSTAT at 0x50400 (R170). -/
def SENSE_CALSTAT.EC_FAIL : Fld := ⟨10518528, 0, 0, 8⟩
def SENSE_CALSTAT.PCS_FAIL_CNT : Fld := ⟨10518536, 0, 0, 7⟩
def SENSE_CALSTAT.CAL_DONE : Fld := ⟨10518544, 0, 0, 1⟩
def SENSE_CALSTAT.CAL_BUSY : Fld := ⟨10518545, 0, 0, 1⟩
/-! PCS_CFG at 0x51000 (R171). -/
def PCS_CFG.KA : Fld := ⟨10616832, 512, 0, 15⟩
def PCS_CFG.OFS_MODE : Fld := ⟨10616847, 512, 0, 1⟩
def PCS_CFG.OFS_IMG : Fld := ⟨10616848, 512, 0, 12⟩
/-! PCS_CAL at 0x51004 (R172). -/
def PCS_CAL.OFS : Fld := ⟨10616960, 512, 0, 12⟩
def PCS_CAL.GTRIM : Fld := ⟨10616972, 512, 0, 16⟩
def PCS_CAL.CAL_FAIL : Fld := ⟨10616988, 512, 0, 1⟩
/-! PCS_AVG at 0x51008 (R173). -/
def PCS_AVG.MEAN : Fld := ⟨10617088, 512, 0, 16⟩
def PCS_AVG.RIPPLE : Fld := ⟨10617104, 512, 0, 16⟩
/-! PCS_STAT at 0x5100C (R174). -/
def PCS_STAT.SAT : Fld := ⟨10617216, 512, 0, 1⟩
def PCS_STAT.SAT_EV : Fld := ⟨10617217, 512, 0, 1⟩
def PCS_STAT.SAT_CNT : Fld := ⟨10617224, 512, 0, 8⟩

/-- Rows of the register map: the SENSE block. -/
def tableSense : List RegDef :=
  [ ⟨0x50000, 0x40, 8, 0, 1, [⟨SEN_CFG.DIV_K, .img⟩, ⟨SEN_CFG.DEC_N, .img⟩, ⟨SEN_CFG.PROBE_EN, .img⟩, ⟨SEN_CFG.TT_COMP, .img⟩]⟩,
    ⟨0x50004, 0x40, 8, 0, 1, [⟨SEN_TIMING.SAMPLE_OFS, .img⟩]⟩,
    ⟨0x50008, 0x40, 8, 0, 1, [⟨SEN_ERR.ECODE, .ro⟩, ⟨SEN_ERR.RAW, .ro⟩, ⟨SEN_ERR.WSAT, .ro⟩]⟩,
    ⟨0x5000C, 0x40, 8, 0, 1, [⟨SEN_SPDAC.SP_CODE, .ro⟩, ⟨SEN_SPDAC.DITHER_S, .ro⟩, ⟨SEN_SPDAC.SP_CLAMP, .ro⟩]⟩,
    ⟨0x50010, 0x40, 8, 0, 1, [⟨SEN_PROBE.PROBE_STAT, .ro⟩, ⟨SEN_PROBE.PROBE_THR, .img⟩]⟩,
    ⟨0x50014, 0x40, 8, 0, 1, [⟨SEN_STAT.TT_P, .ro⟩, ⟨SEN_STAT.TT_N, .ro⟩, ⟨SEN_STAT.PROBE_VALID, .ro⟩, ⟨SEN_STAT.PROBE_ABSENT, .ro⟩, ⟨SEN_STAT.TT_EV, .w1c⟩, ⟨SEN_STAT.SATH_EV, .w1c⟩, ⟨SEN_STAT.SATL_EV, .w1c⟩, ⟨SEN_STAT.PROBE_EV, .w1c⟩]⟩,
    ⟨0x50018, 0x40, 8, 0, 1, [⟨SEN_ISUM.I_FAST, .ro⟩]⟩,
    ⟨0x5001C, 0x40, 8, 0, 1, [⟨SEN_CAL.GTRIM, .ro⟩, ⟨SEN_CAL.OFS, .ro⟩]⟩,
    ⟨0x50020, 0x40, 8, 0, 1, [⟨SEN_EVCNT.TT_CNT, .ro⟩, ⟨SEN_EVCNT.SATH_CNT, .ro⟩, ⟨SEN_EVCNT.SATL_CNT, .ro⟩, ⟨SEN_EVCNT.PROBE_CNT, .ro⟩]⟩,
    ⟨0x50400, 0x0, 1, 0, 1, [⟨SENSE_CALSTAT.EC_FAIL, .ro⟩, ⟨SENSE_CALSTAT.PCS_FAIL_CNT, .ro⟩, ⟨SENSE_CALSTAT.CAL_DONE, .ro⟩, ⟨SENSE_CALSTAT.CAL_BUSY, .ro⟩]⟩,
    ⟨0x51000, 0x10, 64, 0, 1, [⟨PCS_CFG.KA, .img⟩, ⟨PCS_CFG.OFS_MODE, .img⟩, ⟨PCS_CFG.OFS_IMG, .img⟩]⟩,
    ⟨0x51004, 0x10, 64, 0, 1, [⟨PCS_CAL.OFS, .ro⟩, ⟨PCS_CAL.GTRIM, .ro⟩, ⟨PCS_CAL.CAL_FAIL, .ro⟩]⟩,
    ⟨0x51008, 0x10, 64, 0, 1, [⟨PCS_AVG.MEAN, .ro⟩, ⟨PCS_AVG.RIPPLE, .ro⟩]⟩,
    ⟨0x5100C, 0x10, 64, 0, 1, [⟨PCS_STAT.SAT, .ro⟩, ⟨PCS_STAT.SAT_EV, .w1c⟩, ⟨PCS_STAT.SAT_CNT, .ro⟩]⟩ ]

end Sys2Proof.Machine.Reg
end

