-- ==== Sys2Proof/Machine/RegsSlice.lean ====
section
/-!
DEFINITION. The register fields of the SLICE block (slices and engine), and the rows of the register map that hold them.
A field is named REGISTER.FIELD as the field tables of spec/ name it; each register cites the rule that gives its table.
-/

namespace Sys2Proof.Machine.Reg

/-! SLICE_STATE at 0x20000 (R224). -/
def SLICE_STATE.STATE : Fld := ⟨4194304, 32768, 0, 3⟩
def SLICE_STATE.ASSIGNED : Fld := ⟨4194307, 32768, 0, 1⟩
def SLICE_STATE.RAIL : Fld := ⟨4194308, 32768, 0, 3⟩
def SLICE_STATE.TIMING : Fld := ⟨4194311, 32768, 0, 1⟩
def SLICE_STATE.RESERVED : Fld := ⟨4194312, 32768, 0, 1⟩
def SLICE_STATE.FAIL_CAUSE : Fld := ⟨4194316, 32768, 0, 4⟩
/-! SLICE_COEF at 0x20010 (R225). -/
def SLICE_COEF.COEF : Fld := ⟨4194816, 32768, 128, 24⟩
/-! SLICE_LS at 0x20034 (R226). -/
def SLICE_LS.LS_BAND : Fld := ⟨4195968, 32768, 0, 15⟩
def SLICE_LS.LS_EN : Fld := ⟨4195983, 32768, 0, 1⟩
/-! SLICE_LSGAIN at 0x20038 (R227). -/
def SLICE_LSGAIN.LS_GAIN : Fld := ⟨4196096, 32768, 0, 24⟩
/-! SLICE_YLIM at 0x2003C (R228). -/
def SLICE_YLIM.YLIM : Fld := ⟨4196224, 32768, 0, 16⟩
def SLICE_YLIM.AW_EN : Fld := ⟨4196240, 32768, 0, 1⟩
/-! SLICE_FF at 0x20040 (R229). -/
def SLICE_FF.FFD_EN : Fld := ⟨4196352, 32768, 0, 1⟩
def SLICE_FF.FFG_EN : Fld := ⟨4196353, 32768, 0, 1⟩
def SLICE_FF.VIN_FLOOR : Fld := ⟨4196360, 32768, 0, 8⟩
def SLICE_FF.VIN_NOM : Fld := ⟨4196368, 32768, 0, 16⟩
/-! SLICE_DCLAMP at 0x20044 (R230). -/
def SLICE_DCLAMP.DMIN : Fld := ⟨4196480, 32768, 0, 16⟩
def SLICE_DCLAMP.DMAX : Fld := ⟨4196496, 32768, 0, 16⟩
/-! SLICE_LOAD16 at 0x20048 (R231). -/
def SLICE_LOAD16.VALUE : Fld := ⟨4196608, 32768, 0, 16⟩
def SLICE_LOAD16.INDEX : Fld := ⟨4196624, 32768, 0, 4⟩
/-! SLICE_DUTY at 0x20050 (R232). -/
def SLICE_DUTY.DUTY : Fld := ⟨4196864, 32768, 0, 24⟩
def SLICE_DUTY.LS_ACT : Fld := ⟨4196888, 32768, 0, 1⟩
def SLICE_DUTY.CLAMPED : Fld := ⟨4196889, 32768, 0, 1⟩
/-! SLICE_Y at 0x20054 (R233). -/
def SLICE_Y.Y : Fld := ⟨4196992, 32768, 0, 32⟩
/-! SLICE_CHK at 0x20058 (R234). -/
def SLICE_CHK.ECC_CORR_CNT : Fld := ⟨4197120, 32768, 0, 8⟩
/-! ENG_XREQ at 0x22400 (R235). -/
def ENG_XREQ.KEY : Fld := ⟨4489216, 0, 0, 8⟩
def ENG_XREQ.OP : Fld := ⟨4489224, 0, 0, 3⟩
def ENG_XREQ.RAIL : Fld := ⟨4489228, 0, 0, 3⟩
def ENG_XREQ.SLICE : Fld := ⟨4489232, 0, 0, 4⟩
def ENG_XREQ.TMODE : Fld := ⟨4489236, 0, 0, 1⟩
/-! ENG_XSTAT at 0x22404 (R236). -/
def ENG_XSTAT.BUSY : Fld := ⟨4489344, 0, 0, 1⟩
def ENG_XSTAT.OP : Fld := ⟨4489345, 0, 0, 3⟩
def ENG_XSTAT.RAIL : Fld := ⟨4489348, 0, 0, 3⟩
def ENG_XSTAT.SLICE : Fld := ⟨4489352, 0, 0, 4⟩
def ENG_XSTAT.RESULT : Fld := ⟨4489356, 0, 0, 4⟩
def ENG_XSTAT.XDONE_EV : Fld := ⟨4489360, 0, 0, 1⟩
/-! ENG_SPARES at 0x22408 (R237). -/
def ENG_SPARES.SPARE : Fld := ⟨4489472, 0, 0, 9⟩
def ENG_SPARES.FAILED : Fld := ⟨4489488, 0, 0, 9⟩
def ENG_SPARES.SPARE_CNT : Fld := ⟨4489500, 0, 0, 4⟩
/-! ENG_ROT at 0x2240C (R238). -/
def ENG_ROT.ROT_INT : Fld := ⟨4489600, 0, 0, 7⟩
def ENG_ROT.OVERDUE : Fld := ⟨4489608, 0, 0, 1⟩
def ENG_ROT.OVERDUE_EV : Fld := ⟨4489609, 0, 0, 1⟩
def ENG_ROT.NEXT_SLICE : Fld := ⟨4489616, 0, 0, 4⟩
def ENG_ROT.OVERDUE_CNT : Fld := ⟨4489624, 0, 0, 8⟩
/-! ENG_EVENT at 0x22410 (R239). -/
def ENG_EVENT.LOCKSTEP_EV : Fld := ⟨4489728, 0, 0, 1⟩
def ENG_EVENT.NOSPARE_EV : Fld := ⟨4489729, 0, 0, 1⟩
def ENG_EVENT.HOABORT_EV : Fld := ⟨4489730, 0, 0, 1⟩
def ENG_EVENT.HOFORCE_EV : Fld := ⟨4489731, 0, 0, 1⟩
def ENG_EVENT.RES_LOST_EV : Fld := ⟨4489732, 0, 0, 1⟩
/-! ENG_EVCNT0 at 0x22414 (R240). -/
def ENG_EVCNT0.LOCKSTEP_CNT : Fld := ⟨4489856, 0, 0, 8⟩
def ENG_EVCNT0.NOSPARE_CNT : Fld := ⟨4489864, 0, 0, 8⟩
def ENG_EVCNT0.HOABORT_CNT : Fld := ⟨4489872, 0, 0, 8⟩
def ENG_EVCNT0.HOFORCE_CNT : Fld := ⟨4489880, 0, 0, 8⟩
/-! ENG_EVCNT1 at 0x22418 (R241). -/
def ENG_EVCNT1.RESLOST_CNT : Fld := ⟨4489984, 0, 0, 8⟩
def ENG_EVCNT1.XDONE_CNT : Fld := ⟨4489992, 0, 0, 8⟩

/-- Rows of the register map: the SLICE block (slices and engine). -/
def tableSlice : List RegDef :=
  [ ⟨0x20000, 0x400, 9, 0, 1, [⟨SLICE_STATE.STATE, .ro⟩, ⟨SLICE_STATE.ASSIGNED, .ro⟩, ⟨SLICE_STATE.RAIL, .ro⟩, ⟨SLICE_STATE.TIMING, .ro⟩, ⟨SLICE_STATE.RESERVED, .ro⟩, ⟨SLICE_STATE.FAIL_CAUSE, .ro⟩]⟩,
    ⟨0x20010, 0x400, 9, 4, 9, [⟨SLICE_COEF.COEF, .rwl⟩]⟩,
    ⟨0x20034, 0x400, 9, 0, 1, [⟨SLICE_LS.LS_BAND, .rwl⟩, ⟨SLICE_LS.LS_EN, .rwl⟩]⟩,
    ⟨0x20038, 0x400, 9, 0, 1, [⟨SLICE_LSGAIN.LS_GAIN, .rwl⟩]⟩,
    ⟨0x2003C, 0x400, 9, 0, 1, [⟨SLICE_YLIM.YLIM, .rwl⟩, ⟨SLICE_YLIM.AW_EN, .rwl⟩]⟩,
    ⟨0x20040, 0x400, 9, 0, 1, [⟨SLICE_FF.FFD_EN, .rwl⟩, ⟨SLICE_FF.FFG_EN, .rwl⟩, ⟨SLICE_FF.VIN_FLOOR, .rwl⟩, ⟨SLICE_FF.VIN_NOM, .rwl⟩]⟩,
    ⟨0x20044, 0x400, 9, 0, 1, [⟨SLICE_DCLAMP.DMIN, .rwl⟩, ⟨SLICE_DCLAMP.DMAX, .rwl⟩]⟩,
    ⟨0x20048, 0x400, 9, 0, 1, [⟨SLICE_LOAD16.VALUE, .wo⟩, ⟨SLICE_LOAD16.INDEX, .wo⟩]⟩,
    ⟨0x20050, 0x400, 9, 0, 1, [⟨SLICE_DUTY.DUTY, .ro⟩, ⟨SLICE_DUTY.LS_ACT, .ro⟩, ⟨SLICE_DUTY.CLAMPED, .ro⟩]⟩,
    ⟨0x20054, 0x400, 9, 0, 1, [⟨SLICE_Y.Y, .ro⟩]⟩,
    ⟨0x20058, 0x400, 9, 0, 1, [⟨SLICE_CHK.ECC_CORR_CNT, .ro⟩]⟩,
    ⟨0x22400, 0x0, 1, 0, 1, [⟨ENG_XREQ.KEY, .wo⟩, ⟨ENG_XREQ.OP, .wo⟩, ⟨ENG_XREQ.RAIL, .wo⟩, ⟨ENG_XREQ.SLICE, .wo⟩, ⟨ENG_XREQ.TMODE, .wo⟩]⟩,
    ⟨0x22404, 0x0, 1, 0, 1, [⟨ENG_XSTAT.BUSY, .ro⟩, ⟨ENG_XSTAT.OP, .ro⟩, ⟨ENG_XSTAT.RAIL, .ro⟩, ⟨ENG_XSTAT.SLICE, .ro⟩, ⟨ENG_XSTAT.RESULT, .ro⟩, ⟨ENG_XSTAT.XDONE_EV, .w1c⟩]⟩,
    ⟨0x22408, 0x0, 1, 0, 1, [⟨ENG_SPARES.SPARE, .ro⟩, ⟨ENG_SPARES.FAILED, .ro⟩, ⟨ENG_SPARES.SPARE_CNT, .ro⟩]⟩,
    ⟨0x2240C, 0x0, 1, 0, 1, [⟨ENG_ROT.ROT_INT, .img⟩, ⟨ENG_ROT.OVERDUE, .ro⟩, ⟨ENG_ROT.OVERDUE_EV, .w1c⟩, ⟨ENG_ROT.NEXT_SLICE, .ro⟩, ⟨ENG_ROT.OVERDUE_CNT, .ro⟩]⟩,
    ⟨0x22410, 0x0, 1, 0, 1, [⟨ENG_EVENT.LOCKSTEP_EV, .w1c⟩, ⟨ENG_EVENT.NOSPARE_EV, .w1c⟩, ⟨ENG_EVENT.HOABORT_EV, .w1c⟩, ⟨ENG_EVENT.HOFORCE_EV, .w1c⟩, ⟨ENG_EVENT.RES_LOST_EV, .w1c⟩]⟩,
    ⟨0x22414, 0x0, 1, 0, 1, [⟨ENG_EVCNT0.LOCKSTEP_CNT, .ro⟩, ⟨ENG_EVCNT0.NOSPARE_CNT, .ro⟩, ⟨ENG_EVCNT0.HOABORT_CNT, .ro⟩, ⟨ENG_EVCNT0.HOFORCE_CNT, .ro⟩]⟩,
    ⟨0x22418, 0x0, 1, 0, 1, [⟨ENG_EVCNT1.RESLOST_CNT, .ro⟩, ⟨ENG_EVCNT1.XDONE_CNT, .ro⟩]⟩ ]

end Sys2Proof.Machine.Reg
end

