-- ==== Sys2Proof/Machine/RegsSystem.lean ====
section
/-!
DEFINITION. The register fields of the SYS block, and the rows of the register map that hold them.
A field is named REGISTER.FIELD as the field tables of spec/ name it; each register cites the rule that gives its table.
-/

namespace Sys2Proof.Machine.Reg

/-! SYS_ID at 0x00000 (R114). -/
def SYS_ID.ID : Fld := ⟨0, 0, 0, 16⟩
def SYS_ID.REV : Fld := ⟨16, 0, 0, 4⟩
/-! SYS_STATE at 0x00004 (R115). -/
def SYS_STATE.STATE : Fld := ⟨128, 0, 0, 4⟩
def SYS_STATE.ROLE : Fld := ⟨132, 0, 0, 2⟩
def SYS_STATE.REF_SRC : Fld := ⟨134, 0, 0, 1⟩
def SYS_STATE.RESUMED : Fld := ⟨135, 0, 0, 1⟩
def SYS_STATE.ADDR_CODE : Fld := ⟨136, 0, 0, 4⟩
def SYS_STATE.ADDR_NONE : Fld := ⟨140, 0, 0, 1⟩
def SYS_STATE.SAFE_CAUSE : Fld := ⟨141, 0, 0, 3⟩
def SYS_STATE.RELOAD_BUSY : Fld := ⟨144, 0, 0, 1⟩
def SYS_STATE.RELOAD_FAIL : Fld := ⟨145, 0, 0, 1⟩
def SYS_STATE.PARK_ABORT_CNT : Fld := ⟨152, 0, 0, 8⟩
/-! SYS_RESET at 0x00008 (R116). -/
def SYS_RESET.LAST_RESET : Fld := ⟨256, 0, 0, 4⟩
def SYS_RESET.BIST_FAIL_CNT : Fld := ⟨260, 0, 0, 2⟩
def SYS_RESET.BIST_HOLD : Fld := ⟨262, 0, 0, 1⟩
def SYS_RESET.BIST_LOCK : Fld := ⟨263, 0, 0, 1⟩
def SYS_RESET.BIST_FAIL_PART : Fld := ⟨264, 0, 0, 3⟩
def SYS_RESET.REF_RETRY_CNT : Fld := ⟨272, 0, 0, 8⟩
/-! SYS_WAKE at 0x0000C (R117). -/
def SYS_WAKE.W_PMBUS : Fld := ⟨384, 0, 0, 1⟩
def SYS_WAKE.W_AVS : Fld := ⟨385, 0, 0, 1⟩
def SYS_WAKE.W_LIP : Fld := ⟨386, 0, 0, 1⟩
def SYS_WAKE.W_EN : Fld := ⟨387, 0, 0, 1⟩
def SYS_WAKE.W_CTRL : Fld := ⟨388, 0, 0, 1⟩
def SYS_WAKE.W_MON : Fld := ⟨389, 0, 0, 1⟩
def SYS_WAKE.W_DEMAND : Fld := ⟨390, 0, 0, 1⟩
def SYS_WAKE.W_TIMER : Fld := ⟨391, 0, 0, 1⟩
def SYS_WAKE.EN_WAKE : Fld := ⟨400, 0, 0, 1⟩
def SYS_WAKE.CTRL_WAKE : Fld := ⟨401, 0, 0, 1⟩
def SYS_WAKE.MON_WAKE : Fld := ⟨402, 0, 0, 1⟩
def SYS_WAKE.TIMER_WAKE : Fld := ⟨403, 0, 0, 1⟩
def SYS_WAKE.WAKE_TIMER : Fld := ⟨404, 0, 0, 12⟩
/-! SYS_CTRL at 0x00010 (R118). -/
def SYS_CTRL.KEY : Fld := ⟨512, 0, 0, 8⟩
def SYS_CTRL.PARK : Fld := ⟨520, 0, 0, 1⟩
def SYS_CTRL.SAFE : Fld := ⟨521, 0, 0, 1⟩
def SYS_CTRL.SWRESET : Fld := ⟨522, 0, 0, 1⟩
def SYS_CTRL.ROLLBACK_COMMIT : Fld := ⟨523, 0, 0, 1⟩
/-! SYS_IMAGE at 0x00014 (R119). -/
def SYS_IMAGE.SLOT : Fld := ⟨640, 0, 0, 1⟩
def SYS_IMAGE.QSPI_SINGLE : Fld := ⟨641, 0, 0, 1⟩
def SYS_IMAGE.QSPI_NO_SFDP : Fld := ⟨642, 0, 0, 1⟩
def SYS_IMAGE.ERR_A : Fld := ⟨644, 0, 0, 4⟩
def SYS_IMAGE.ERR_B : Fld := ⟨648, 0, 0, 4⟩
def SYS_IMAGE.ROLLBACK : Fld := ⟨652, 0, 0, 7⟩
def SYS_IMAGE.KEY_ID : Fld := ⟨659, 0, 0, 1⟩
/-! SYS_SEQ at 0x00018 (R120). -/
def SYS_SEQ.SEQ : Fld := ⟨768, 0, 0, 32⟩
/-! SYS_ROLLBACK at 0x0001C (R121). -/
def SYS_ROLLBACK.OTP_COUNT : Fld := ⟨896, 0, 0, 7⟩
def SYS_ROLLBACK.KEY0_REVOKED : Fld := ⟨904, 0, 0, 1⟩
def SYS_ROLLBACK.KEY1_REVOKED : Fld := ⟨905, 0, 0, 1⟩
def SYS_ROLLBACK.KEY0_REVOKE_REQ : Fld := ⟨912, 0, 0, 1⟩
def SYS_ROLLBACK.KEY1_REVOKE_REQ : Fld := ⟨913, 0, 0, 1⟩
def SYS_ROLLBACK.REVOKE_KEY : Fld := ⟨920, 0, 0, 8⟩
/-! SYS_WAKECNT at 0x00020 (R122). -/
def SYS_WAKECNT.CNT0 : Fld := ⟨1024, 0, 128, 8⟩
def SYS_WAKECNT.CNT1 : Fld := ⟨1032, 0, 128, 8⟩
def SYS_WAKECNT.CNT2 : Fld := ⟨1040, 0, 128, 8⟩
def SYS_WAKECNT.CNT3 : Fld := ⟨1048, 0, 128, 8⟩
/-- Indexed view: W_ flag i of SYS_WAKE (R117). -/
def SYS_WAKE.W : Fld := ⟨384, 1, 0, 1⟩
/-- Indexed view: wake count 4j+i (R122). -/
def SYS_WAKECNT.CNT : Fld := ⟨1024, 8, 128, 8⟩

/-- Rows of the register map: the SYS block. -/
def tableSystem : List RegDef :=
  [ ⟨0x00000, 0x0, 1, 0, 1, [⟨SYS_ID.ID, .ro⟩, ⟨SYS_ID.REV, .ro⟩]⟩,
    ⟨0x00004, 0x0, 1, 0, 1, [⟨SYS_STATE.STATE, .ro⟩, ⟨SYS_STATE.ROLE, .ro⟩, ⟨SYS_STATE.REF_SRC, .ro⟩, ⟨SYS_STATE.RESUMED, .ro⟩, ⟨SYS_STATE.ADDR_CODE, .ro⟩, ⟨SYS_STATE.ADDR_NONE, .ro⟩, ⟨SYS_STATE.SAFE_CAUSE, .ro⟩, ⟨SYS_STATE.RELOAD_BUSY, .ro⟩, ⟨SYS_STATE.RELOAD_FAIL, .ro⟩, ⟨SYS_STATE.PARK_ABORT_CNT, .ro⟩]⟩,
    ⟨0x00008, 0x0, 1, 0, 1, [⟨SYS_RESET.LAST_RESET, .ro⟩, ⟨SYS_RESET.BIST_FAIL_CNT, .ro⟩, ⟨SYS_RESET.BIST_HOLD, .ro⟩, ⟨SYS_RESET.BIST_LOCK, .ro⟩, ⟨SYS_RESET.BIST_FAIL_PART, .ro⟩, ⟨SYS_RESET.REF_RETRY_CNT, .ro⟩]⟩,
    ⟨0x0000C, 0x0, 1, 0, 1, [⟨SYS_WAKE.W_PMBUS, .w1c⟩, ⟨SYS_WAKE.W_AVS, .w1c⟩, ⟨SYS_WAKE.W_LIP, .w1c⟩, ⟨SYS_WAKE.W_EN, .w1c⟩, ⟨SYS_WAKE.W_CTRL, .w1c⟩, ⟨SYS_WAKE.W_MON, .w1c⟩, ⟨SYS_WAKE.W_DEMAND, .w1c⟩, ⟨SYS_WAKE.W_TIMER, .w1c⟩, ⟨SYS_WAKE.EN_WAKE, .img⟩, ⟨SYS_WAKE.CTRL_WAKE, .img⟩, ⟨SYS_WAKE.MON_WAKE, .img⟩, ⟨SYS_WAKE.TIMER_WAKE, .img⟩, ⟨SYS_WAKE.WAKE_TIMER, .rw⟩]⟩,
    ⟨0x00010, 0x0, 1, 0, 1, [⟨SYS_CTRL.KEY, .wo⟩, ⟨SYS_CTRL.PARK, .wo⟩, ⟨SYS_CTRL.SAFE, .wo⟩, ⟨SYS_CTRL.SWRESET, .wo⟩, ⟨SYS_CTRL.ROLLBACK_COMMIT, .wo⟩]⟩,
    ⟨0x00014, 0x0, 1, 0, 1, [⟨SYS_IMAGE.SLOT, .ro⟩, ⟨SYS_IMAGE.QSPI_SINGLE, .ro⟩, ⟨SYS_IMAGE.QSPI_NO_SFDP, .ro⟩, ⟨SYS_IMAGE.ERR_A, .ro⟩, ⟨SYS_IMAGE.ERR_B, .ro⟩, ⟨SYS_IMAGE.ROLLBACK, .ro⟩, ⟨SYS_IMAGE.KEY_ID, .ro⟩]⟩,
    ⟨0x00018, 0x0, 1, 0, 1, [⟨SYS_SEQ.SEQ, .ro⟩]⟩,
    ⟨0x0001C, 0x0, 1, 0, 1, [⟨SYS_ROLLBACK.OTP_COUNT, .ro⟩, ⟨SYS_ROLLBACK.KEY0_REVOKED, .ro⟩, ⟨SYS_ROLLBACK.KEY1_REVOKED, .ro⟩, ⟨SYS_ROLLBACK.KEY0_REVOKE_REQ, .wo⟩, ⟨SYS_ROLLBACK.KEY1_REVOKE_REQ, .wo⟩, ⟨SYS_ROLLBACK.REVOKE_KEY, .wo⟩]⟩,
    ⟨0x00020, 0x0, 1, 4, 2, [⟨SYS_WAKECNT.CNT0, .ro⟩, ⟨SYS_WAKECNT.CNT1, .ro⟩, ⟨SYS_WAKECNT.CNT2, .ro⟩, ⟨SYS_WAKECNT.CNT3, .ro⟩]⟩ ]

end Sys2Proof.Machine.Reg
end

