-- ==== Sys2Proof/Machine/RegsTherm.lean ====
section
/-!
DEFINITION. The register fields of the THERM block, and the rows of the register map that hold them.
A field is named REGISTER.FIELD as the field tables of spec/ name it; each register cites the rule that gives its table.
-/

namespace Sys2Proof.Machine.Reg

/-! TS_CFG at 0x90000 (R557). -/
def TS_CFG.MODE : Fld := ⟨18874368, 1024, 0, 2⟩
def TS_CFG.RAILS : Fld := ⟨18874376, 1024, 0, 8⟩
def TS_CFG.SHUT_EN : Fld := ⟨18874384, 1024, 0, 1⟩
/-! TS_DIODE at 0x90004 (R558). -/
def TS_DIODE.NF : Fld := ⟨18874496, 1024, 0, 16⟩
def TS_DIODE.RS_COMP : Fld := ⟨18874512, 1024, 0, 8⟩
/-! TS_NTC at 0x90008 (R559). -/
def TS_NTC.R0 : Fld := ⟨18874624, 1024, 0, 16⟩
def TS_NTC.BETA : Fld := ⟨18874640, 1024, 0, 16⟩
/-! TS_THR at 0x9000C (R560). -/
def TS_THR.WARN_T : Fld := ⟨18874752, 1024, 0, 8⟩
def TS_THR.THROT_T : Fld := ⟨18874760, 1024, 0, 8⟩
def TS_THR.SHUT_T : Fld := ⟨18874768, 1024, 0, 8⟩
def TS_THR.N_ENTER : Fld := ⟨18874776, 1024, 0, 4⟩
def TS_THR.N_EXIT : Fld := ⟨18874780, 1024, 0, 4⟩
/-! TS_HYS at 0x90010 (R561). -/
def TS_HYS.WARN_H : Fld := ⟨18874880, 1024, 0, 5⟩
def TS_HYS.THROT_H : Fld := ⟨18874888, 1024, 0, 5⟩
def TS_HYS.SHUT_H : Fld := ⟨18874896, 1024, 0, 5⟩
/-! TS_READ at 0x90014 (R562). -/
def TS_READ.TEMP : Fld := ⟨18875008, 1024, 0, 16⟩
def TS_READ.VALID : Fld := ⟨18875024, 1024, 0, 1⟩
def TS_READ.BROKEN : Fld := ⟨18875025, 1024, 0, 1⟩
def TS_READ.BRK_CAUSE : Fld := ⟨18875026, 1024, 0, 2⟩
/-! TS_STAT at 0x90018 (R563). -/
def TS_STAT.WARN_ACT : Fld := ⟨18875136, 1024, 0, 1⟩
def TS_STAT.THR_ACT : Fld := ⟨18875137, 1024, 0, 1⟩
def TS_STAT.SHUT_ACT : Fld := ⟨18875138, 1024, 0, 1⟩
def TS_STAT.WARN_EV : Fld := ⟨18875144, 1024, 0, 1⟩
def TS_STAT.THR_EV : Fld := ⟨18875145, 1024, 0, 1⟩
def TS_STAT.SHUT_EV : Fld := ⟨18875146, 1024, 0, 1⟩
def TS_STAT.BRK_EV : Fld := ⟨18875147, 1024, 0, 1⟩
/-! TS_EVCNT at 0x9001C (R564). -/
def TS_EVCNT.WARN_CNT : Fld := ⟨18875264, 1024, 0, 8⟩
def TS_EVCNT.THR_CNT : Fld := ⟨18875272, 1024, 0, 8⟩
def TS_EVCNT.SHUT_CNT : Fld := ⟨18875280, 1024, 0, 8⟩
def TS_EVCNT.BRK_CNT : Fld := ⟨18875288, 1024, 0, 8⟩
/-! TSD_CFG at 0x90200 (R557). -/
def TSD_CFG.MODE : Fld := ⟨18890752, 1024, 0, 2⟩
def TSD_CFG.RAILS : Fld := ⟨18890760, 1024, 0, 8⟩
def TSD_CFG.SHUT_EN : Fld := ⟨18890768, 1024, 0, 1⟩
/-! THERM_CFG at 0x90800 (R565). -/
def THERM_CFG.FE_SAFE : Fld := ⟨18939904, 0, 0, 1⟩
/-! THERM_STAT at 0x90804 (R566). -/
def THERM_STAT.BROKEN : Fld := ⟨18940032, 0, 0, 20⟩
def THERM_STAT.FE_FAIL : Fld := ⟨18940052, 0, 0, 1⟩
def THERM_STAT.NOSENS : Fld := ⟨18940056, 0, 0, 8⟩

/-- Rows of the register map: the THERM block. -/
def tableTherm : List RegDef :=
  [ ⟨0x90000, 0x20, 16, 0, 1, [⟨TS_CFG.MODE, .img⟩, ⟨TS_CFG.RAILS, .img⟩, ⟨TS_CFG.SHUT_EN, .img⟩]⟩,
    ⟨0x90004, 0x20, 16, 0, 1, [⟨TS_DIODE.NF, .img⟩, ⟨TS_DIODE.RS_COMP, .img⟩]⟩,
    ⟨0x90008, 0x20, 16, 0, 1, [⟨TS_NTC.R0, .img⟩, ⟨TS_NTC.BETA, .img⟩]⟩,
    ⟨0x9000C, 0x20, 20, 0, 1, [⟨TS_THR.WARN_T, .rw⟩, ⟨TS_THR.THROT_T, .rw⟩, ⟨TS_THR.SHUT_T, .img⟩, ⟨TS_THR.N_ENTER, .img⟩, ⟨TS_THR.N_EXIT, .img⟩]⟩,
    ⟨0x90010, 0x20, 20, 0, 1, [⟨TS_HYS.WARN_H, .img⟩, ⟨TS_HYS.THROT_H, .img⟩, ⟨TS_HYS.SHUT_H, .img⟩]⟩,
    ⟨0x90014, 0x20, 20, 0, 1, [⟨TS_READ.TEMP, .ro⟩, ⟨TS_READ.VALID, .ro⟩, ⟨TS_READ.BROKEN, .ro⟩, ⟨TS_READ.BRK_CAUSE, .ro⟩]⟩,
    ⟨0x90018, 0x20, 20, 0, 1, [⟨TS_STAT.WARN_ACT, .ro⟩, ⟨TS_STAT.THR_ACT, .ro⟩, ⟨TS_STAT.SHUT_ACT, .ro⟩, ⟨TS_STAT.WARN_EV, .w1c⟩, ⟨TS_STAT.THR_EV, .w1c⟩, ⟨TS_STAT.SHUT_EV, .w1c⟩, ⟨TS_STAT.BRK_EV, .w1c⟩]⟩,
    ⟨0x9001C, 0x20, 20, 0, 1, [⟨TS_EVCNT.WARN_CNT, .ro⟩, ⟨TS_EVCNT.THR_CNT, .ro⟩, ⟨TS_EVCNT.SHUT_CNT, .ro⟩, ⟨TS_EVCNT.BRK_CNT, .ro⟩]⟩,
    ⟨0x90200, 0x20, 4, 0, 1, [⟨TSD_CFG.MODE, .ro⟩, ⟨TSD_CFG.RAILS, .img⟩, ⟨TSD_CFG.SHUT_EN, .ro⟩]⟩,
    ⟨0x90204, 0x20, 4, 0, 1, []⟩,
    ⟨0x90208, 0x20, 4, 0, 1, []⟩,
    ⟨0x90800, 0x0, 1, 0, 1, [⟨THERM_CFG.FE_SAFE, .img⟩]⟩,
    ⟨0x90804, 0x0, 1, 0, 1, [⟨THERM_STAT.BROKEN, .ro⟩, ⟨THERM_STAT.FE_FAIL, .ro⟩, ⟨THERM_STAT.NOSENS, .ro⟩]⟩ ]

end Sys2Proof.Machine.Reg
end

