-- ==== Sys2Proof/Machine/RegMap.lean ====
section
/-!
DEFINITION. The register map (R761): every register the part has, with the search by address.
-/

namespace Sys2Proof.Machine

/-- Every register of the part, block by block (R761). -/
def registerMap : List RegDef :=
  Reg.tableSystem ++ Reg.tableRail ++ Reg.tableSlice ++ Reg.tableRunAhead ++ Reg.tablePhase ++ Reg.tableSense ++ Reg.tableProt ++ Reg.tableHkAdc ++ Reg.tableMon ++ Reg.tableTherm ++ Reg.tableSafety ++ Reg.tableHalyard ++ Reg.tableHostPorts ++ Reg.tableNvmPower
/-- The bits of a register word that no field of the register covers: its reserved bits (R7). -/
def RegDef.reservedOf (d : RegDef) (w : Nat) : Nat :=
  d.fields.foldl (fun acc f => acc - bitsOf w f.lsb f.fld.width * 2 ^ f.lsb) w

end Sys2Proof.Machine
end

