-- ==== Sys2Proof/Machine/Parts.lean ====
section
/-!
DEFINITION. The pieces of internal state that the chapters of the spec give the part beside its registers: state
machines, counts, histories, queues. A field that the register map shows is not repeated here: its home is the
register file. Instants are TB ticks unless the field's name ends in `St`, which marks 25 ps steps.
-/

namespace Sys2Proof.Machine

/-- The device states of R69; WAKE is split into its two paths. -/
inductive Dev where
  | off | parked | wakeCold | wakeResume | startbist | load | ready | run | safe | hotlatch | test
deriving DecidableEq, Repr, Inhabited

/-- The supply monitors of R54: true while the supply is above the threshold that counts for it. -/
structure Supplies where
  vaonPor : Bool := false
  vaonWarn : Bool := false
  vdd33 : Bool := false
  vdda18 : Bool := false
  vdd08 : Bool := false
deriving DecidableEq, Repr, Inhabited

/-- What the accepted image leaves beside the registers: its slot, SEQ, ROLLBACK, KEY_ID and CMAC tag (R95, R109). -/
structure ImageInfo where
  slot : Nat
  seq : Nat
  rollback : Nat
  keyId : Nat
  tag : List Nat
deriving DecidableEq, Repr, Inhabited

/-- The park context beside the retained registers (R109). -/
structure ParkCtx where
  role : Nat
  addrCode : Nat
  addrNone : Bool
  image : ImageInfo
deriving DecidableEq, Repr, Inhabited

/-- One run-ahead entry (R254) of a slot, which counts control samples from the rail's leaving OFF. -/
structure RaEntry where
  slot : Nat
  pred : Int
  dint : Int
  duty : Int
  plan : Nat
  tol : Nat
  valid : Bool
deriving DecidableEq, Repr, Inhabited

/-- A captured intent (R266): table values, capture instant, pre-boost at capture, and Î_o at the first sample after. -/
structure Intent where
  step : Int
  lead : Nat
  weight : Nat
  tc : Nat
  beta0 : Rat
  ioAtCapture : Option Rat
deriving DecidableEq, Repr, Inhabited

/-- The preparation of one phase (R275): samples taken, their sum of codes, and the finished offset. -/
structure Prep where
  phase : Nat
  count : Nat
  sum : Int
deriving DecidableEq, Repr, Inhabited

/-- The end state that a protection response names (R422). -/
inductive EndState where
  | hiccup | latched
deriving DecidableEq, Repr, Inhabited

/-- A soft stop of a rail, running or due: open-loop for the action SOFTSTOP (R419), closed-loop for class B; its end
state, whether it raised HIC_CNT, and the source, code and unit of the record of an end in LATCHED (R426). -/
structure SoftStop where
  openLoop : Bool
  ends : EndState
  counted : Bool
  src : Nat
  code : Nat
  unit : Option Nat
deriving DecidableEq, Repr, Inhabited

/-- Current-hold (R451, R452): its begin in 25 ps steps, the fault code that started it, the held current, d_ch in Q1.23, the
fault codes whose responses wait for its end. -/
structure CurrentHold where
  since : Nat
  code : Nat
  iHold : Int
  dCh : Rat
  pending : List Nat
deriving DecidableEq, Repr, Inhabited

/-- A rail's checkpoint (R204): x history, y history, hand-over residual. -/
structure Checkpoint where
  x : List Int := [0, 0, 0, 0]
  y : List Int := [0, 0, 0, 0]
  h : Int := 0
deriving DecidableEq, Repr, Inhabited

/-- What rail control, sensing, run-ahead, reefing and protection keep for one rail beside its registers. `dac` is the code
that the set-point DAC holds, dither included, `dacOfs` the distance in codes of the DAC from SP_k in the window that a sample
closes and `dacNext` in the next one. Instants: `entrySt` of the entry to the state, `pendSt` of OFF_PEND, `waitSt` from which
the HICCUP wait counts, `lowSt` of the start of LOW_THEN_TRISTATE, `clrSt` from which RETRY_CLR counts, `pgSt` since which the
power-good conditions hold. `dOpen` is d_open of the latest sample. `pbOwns` says that the parked-burst generator owns the
rail, `pbStage` counts the steps of its hand-over (R397): 1 from the trip, 2 from sample k_h. `vspWin` is V_SP of the window that is
open, `vspPrev` and `vspPrev2` of the two before it. `inHist` is the input history, newest first (R204): error code, load-line
term, V_SP. -/
structure RailCore where
  originSt : Nat := 0
  baseSt : Nat := 0
  kIdx : Nat := 0
  divM : Nat := 1
  lastSt : Nat := 0
  samples : Nat := 0
  windowN : Nat := 1
  lfsr : Nat := 1
  signNow : Int := 0
  prevSign : Int := 0
  prevQ : Option Int := none
  probeTerms : List Int := []
  vspAcc : Nat := 0
  vspPrev2 : Nat := 0
  vspPrev : Nat := 0
  vspWin : Nat := 0
  entrySt : Nat := 0
  pendSt : Nat := 0
  waitSt : Nat := 0
  lowSt : Nat := 0
  clrSt : Nat := 0
  dac : Nat := 0
  dOpen : Int := 0
  injSt : Option Nat := none
  dacOfs : Int := 0
  dacNext : Int := 0
  vCmdEntry : Nat := 0
  vsp0 : Nat := 0
  softStop : Option SoftStop := none
  pendSoft : Option SoftStop := none
  illf : Rat := 0
  iAvg : Rat := 0
  iReef : Option Rat := none
  ocArmed : Bool := true
  dutyShadow : Option Int := none
  dutyCom : Option Int := none
  dutyOld : Option Int := none
  comSt : Nat := 0
  pendM : Option (Nat × Nat) := none
  repeatLast : Bool := false
  checkpoint : Checkpoint := {}
  sinceCk : Nat := 0
  inHist : List (Int × Int × Nat) := []
  coefSet : List Nat := []
  ovRun : Nat := 0
  uvRun : Nat := 0
  trkSinceSt : Option Nat := none
  pgBad : Nat := 0
  sigPrev : Bool := false
  ePrev : Int := 0
  ePrev2 : Int := 0
  ifPrev : Int := 0
  ifPrev2 : Int := 0
  pgSt : Option Nat := none
  burstFirst : Bool := false
  frozenRun : Nat := 0
  frozenQ : Int := 0
  frozenDs : List Int := []
  curHold : Option CurrentHold := none
  safeAct : Option Bool := none
  waitClear : List Nat := []
  respAt : Option Nat := none
  respCounted : Bool := false
  enPin : Bool := false
  ctlPin : Bool := false
  prebiasJ : Nat := 0
  prebiasDone : Bool := false
  gap : Bool := false
  gapStart : Nat := 0
  shortGaps : Nat := 0
  burstDwellSt : Option Nat := none
  addRun : List Nat := []
  shedDwellSt : Option Nat := none
  pendBurst : Bool := false
  pbOwns : Bool := false
  pbBursting : Bool := false
  pbSeen : List Nat := []
  pbStartSt : Nat := 0
  pbTrunc : Option (Nat × Nat) := none
  pbFirst : Bool := false
  pbFails : Nat := 0
  pbStopped : Bool := false
  pbStage : Nat := 0
  noSpare : Bool := false
  reloadHeld : Bool := false
  truncSt : Option Nat := none
  vHist : List Rat := []
  iHist : List Int := []
  raIdle : Nat := 0
  entries : List RaEntry := []
  intent : Option Intent := none
  ioPrev : Rat := 0
  ioSlope : Rat := 0
  uPrev : Int := 0
  beta : Rat := 0
  hUsed : Int := 0
  prepLevel : Option Nat := none
  prep : List Prep := []
deriving DecidableEq, Repr, Inhabited

/-- One phase current sample: its instant in 25 ps steps, its current in Q8.8 A, whether it saturated, whether it was
held (R145). -/
structure PhSample where
  at_ : Nat
  cur : Int
  sat : Bool
  held : Bool
deriving DecidableEq, Repr, Inhabited

/-- The period mean and the ripple of a phase after a sample (R144): the instant in 25 ps steps, both in Q8.8 A. -/
structure PhAvg where
  at_ : Nat
  mean : Int
  ripple : Nat
deriving DecidableEq, Repr, Inhabited

/-- A switching period of a phase (R302 to R304, R323): its bounds in 25 ps steps, N_on,p, whether it has a pulse,
whether the pulse was truncated. -/
structure Period where
  start : Nat
  stop : Nat
  nOn : Nat
  pulse : Bool
  trunc : Bool
deriving DecidableEq, Repr, Inhabited

/-- What the fabric, sensing and protection keep for one phase beside its registers. `onSt` is the length of the pulse of
the period in progress, `zc` says that its off-time has gone to tri-state (R304), `due` is an ended period that waits for
its evaluation, `judged` says that the period in progress has been evaluated, `oorEnd` is the end of the last carrier
interval evaluated under R799. -/
structure PhaseCore where
  samples : List PhSample := []
  means : List PhAvg := []
  theta : Nat := 0
  startSt : Nat := 0
  next : Nat := 0
  late : Int := 0
  moving : Bool := false
  onSt : Nat := 0
  pulse : Bool := false
  offered : Bool := false
  truncNow : Bool := false
  zc : Bool := false
  nOn : Nat := 0
  due : Option Period := none
  judged : Bool := true
  oorEnd : Nat := 0
  openCnt : Nat := 0
  oorCnt : Nat := 0
  ripCnt : Nat := 0
  incCnt : Nat := 0
  actPeriods : Nat := 0
  scCnt : Nat := 0
  retirePend : Option Nat := none
  health : List (Option Rat) := [none, none, none, none]
  rcFilt : Option Rat := none
  beyond : List Nat := [0, 0, 0, 0]
  injCnt : List Nat := [0, 0]
  calMean : List Int := [0, 0]
deriving DecidableEq, Repr, Inhabited

/-- What one compensator slice keeps beside its registers (R179, H of R219, g and d_ff of R183 and R184). -/
structure SliceCore where
  x : List Int := [0, 0, 0, 0]
  y : List Int := [0, 0, 0, 0]
  h : Int := 0
  g : Int := 0x100000
  dff : Int := 0
  testedAt : Nat := 0
  reservedAt : Option Nat := none
deriving DecidableEq, Repr, Inhabited

/-- The kinds of exchange of R205. -/
inductive ExchKind where
  | replace | swap | timing | rotate
deriving DecidableEq, Repr, Inhabited

/-- An exchange, requested or granted: `inc` is the incoming slice, `outHealthy` says that the outgoing slice has not
failed, `kh` that sample k_h has reached the slices (step 3), `resid` that steps 4 to 6 have been computed at it, `dHold` the last
duty committed before the fault, `at_` the instant of the request in 25 ps steps. -/
structure Exch where
  kind : ExchKind
  rail : Nat
  inc : Nat
  fw : Bool
  timing : Nat
  outSlice : Nat
  outHealthy : Bool
  dHold : Int := 0
  at_ : Nat
  kh : Bool := false
  resid : Bool := false
deriving DecidableEq, Repr, Inhabited

/-- The exchange control and the rotation of R205 to R218; `rotNext` is the instant at which the next rotation step falls
due. -/
structure EngineCore where
  rotNext : Nat := 0
  cur : Option Exch := none
  waiting : List Exch := []
  rotDue : List Nat := []
  rotSlice : Option (Nat × Nat) := none
  rotLate : Bool := false
  testSeq : Nat := 0
deriving DecidableEq, Repr, Inhabited

/-- One work item of a housekeeping converter (R478). -/
inductive HkJob where
  | seq (s entry : Nat)
  | inj (slot : Nat)
  | readback
  | capture
deriving DecidableEq, Repr, Inhabited

/-- One injected request of the store (R487): code, converter, DAC, arrival number. -/
structure InjReq where
  ch : Nat
  conv : Nat
  dac : Nat
  order : Nat
deriving DecidableEq, Repr, Inhabited

/-- A threshold DAC readback in progress (R507): its DAC, when it fell due, its converter once begun, its sum, its
conversions. -/
structure Readback where
  dac : Nat
  due : Nat
  conv : Option Nat
  sum : Nat
  count : Nat
deriving DecidableEq, Repr, Inhabited

/-- A calibration command in service (R494 to R498): its set, whether it is a full capture, its REF_VAL, whether its
capture has begun, and the boundary at which an abort stops it (R512). -/
structure Capture where
  set : Nat
  full : Bool
  refVal : Nat
  running : Bool
  stopAt : Option Nat := none
deriving DecidableEq, Repr, Inhabited

/-- What one regular sequence keeps beside SEQs_STAT (R483 to R488); `timedAt` is the instant of a PWM-synchronous or
TB-scheduled trigger that waits for its start (R490). -/
structure SeqCore where
  timedAt : Option Nat := none
  lostNext : Bool := false
  runLost : Bool := false
  preempt : Bool := false
  stopAtBoundary : Bool := false
  tbArmed : Bool := false
  tbNext : Nat := 0
  pwmNext : Nat := 0
deriving DecidableEq, Repr, Inhabited

/-- The housekeeping block beside its registers; `rbAt` is the instant of the last readback slot (R507). -/
structure HkCore where
  jobA : Option HkJob := none
  jobB : Option HkJob := none
  beganA : Nat := 0
  beganB : Nat := 0
  store : List (Option InjReq) := [none, none, none, none]
  injOrder : Nat := 0
  queue : List Nat := []
  lost : Bool := false
  rb : Option Readback := none
  rbAt : Option Nat := none
  cal : Option Capture := none
  zeros : List (Option Nat) := List.replicate 16 none
  seqs : List SeqCore := List.replicate 8 {}
deriving DecidableEq, Repr, Inhabited

/-- Whether and how a window monitor runs (0 off, 1 continuous, 2 sampled), whether it has started (R501), the instant in
25 ps steps at which its grid of windows began, and the windows since then (R503). -/
structure MonCore where
  runs : Nat := 0
  started : Bool := false
  begSt : Nat := 0
  count : Nat := 0
deriving DecidableEq, Repr, Inhabited

/-- The counts of one thermal sensor (R541, R546), level by level: entry and exit counts, broken frames, pending cause; and
the instant of its last sample (R535). -/
structure ThermCore where
  enter : List Nat := [0, 0, 0]
  leave : List Nat := [0, 0, 0]
  brokenRun : Nat := 0
  cause : Nat := 0
  lastAt : Option Nat := none
deriving DecidableEq, Repr, Inhabited

/-- A captured BITTERN record (R741, R743): what the drop rule needs, and its bytes from offset 4 to 503. -/
structure RecCap where
  cls : Nat
  body : List Byte
deriving DecidableEq, Repr, Inhabited

/-- A queued service-log entry (R751): TB, cause, unit. -/
structure LogCap where
  tb : Nat
  cause : Nat
  unit : Nat
deriving DecidableEq, Repr, Inhabited

/-- What an NVM operation writes (R735). -/
inductive NvmUnit where
  | hot (r : RecCap)
  | record (r : RecCap)
  | log (l : LogCap)
  | counter (forBad : Bool)
deriving DecidableEq, Repr, Inhabited

/-- The NVM operation that runs: its unit, page, index of the unit in the page, whether the page is erased first, and the
bytes it writes. -/
structure NvmOp where
  unit : NvmUnit
  page : Nat
  index : Nat
  erase : Bool
  bytes : List Byte
deriving DecidableEq, Repr, Inhabited

/-- One line of the rate rule of R426: CODE, rail, UNIT, the instant of the last record, records suppressed since. -/
structure RateLine where
  code : Nat
  rail : Nat
  unit : Nat
  last : Nat
  supp : Nat
deriving DecidableEq, Repr, Inhabited

/-- The NVM block beside its registers and its array. -/
structure NvmCore where
  op : Option NvmOp := none
  hot : Option RecCap := none
  recs : List RecCap := []
  logs : List LogCap := []
  counters : List Bool := []
  bad : Nat := 0
  recSlot : Nat := 0
  logSeq : Nat := 0
  logUnit : Nat := 0
  ctrSeq : Nat := 0
  ctrUnit : Nat := 0
  rates : List RateLine := []
  logRates : List (Nat × Nat × Nat) := []
deriving DecidableEq, Repr, Inhabited

/-- A snapshot instruction (R640). -/
structure Snap where
  id : Nat
  ts : Nat
  scope : Nat
  group : Nat
deriving DecidableEq, Repr, Inhabited

/-- A collection that runs at its collector (R641). -/
structure Collect where
  id : Nat
  count : Nat
  got : Nat
  endAt : Nat
deriving DecidableEq, Repr, Inhabited

/-- What the part has sent on the ring: a frame out of a port, `bad` when it ended with EBAD (R624), or an HB set with its
data character (R650). -/
inductive Sent where
  | frame (port : HalPort) (f : Frame) (bad : Bool)
  | hb (port : HalPort) (char : Nat)
deriving DecidableEq, Repr

/-- The ring block beside its registers: `sent` since the last command of the ring, copies seen (SRC node, TYPE, ID,
instant), the instants of the last SYNC and DISCOVER sent and of the last delay exchange of each port, delay exchanges (their
start in 25 ps steps), ports out of service, the master's TB in 25 ps steps and when it was estimated, the steering in
ppm (R633), SYNC runs, barrier times, tokens held, snapshots, the OP of the operation that runs. -/
structure HalCore where
  steer : Int := 0
  sent : List Sent := []
  seen : List (Nat × Nat × Nat × Nat) := []
  syncAt : Option Nat := none
  discAt : Option Nat := none
  exchAt : List (Option Nat) := [none, none]
  delayAt : List (Option Nat) := [none, none]
  delayDone : List Bool := [false, false]
  out_ : List Bool := [false, false]
  lastSync : Option Nat := none
  masterTb : Int := 0
  masterAt : Nat := 0
  goodSyncs : Nat := 0
  badSyncs : Nat := 0
  intactSince : Option Nat := none
  discoverAt : Option Nat := none
  seenIntact : Bool := true
  nextId : Nat := 0
  relAt : List Nat := [0, 0, 0, 0]
  returns : List Nat := [0, 0, 0, 0]
  launchAt : List Nat := [0, 0, 0, 0]
  released : List (Nat × Nat) := []
  tokens : List (HalPort × Frame) := []
  snaps : List Snap := []
  latched : List Nat := []
  collect : Option Collect := none
  faultSent : List (Nat × Nat × Nat) := []
  runOp : Nat := 0
deriving DecidableEq, Repr, Inhabited

/-- The pair logic beside its registers: the heartbeat and the instant at which it was last due, the self-fault, the rails whose action waits for
a takeover (R656), the duty sums of the window in progress and of the one before it, the runs of R659. -/
structure PairCore where
  hbSeq : Nat := 0
  hbAt : Option Nat := none
  lastHb : Option Nat := none
  hbSince : Nat := 0
  partnerSelf : Bool := false
  armedSince : Option Nat := none
  unarmedSince : Option Nat := none
  selfFault : Bool := false
  selfFaultAt : Nat := 0
  waitRails : List Nat := []
  noTakeover : Bool := false
  window : Nat := 0
  dsum : List Int := List.replicate 8 0
  dcnt : List Nat := List.replicate 8 0
  dsumPrev : List Int := List.replicate 8 0
  dcntPrev : List Nat := List.replicate 8 0
  pairxSeen : Bool := true
  misRun : List Nat := List.replicate 8 0
  okRun : List Nat := List.replicate 8 0
deriving DecidableEq, Repr, Inhabited

/-- What a PMBus transaction answered: acknowledged or not, and the bytes read. -/
structure PmbReply where
  ack : Bool := true
  data : List Byte := []
deriving DecidableEq, Repr, Inhabited

/-- The PMBus port beside its registers: latched status bytes (R700), the alert, the selections of R705. -/
structure PmbCore where
  vout : List Nat := List.replicate 8 0
  iout : List Nat := List.replicate 8 0
  temp : List Nat := List.replicate 8 0
  mfr : List Nat := List.replicate 8 0
  input : Nat := 0
  cml : Nat := 0
  alertDone : Bool := false
  reply : PmbReply := {}
  bitSel : Nat := 0
  bitSlot : Option Nat := none
  chunk : Nat := 0
  slogSel : Nat := 0
  slogUnit : Option Nat := none
deriving DecidableEq, Repr, Inhabited

/-- One entry of an AVSBus hold store (R717): select, command type, data. -/
structure AvsHold where
  select : Nat
  type : Nat
  data : Nat
deriving DecidableEq, Repr, Inhabited

/-- The AVSBus ports beside their registers: hold stores, ports that wait for idle ones (R712), last responses. -/
structure AvsCore where
  holds : List (List AvsHold) := [[], []]
  waitIdle : List Bool := [false, false]
  reply : List (Option Nat) := [none, none]
deriving DecidableEq, Repr, Inhabited

/-- The self-test logic beside its registers: which partitions run (R568), when STARTBIST began, when the debug session
opened (R589). -/
structure TestCore where
  sessionAt : Nat := 0
  running : List Nat := []
  beganAt : Nat := 0
  partAt : List Nat := List.replicate 6 0
  cycleAt : List Nat := List.replicate 5 0
  jtagIr : Nat := 0xFF
  jtagData : Nat := 0
  ecInj : List (List Nat) := List.replicate 8 [0, 0]
  ecMean : List (List Int) := List.replicate 8 [0, 0]
  mbistDone : Nat := 0
  ecDone : List Nat := List.replicate 8 0
  phDone : List Nat := List.replicate 64 0
  halDone : Nat := 0
deriving DecidableEq, Repr, Inhabited

/-- A read that the part makes of the flash (R81 to R87): of data, with its command, address and address bytes, mode bits,
dummy clocks, the data lines and the length in bytes, or of a status register. Every read is clocked at 50 MHz. -/
inductive FlashRead where
  | data (cmd addr addrBytes modeBits dummy lines len : Nat)
  | status (reg : Nat)
deriving DecidableEq, Repr, Inhabited

/-- The image load (R96 to R98): slots judged so far, the accepted image; the reads that the last command made of the flash;
whether the scan of LOAD is done (R748) and whether the record of a supply loss is in the queue (R63). -/
structure LoadCore where
  reads : List FlashRead := []
  scanned : Bool := false
  lossOpen : Bool := false
  judgedA : Bool := false
  judgedB : Bool := false
  image : Option ImageInfo := none
  lossDue : Bool := false
  reload : Bool := false
deriving DecidableEq, Repr, Inhabited

/-- The OTP programming that runs (R101, R102). -/
structure OtpJob where
  target : Option Nat := none
  revoke0 : Bool := false
  revoke1 : Bool := false
deriving DecidableEq, Repr, Inhabited

/-- What a power cycle does not undo in OTP (R56, R100, R102). -/
structure Otp where
  count : Nat := 0
  revoked0 : Bool := false
  revoked1 : Bool := false
deriving DecidableEq, Repr, Inhabited

end Sys2Proof.Machine
end

