-- ==== Sys2Proof/Machine/State.lean ====
section
/-!
DEFINITION. The state of the part as plain data: the NVM array, the OTP state, everything else of the part, and the
queue of waiting commands. The register file holds every field that the register map shows.
-/

namespace Sys2Proof.Machine

/-- The part without its NVM array and its OTP array. `free` numbers the free values taken, `refusals` the refusals since
the last reset. `sub` counts the 25 ps steps of the instant now beyond TB (R10), `tbFrac` is the part of a TB tick, in millionths, that steering has gained (R633); `lossHold` says that a
supply loss holds the part in reset (R45, R60); `sclAt` is the AON period in which the hold of SCL began, `pmbNack` that the
transaction of a hold that ended at its limit is not acknowledged (R29); `parkAt` is the TB of the PARK command (R108);
`vinAt` and `healthAt` are the instants of the latest VINS code (R438) and health update (R331); `thermAt` is where the
frames of the thermal scan begin within a millisecond (R535);
`lipCap` is the latest capture on LIPB, its t_c and its code (R267); `thrMask` holds for each THR output the rails that requested it last, `thrHold` the end of its THR_HOLD (R380). -/
structure Part where
  regs : RegFile := []
  dev : Dev := .off
  supplies : Supplies := {}
  hotLatch : Bool := false
  pairHold : Bool := false
  lossHold : Bool := false
  tb : Nat := 0
  sub : Nat := 0
  tbFrac : Nat := 0
  aonCount : Nat := 0
  free : Nat := 0
  refusals : Nat := 0
  otpJob : OtpJob := {}
  load : LoadCore := {}
  parkReq : Bool := false
  parkAt : Nat := 0
  parkCtx : Option ParkCtx := none
  wakes : List WakeSource := []
  sclHold : Bool := false
  sclAt : Nat := 0
  pmbNack : Bool := false
  clocksStopped : Bool := false
  safeAt : Nat := 0
  vinAt : Option Nat := none
  healthAt : Option Nat := none
  thermAt : Option Nat := none
  vinCodes : List Int := []
  vinValues : List Nat := []
  lipLast : List (Option Nat) := [none, none]
  lipCap : Option (Nat × Nat) := none
  thrMask : List Nat := [0, 0, 0, 0]
  thrHold : List (Option Nat) := [none, none, none, none]
  feBad : List Nat := [0, 0]
  rails : List RailCore := List.replicate 8 {}
  phases : List PhaseCore := List.replicate 64 {}
  slices : List SliceCore := List.replicate 9 {}
  eng : EngineCore := {}
  hk : HkCore := {}
  mons : List MonCore := List.replicate 24 {}
  therm : List ThermCore := List.replicate 21 {}
  nvm : NvmCore := {}
  hal : HalCore := {}
  pair : PairCore := {}
  pmb : PmbCore := {}
  avs : AvsCore := {}
  test : TestCore := {}
deriving DecidableEq, Repr, Inhabited

/-- The state of the machine: the commands that wait, the 64 KB NVM array (R735), the OTP state, and the part. -/
structure State where
  pending : List Instr
  array : List Host.Cell
  otp : Otp
  part : Part
deriving DecidableEq, Repr

/-- The faults of the machine: none. The part is a block that answers every command, and no rule of the spec stops it;
the type has no constructor, so that no meaning can answer with a fault. -/
inductive Fault where
deriving DecidableEq, Repr

/-- The refusals of the machine. -/
inductive Refusal where
  /-- An arm whose command has no meaning yet: raised by exec's own arms alone. Safe: the run stops. -/
  | notModelled (mnemonic : String)
deriving DecidableEq, Repr

/-- The machine right after a power cycle (R56): OFF, supplies below their thresholds, every AON value cleared, the
NVM array erased, no rollback step taken and no key revoked (assumption log 7), the queue empty. -/
def State.reset : State := { pending := [], array := [], otp := {}, part := {} }

end Sys2Proof.Machine
end

