-- ==== Sys2Proof/Machine/Ops.lean ====
section
/-!
DEFINITION. The named operations over the part: register fields, flags with their event counters, refusals, the parts
of the internal state, free values, and the state machines that live in register fields.
-/

namespace Sys2Proof.Machine

open Reg

/-! Register fields. -/

/-- The value of a field instance. -/
def Part.get (p : Part) (f : Fld) (i : Nat := 0) (j : Nat := 0) : Nat := p.regs.read (f.at i j)

/-- The two's complement value of a field instance. -/
def Part.getS (p : Part) (f : Fld) (i : Nat := 0) (j : Nat := 0) : Int := toS f.width (p.get f i j)

/-- A one-bit field as a truth value. -/
def Part.flag (p : Part) (f : Fld) (i : Nat := 0) (j : Nat := 0) : Bool := p.get f i j == 1

/-- Set a field instance, keeping its width. -/
def Part.set (p : Part) (f : Fld) (v : Nat) (i : Nat := 0) (j : Nat := 0) : Part :=
  { p with regs := p.regs.write (f.at i j) (v % 2 ^ f.width) }

/-- Set a field instance to a two's complement value, wrapped to its width. -/
def Part.setS (p : Part) (f : Fld) (v : Int) (i : Nat := 0) (j : Nat := 0) : Part := p.set f (ofS f.width v) i j

/-- Set a field instance to a two's complement value, saturated to its width (R4). -/
def Part.setSat (p : Part) (f : Fld) (v : Int) (i : Nat := 0) (j : Nat := 0) : Part := p.setS f (satS f.width v) i j

/-- Set a one-bit field. -/
def Part.put (p : Part) (f : Fld) (b : Bool) (i : Nat := 0) (j : Nat := 0) : Part := p.set f (b2n b) i j

/-- Set bit `k` of a field of bits. -/
def Part.setBit (p : Part) (f : Fld) (k : Nat) (i : Nat := 0) : Part := p.set f (withBit (p.get f i) k) i

/-- Clear bit `k` of a field of bits. -/
def Part.clearBit (p : Part) (f : Fld) (k : Nat) (i : Nat := 0) : Part := p.set f (withoutBit (p.get f i) k) i

/-- Bit `k` of a field of bits. -/
def Part.bit (p : Part) (f : Fld) (k : Nat) (i : Nat := 0) : Bool := bitOf (p.get f i) k == 1

/-- Raise a count that saturates at the top of its field (R684). -/
def Part.bump (p : Part) (f : Fld) (i : Nat := 0) (j : Nat := 0) : Part :=
  p.set f (satInc (2 ^ f.width - 1) (p.get f i j)) i j

/-- Raise a count that wraps at the top of its field. -/
def Part.bumpWrap (p : Part) (f : Fld) (i : Nat := 0) (j : Nat := 0) : Part := p.set f (p.get f i j + 1) i j

/-- An event: its flag becomes 1 and its counter counts, whether or not the flag was 1 (R684). -/
def Part.event (p : Part) (ev cnt : Fld) (i : Nat := 0) : Part := (p.set ev 1 i).bump cnt i

/-- An instance of a field whose instances lie byte by byte over consecutive words. -/
def byteFld (f : Fld) (n : Nat) : Fld := { f with key := f.key + n % 4 * 8 + n / 4 * 128 }

/-! The parts of the internal state. -/

/-- The internal state of rail `n`. -/
def Part.rail (p : Part) (n : Nat) : RailCore := nth p.rails n {}
/-- Change the internal state of rail `n`. -/
def Part.modRail (p : Part) (n : Nat) (f : RailCore → RailCore) : Part := { p with rails := upd p.rails n f }
/-- The internal state of phase `n`. -/
def Part.ph (p : Part) (n : Nat) : PhaseCore := nth p.phases n {}
/-- Change the internal state of phase `n`. -/
def Part.modPh (p : Part) (n : Nat) (f : PhaseCore → PhaseCore) : Part := { p with phases := upd p.phases n f }
/-- The internal state of slice `n`. -/
def Part.slice (p : Part) (n : Nat) : SliceCore := nth p.slices n {}
/-- Change the internal state of slice `n`. -/
def Part.modSlice (p : Part) (n : Nat) (f : SliceCore → SliceCore) : Part := { p with slices := upd p.slices n f }
/-- Change the exchange control. -/
def Part.modEng (p : Part) (f : EngineCore → EngineCore) : Part := { p with eng := f p.eng }
/-- Change the housekeeping block. -/
def Part.modHk (p : Part) (f : HkCore → HkCore) : Part := { p with hk := f p.hk }
/-- The internal state of sequence `s`. -/
def Part.seqC (p : Part) (s : Nat) : SeqCore := nth p.hk.seqs s {}
/-- Change the internal state of sequence `s`. -/
def Part.modSeq (p : Part) (s : Nat) (f : SeqCore → SeqCore) : Part := p.modHk fun h => { h with seqs := upd h.seqs s f }
/-- Change the NVM block. -/
def Part.modNvm (p : Part) (f : NvmCore → NvmCore) : Part := { p with nvm := f p.nvm }
/-- Change the ring block. -/
def Part.modHal (p : Part) (f : HalCore → HalCore) : Part := { p with hal := f p.hal }
/-- Change the pair logic. -/
def Part.modPair (p : Part) (f : PairCore → PairCore) : Part := { p with pair := f p.pair }
/-- Change the PMBus port. -/
def Part.modPmb (p : Part) (f : PmbCore → PmbCore) : Part := { p with pmb := f p.pmb }
/-- Change the AVSBus ports. -/
def Part.modAvs (p : Part) (f : AvsCore → AvsCore) : Part := { p with avs := f p.avs }
/-- Change the self-test logic. -/
def Part.modTest (p : Part) (f : TestCore → TestCore) : Part := { p with test := f p.test }

/-- Repeat an operation over the numbers below `n`. -/
def Part.forN (p : Part) (n : Nat) (f : Nat → Part → Part) : Part := (List.range n).foldl (fun q i => f i q) p

/-- Repeat an operation over a list of numbers. -/
def Part.forL (p : Part) (l : List Nat) (f : Nat → Part → Part) : Part := l.foldl (fun q i => f i q) p

/-- Apply an operation when a condition holds. -/
def Part.when (p : Part) (b : Bool) (f : Part → Part) : Part := if b then f p else p

/-- Take the next free value (the counter of assumption log 1 moves on). -/
def Part.tick (p : Part) : Part := { p with free := p.free + 1 }

/-- A quotient that no rule states where its divisor is 0: the `i`-th free value of its command there (assumption log 6). -/
def Part.ratio (p : Part) (i : Nat) (a b : Rat) : Rat := if b = 0 then anyRat (Config.unstated (p.free + i)) else a / b

/-- The instant now in 25 ps steps. -/
def Part.nowSt (p : Part) : Nat := p.tb * 32 + p.sub

/-- Bring TB up to an instant in ticks; TB never steps back (R23). -/
def Part.advance (p : Part) (t : Nat) : Part := { p with tb := max p.tb t, sub := if p.tb < t then 0 else p.sub }

/-- Bring the present up to an instant in 25 ps steps (R10, R23). -/
def Part.advanceSt (p : Part) (t : Nat) : Part :=
  { p with tb := max p.tb (t / 32), sub := if p.nowSt < t then t % 32 else p.sub }

/-- The next instant at or after now of a grid of a period that begins with a first event: that one comes now. -/
def nextOn (last : Option Nat) (per now : Nat) : Nat :=
  match last with
  | none => now
  | some t => t + per * max 1 ((now - t + per - 1) / per)

/-- The instant now in 25 ps steps, in PARKED and WAKE by the count of AON periods, 312.5 ticks each (R24). -/
def Part.clockSt (p : Part) : Nat := p.nowSt + p.aonCount * 10000

/-- Bring the present up to an instant of `clockSt`: while the PWM clock stands, the first AON period at or after it. -/
def Part.advanceClock (p : Part) (t : Nat) : Part :=
  if p.dev = .parked ∨ p.dev = .wakeResume then { p with aonCount := max p.aonCount ((t - p.nowSt + 9999) / 10000) }
  else p.advanceSt t

/-! Device, role and owner. -/

/-- Roles of R77. -/
inductive Role where
  | solo | main | mizzen | reserved
deriving DecidableEq, Repr

/-- The role in SYS_STATE (R77, R115). -/
def Part.role (p : Part) : Role :=
  match p.get SYS_STATE.ROLE with
  | 0 => .solo
  | 1 => .main
  | 2 => .mizzen
  | _ => .reserved

/-- Whether the host ports are active (R74, R687, R711). -/
def Part.hostActive (p : Part) : Bool := p.dev == .ready || p.dev == .run || p.dev == .safe

/-- Whether the part answers its PMBus address (R42, R687). -/
def Part.pmbActive (p : Part) : Bool := p.hostActive && !p.flag SYS_STATE.ADDR_NONE

/-- A command that the host gives by a register write through PMBus (assumption log 14): without an address it cannot come
(R42). -/
def Part.byHost (p : Part) (f : Part → Part) : Part := if p.pmbActive then f p else p

/-- READY or RUN. -/
def Part.live (p : Part) : Bool := p.dev == .ready || p.dev == .run

/-- Whether the part owns the stages: a SOLO part always, a MAIN from leaving LOAD, a MIZZEN from its takeover. -/
def Part.owner (p : Part) : Bool :=
  match p.role with
  | .solo => true
  | _ => p.flag PAIR_STAT.OWNER

/-- A MIZZEN that is not the owner. -/
def Part.shadowing (p : Part) : Bool := p.role == .mizzen && !p.owner

/-- Whether the PWM clock runs (clock table of 01_architecture). -/
def Part.pwmRuns (p : Part) : Bool :=
  match p.dev with
  | .startbist | .load | .ready | .run | .safe => true
  | _ => false

/-! Rail states (R360, R412). -/

/-- The states of a rail. -/
inductive RailState where
  | off | delayOn | rampUp | regulate | burst | delayOff | rampDown | hiccup | latched
deriving DecidableEq, Repr

/-- The code of a rail state in RAILn_STATUS (R412). -/
def RailState.code : RailState → Nat
  | .off => 0 | .delayOn => 1 | .rampUp => 2 | .regulate => 3 | .burst => 4
  | .delayOff => 5 | .rampDown => 6 | .hiccup => 7 | .latched => 8

/-- The state of rail `n`. -/
def Part.rst (p : Part) (n : Nat) : RailState :=
  match p.get RAIL_STATUS.STATE n with
  | 0 => .off | 1 => .delayOn | 2 => .rampUp | 3 => .regulate | 4 => .burst
  | 5 => .delayOff | 6 => .rampDown | 7 => .hiccup | _ => .latched

/-- Whether rail `n` is enabled (R356). -/
def Part.railEn (p : Part) (n : Nat) : Bool := p.flag RAIL_CFG.RAIL_EN n

/-- The phases of rail `n` (R356). -/
def Part.range (p : Part) (n : Nat) : List Nat :=
  if p.railEn n then
    (List.range (p.get RAIL_CFG.PH_COUNT n)).map (p.get RAIL_CFG.PH_FIRST n + ·) |>.filter (· < 64)
  else []

/-- The rail that owns a phase, if any (R13, R14). -/
def Part.railOf (p : Part) (ph : Nat) : Option Nat := (List.range 8).find? fun n => (p.range n).contains ph

/-- A rail in a state in which its phases may switch (row 6 of R20). -/
def RailState.switching : RailState → Bool
  | .rampUp | .regulate | .burst | .rampDown => true
  | _ => false

/-- The states in which the probe runs (R131, R153). -/
def RailState.probing : RailState → Bool
  | .rampUp | .regulate | .rampDown => true
  | _ => false

/-! Phase states (R306, R352). -/

/-- The states of a phase. -/
inductive PhState where
  | unassigned | active | shed | retired
deriving DecidableEq, Repr

/-- The code of a phase state (R352). -/
def PhState.code : PhState → Nat
  | .unassigned => 0 | .active => 1 | .shed => 2 | .retired => 3

/-- The state of a phase. -/
def Part.pst (p : Part) (ph : Nat) : PhState :=
  match p.get PH_STAT.STATE ph with
  | 0 => .unassigned | 1 => .active | 2 => .shed | _ => .retired

/-- The non-retired phases of a rail, ascending (R308). -/
def Part.avail (p : Part) (n : Nat) : List Nat :=
  (p.range n).filter fun q => p.pst q == .active || p.pst q == .shed

/-- The ACTIVE phases of a rail, ascending. -/
def Part.active (p : Part) (n : Nat) : List Nat := (p.range n).filter fun q => p.pst q == .active

/-! Slice states (R194, R224). -/

/-- The states of a slice. -/
inductive SliceState where
  | open_ | track | drive | test | failed
deriving DecidableEq, Repr

/-- The code of a slice state (R224). -/
def SliceState.code : SliceState → Nat
  | .open_ => 0 | .track => 1 | .drive => 2 | .test => 3 | .failed => 4

/-- The state of a slice. -/
def Part.sst (p : Part) (s : Nat) : SliceState :=
  match p.get SLICE_STATE.STATE s with
  | 0 => .open_ | 1 => .track | 2 => .drive | 3 => .test | _ => .failed

/-- Put a slice into a state. -/
def Part.setSlice (p : Part) (s : Nat) (st : SliceState) : Part := p.set SLICE_STATE.STATE st.code s

/-- The slice that serves rail `n`, if any: the assigned slice of the rail (R16, R242). -/
def Part.servingOf (p : Part) (n : Nat) : Option Nat :=
  (List.range 9).find? fun s => p.flag SLICE_STATE.ASSIGNED s && p.get SLICE_STATE.RAIL s == n && p.sst s != .failed

/-- The rail that a slice serves, if any. -/
def Part.servedBy (p : Part) (s : Nat) : Option Nat :=
  if p.flag SLICE_STATE.ASSIGNED s then some (p.get SLICE_STATE.RAIL s) else none

/-- A spare: serves no rail and is not FAILED (R17). -/
def Part.spare (p : Part) (s : Nat) : Bool := !p.flag SLICE_STATE.ASSIGNED s && p.sst s != .failed

/-- The spares. -/
def Part.spares (p : Part) : List Nat := (List.range 9).filter p.spare

/-! Refusals (R686). -/

/-- The code of a source in HOST_REFUSED (R723). -/
def srcCode : HostSrc → Nat
  | .pmbus => 0
  | .jtag => 1

/-- Count one refusal and store its address (R686, R723, R724). -/
def Part.refuse (p : Part) (src : HostSrc) (addr : Nat) : Part :=
  { ((p.bump HOST_REFUSED.CNT).set HOST_REFUSED.SRC (srcCode src)).set HOST_REFADDR.ADDR addr with
    refusals := p.refusals + 1 }

/-- A wake source arrives before the park entry has ended: the entry is abandoned (R107). -/
def Part.abortPark (p : Part) : Part :=
  if p.parkReq && p.live then { p.bump SYS_STATE.PARK_ABORT_CNT with parkReq := false } else p

/-! Straps. -/

/-- The straps sensed in WAKE (R40 to R42, R77). No rule states ADDR_CODE with ADDR_NONE: a free value (assumption
log 6). -/
def Part.senseStraps (p : Part) (x : Straps) : Part :=
  let none_ := decide (640000 ≤ x.addrUv)
  let p := (p.set SYS_STATE.ROLE (2 * b2n x.role1 + b2n x.role0)).put SYS_STATE.REF_SRC (decide (x.xinUv < 200000))
  ((p.put SYS_STATE.ADDR_NONE none_).set SYS_STATE.ADDR_CODE (if none_ then Config.unstated p.free else x.addrUv / 40000)).when
    none_ Part.tick

/-! Latched status bits of PMBus and AVSBus (R700, R734). -/

/-- A latched bit is set from now on: SALERT_N may be asserted again (R702). -/
def PmbCore.latched (x : PmbCore) : PmbCore := { x with alertDone := false }

/-- Latch a bit of STATUS_VOUT of rail `n` (R700). -/
def Part.latchVout (p : Part) (n bit : Nat) : Part :=
  p.modPmb fun x => { x.latched with vout := upd x.vout n fun v => withBit v bit }
/-- Latch a bit of STATUS_IOUT of rail `n` (R700). -/
def Part.latchIout (p : Part) (n bit : Nat) : Part :=
  p.modPmb fun x => { x.latched with iout := upd x.iout n fun v => withBit v bit }
/-- Latch a bit of STATUS_TEMPERATURE of rail `n` (R700). -/
def Part.latchTemp (p : Part) (n bit : Nat) : Part :=
  p.modPmb fun x => { x.latched with temp := upd x.temp n fun v => withBit v bit }
/-- Latch a bit of STATUS_MFR_SPECIFIC of rail `n` (R700). -/
def Part.latchMfr (p : Part) (n bit : Nat) : Part :=
  p.modPmb fun x => { x.latched with mfr := upd x.mfr n fun v => withBit v bit }
/-- Latch a bit of STATUS_MFR_SPECIFIC on every page, for an event of the device (R700). -/
def Part.latchMfrAll (p : Part) (bit : Nat) : Part := p.forN 8 fun n q => q.latchMfr n bit
/-- Latch a bit of STATUS_INPUT (R700). -/
def Part.latchInput (p : Part) (bit : Nat) : Part := p.modPmb fun x => { x.latched with input := withBit x.input bit }
/-- Latch a bit of STATUS_CML (R700). -/
def Part.latchCml (p : Part) (bit : Nat) : Part := p.modPmb fun x => { x.latched with cml := withBit x.cml bit }
/-- Latch a bit of a rail in AVS_RSTAT (R734). -/
def Part.latchAvs (p : Part) (n bit : Nat) : Part := p.setBit AVS_RSTAT.R bit n

/-- The status bits of a fault code of rail `n` (R700, R734). -/
def Part.latchFault (p : Part) (n f : Nat) : Part :=
  match f with
  | 1 | 2 => (p.latchIout n 7).latchAvs n 3
  | 3 | 5 => (p.latchVout n 7).latchAvs n 1
  | 4 | 6 => (p.latchVout n 4).latchAvs n 0
  | 7 => p.latchVout n 0
  | 8 => p.latchMfr n 0
  | 9 => p.latchMfr n 1
  | 10 => p.latchMfr n 2
  | 11 => p.latchInput 7
  | 12 => p.latchInput 4
  | _ => p

/-- A fault code of rail `n` is raised: FLT_EV, its counter, LAST_FAULT, the status bits (R426, R700). -/
def Part.faultEvent (p : Part) (n f : Nat) : Part :=
  (((p.setBit PR_STAT.FLT_EV (f - 1) n).bump (byteFld PR_EVCNT.CODE1 (f - 1)) n).set PR_STAT.LAST_FAULT f n).latchFault n f

/-! Derived configuration values that several chapters use. -/

/-- The divider ratio K of a rail in UQ4.12, clamped to its range (R161). -/
def Part.divK (p : Part) (n : Nat) : Nat := clampN 0x1000 0x8000 (p.get SEN_CFG.DIV_K n)

/-- The period of a rail in 25 ps steps (R296). -/
def Part.per (p : Part) (n : Nat) : Nat := p.get FAB_CFG.PER n

/-- The control-period divisor M of a rail (R298) for a number of ACTIVE phases. -/
def Part.mOf (p : Part) (n nAct : Nat) : Nat :=
  match p.get FAB_CFG.MSEL n with
  | 0 => 1 | 1 => 2 | 2 => 4 | 3 => 8 | 4 => 16
  | _ => max 1 (min nAct 16)

/-- Whether the serving slice of a rail runs in native timing (R242). -/
def Part.native (p : Part) (n : Nat) : Bool := !p.flag RAIL_ENGINE.TIMING n

/-- A power request over all rails: any rail not in OFF. -/
def Part.anyRailOn (p : Part) : Bool := (List.range 8).any fun n => p.rst n != .off

/-- Whether the rail's converters run (R146). -/
def Part.convRun (p : Part) (n : Nat) : Bool :=
  p.rst n != .off && !(p.rst n == .burst && (p.rail n).gap) && !((p.rail n).pbOwns && (p.rail n).pbStage == 0)

/-- The DAC steps that BURST_HI adds during a burst (R384). -/
def Part.burstSteps (p : Part) (n : Nat) : Nat := (roundDiv (p.get RAIL_BURST.BURST_HI n * 16384) (5 * p.divK n)).toNat

/-- The sensed output of a rail in 2^-16 V, exact, for a set-point and an error code: V_SP + K e 6.25 µV (R376), with the
distance of the DAC from SP_k in the window that engine burst made, 125 µV a code (R384, R385; assumption log 20). -/
def Part.sensedOf (p : Part) (n : Nat) (vsp : Nat) (e : Int) : Rat :=
  (vsp : Rat) + (p.divK n : Rat) / 4096 * (((p.rail n).dacOfs * 500 + e * 25 : Int) : Rat) / 4 * 65536 / 1000000

/-- The latest sensed output of a rail in 2^-16 V. -/
def Part.sensed (p : Part) (n : Nat) : Rat := p.sensedOf n (p.rail n).vspPrev (p.getS SEN_ERR.ECODE n)

/-- I_LLF as delivered, limited to ±LL_IMAX, Q15.8 A (R369). -/
def Part.illfOut (p : Part) (n : Nat) : Int :=
  let lim : Int := p.get RAIL_LLIMAX.LL_IMAX n * 256
  clampI (-lim) lim (p.getS RAIL_ILLF.I_LLF n)

/-- The target of a rail in 2^-16 V for a set-point: V_SP less the load-line drop (R10, R370). -/
def Part.vTargetOf (p : Part) (n vsp : Nat) : Rat :=
  (vsp : Rat) - (p.get RAIL_LL.R_LL n : Rat) * (p.illfOut n : Rat) / 256 * 65536 / 1000000

/-- The target of a rail at its latest sample. -/
def Part.vTarget (p : Part) (n : Nat) : Rat := p.vTargetOf n (p.rail n).vspPrev

/-- TRUE when every unit of a queue of numbers is below a bound. -/
def allBelow (l : List Nat) (b : Nat) : Bool := l.all (· < b)

end Sys2Proof.Machine
end

