-- ==== Sys2Proof/Machine/Flags.lean ====
section
/-!
DEFINITION. The flags and values that the spec computes from registers and state: the on request, the commanded
voltage, the throttle request, capacity, reef thresholds, thermal levels, eligibility, wear.
-/

namespace Sys2Proof.Machine

open Reg

/-! Thermal sensors (R534, R545, R557). -/

/-- Whether the thermal front end scans the remote sensors and applies the image values (R539): from leaving LOAD, and in
a resume from the acceptance of the background reload. -/
def Part.thermImage (p : Part) : Bool :=
  p.hostActive && !p.flag SYS_STATE.RELOAD_BUSY

/-- MODE of a sensor; the die sensors read 1 (R557). -/
def Part.tsMode (p : Part) (s : Nat) : Nat := if s < 16 then p.get TS_CFG.MODE s else p.get TSD_CFG.MODE (s - 16)
/-- RAILS of a sensor (R557); the image's value acts from leaving LOAD on (R97, R539). -/
def Part.tsRails (p : Part) (s : Nat) : Nat :=
  if !p.thermImage then 0 else if s < 16 then p.get TS_CFG.RAILS s else p.get TSD_CFG.RAILS (s - 16)
/-- SHUT_EN of a sensor (R557); the image's value acts from leaving LOAD on (R97, R539). -/
def Part.tsShutEn (p : Part) (s : Nat) : Bool :=
  p.thermImage && if s < 16 then p.flag TS_CFG.SHUT_EN s else p.flag TSD_CFG.SHUT_EN (s - 16)
/-- A value with a default for 0. -/
def orDefault (v d : Nat) : Nat := if v = 0 then d else v
/-- A threshold, hysteresis or count field with its default, taken before the image values apply too (R539, R545). -/
def Part.tsField (p : Part) (f : Fld) (s d : Nat) : Nat := if p.thermImage then orDefault (p.get f s) d else d
/-- Threshold of a level after defaults, °C (R545). -/
def Part.tsThr (p : Part) (s : Nat) : ThermLevel → Nat
  | .warn => p.tsField TS_THR.WARN_T s 115
  | .throttle => p.tsField TS_THR.THROT_T s 125
  | .shutdown => p.tsField TS_THR.SHUT_T s 140
/-- Hysteresis of a level after defaults, °C (R545). -/
def Part.tsHys (p : Part) (s : Nat) : ThermLevel → Nat
  | .warn => p.tsField TS_HYS.WARN_H s 3
  | .throttle => p.tsField TS_HYS.THROT_H s 3
  | .shutdown => p.tsField TS_HYS.SHUT_H s 5
/-- N_ENTER of a level (R545, R547). -/
def Part.tsEnter (p : Part) (s : Nat) : ThermLevel → Nat
  | .shutdown => max 2 (p.tsField TS_THR.N_ENTER s 4)
  | _ => p.tsField TS_THR.N_ENTER s 4
/-- N_EXIT (R545). -/
def Part.tsExit (p : Part) (s : Nat) : Nat := p.tsField TS_THR.N_EXIT s 4
/-- Whether a sensor is broken (R541, R562). -/
def Part.tsBroken (p : Part) (s : Nat) : Bool := p.flag TS_READ.BROKEN s
/-- The sensors assigned to a rail with MODE not 0. -/
def Part.sensorsOf (p : Part) (n : Nat) : List Nat :=
  (List.range 20).filter fun s => p.tsMode s != 0 && bitOf (p.tsRails s) n == 1
/-- NOSENS of a rail (R543). -/
def Part.nosens (p : Part) (n : Nat) : Bool :=
  let l := (List.range 16).filter fun s => p.tsMode s != 0 && bitOf (p.tsRails s) n == 1
  !l.isEmpty && l.all p.tsBroken
/-- The temperature of a rail in 0.125 °C: the highest valid reading of its sensors, else of the die sensors (R693). -/
def Part.railTemp (p : Part) (n : Nat) : Int :=
  let ok := fun s => p.flag TS_READ.VALID s && !p.tsBroken s
  let own := (p.sensorsOf n).filter ok
  let use := if own.isEmpty then [16, 17, 18, 19] else own
  match use.map fun s => p.getS TS_READ.TEMP s with
  | [] => 0
  | a :: l => l.foldl max a

/-- The sensor of a phase, none where TSENS names none or the sensor is broken (R332, R350). -/
def Part.phaseSensor (p : Part) (q : Nat) : Option Nat :=
  let s := p.get PH_CFG.TSENS q
  if s < 20 && !p.tsBroken s then some s else none

/-- The status bits of a thermal event of a sensor, on the rails that it names (R700, R734): OT_FAULT for SHUT_EV,
OT_WARNING for WARN_EV and THR_EV, OT of AVS_RSTAT for THR_EV and SHUT_EV. -/
def Part.latchTherm (p : Part) (s : Nat) (l : ThermLevel) : Part :=
  p.forL (maskList 8 (p.tsRails s)) fun n q =>
    match l with
    | .warn => q.latchTemp n 6
    | .throttle => (q.latchTemp n 6).latchAvs n 2
    | .shutdown => (q.latchTemp n 7).latchAvs n 2

/-! Rail control. -/

/-- EN_OK and PMB_OK of the on request (R357). -/
def Part.onReq (p : Part) (n : Nat) : Bool :=
  let cfg := p.get RAIL_ONOFF.ON_OFF_CONFIG n
  let enOk := !p.flag RAIL_CFG.EN_USE n || ((p.rail n).enPin == p.flag RAIL_CFG.EN_POL n)
  let op := p.flag RAIL_ONOFF.OP_ON n || bitOf cfg 3 == 0
  let ctl := bitOf cfg 2 == 0 || (b2n (p.rail n).ctlPin == bitOf cfg 1)
  let pmbOk := bitOf cfg 4 == 0 || (op && ctl)
  enOk && pmbOk

/-- The source of the commanded voltage before the limit, UQ8.16 V (R362, R363, R716). -/
def Part.vSource (p : Part) (n : Nat) : Nat :=
  match p.get RAIL_ONOFF.MARGIN n with
  | 2 => p.get RAIL_MARGIN.VOUT_MARGIN_HIGH n * 8
  | 1 => p.get RAIL_MARGIN.VOUT_MARGIN_LOW n * 8
  | _ =>
    if p.flag RAIL_CFG.SP_SRC n && p.flag RAIL_AVS.AVS_VALID n then
      (roundDiv ((p.get RAIL_AVS.AVS_V n : Int) * 65536) 1000).toNat
    else p.get RAIL_VOUT.VOUT_COMMAND n * 8

/-- The limit VOUT_MAX in UQ8.16 V. -/
def Part.vMax (p : Part) (n : Nat) : Nat := p.get RAIL_VOUT.VOUT_MAX n * 8

/-- V_cmd (R362, R365). -/
def Part.vCmd (p : Part) (n : Nat) : Nat := min (p.vSource n) (p.vMax n)

/-- MIN_AVAIL (R342). -/
def Part.minAvail (p : Part) (n : Nat) : Nat := orDefault (p.get FAB_RATE.MIN_AVAIL n) 1

/-- Whether a rail is eligible (R359). -/
def Part.eligible (p : Part) (n : Nat) : Bool :=
  p.live && p.railEn n && !(p.rail n).reloadHeld && !p.bit SENSE_CALSTAT.EC_FAIL n &&
    !(p.rail n).noSpare && (p.servingOf n).isSome && decide (p.minAvail n ≤ (p.avail n).length)

/-- Rail capacity CAP in 0.25 A units (R329). -/
def Part.cap (p : Part) (n : Nat) : Nat := (p.avail n).length * p.get FAB_RATE.IPH_RATE n

/-- Retired phases of a rail (R433). -/
def Part.retiredOf (p : Part) (n : Nat) : Nat := ((p.range n).filter fun q => p.pst q == .retired).length

/-- OC_FAULT_EFF in 0.25 A units, floored at 0 (R433). -/
def Part.ocFaultEff (p : Part) (n : Nat) : Nat :=
  2 * p.get PR_OCLIM.OC_FAULT n - p.retiredOf n * p.get FAB_RATE.IPH_RATE n

/-- The throttle request of a rail (R379). -/
def Part.thrReq (p : Part) (n : Nat) : Bool :=
  p.flag RAIL_THR.THR_FORCE n || p.flag FAB_STAT.THR_CAP n || p.flag PR_STAT.OC_THR_ACT n ||
    (p.sensorsOf n).any fun s => p.flag TS_STAT.THR_ACT s

/-- The rails that request throttle output `k` (R380); no configuration acts on a ball before LOAD is left (R97). -/
def Part.thrAsking (p : Part) (k : Nat) : List Nat :=
  (List.range 8).filter fun n =>
    p.hostActive && p.flag RAIL_THR.THR_EN n && p.get RAIL_THR.THR_SEL n == k && p.thrReq n

/-- The end of THR_HOLD after the last requests of an output, those of a mask of rails, in 25 ps steps (R380, R410). -/
def Part.thrEnd (p : Part) (mask : Nat) : Nat :=
  p.nowSt + 40000 * maxN ((maskList 8 mask).map fun n => p.get RAIL_THR.THR_HOLD n)

/-- Bring THR0_N to THR3_N after the requests: asserted at once, released only at the end of THR_HOLD (R380). -/
def Part.thrUpdate (p : Part) : Part :=
  p.forN 4 fun k q =>
    let l := q.thrAsking k
    if !l.isEmpty then
      { (q.setBit THR_STAT.THR k) with
        thrMask := upd q.thrMask k fun _ => sumN (l.map fun n => 2 ^ n), thrHold := upd q.thrHold k fun _ => none }
    else if q.bit THR_STAT.THR k && (nth q.thrHold k none).isNone then
      { q with thrHold := upd q.thrHold k fun _ => some (q.thrEnd (nth q.thrMask k 0)) }
    else q

/-! Reef levels (R316, R318). -/

/-- SHED of level `c`; 0 at level 0. -/
def Part.shedOf (p : Part) (n c : Nat) : Nat := if c = 0 then 0 else p.get FAB_LVL.SHED n (c - 1)
/-- I_ADD of level `c`, 2 A units. -/
def Part.iAdd (p : Part) (n c : Nat) : Nat := p.get FAB_LVL.I_ADD n (c - 1)
/-- I_SHED of level `c`, 2 A units. -/
def Part.iShed (p : Part) (n c : Nat) : Nat := p.get FAB_LVL.I_SHED n (c - 1)

/-- REEF_BAD: the reef set is inconsistent (R316). -/
def Part.reefBad (p : Part) (n : Nat) : Bool :=
  !((List.range (p.get FAB_REEF.LMAX n)).all fun i =>
    let c := i + 1
    decide (p.shedOf n (c - 1) < p.shedOf n c) && decide (p.iShed n c < p.iAdd n c) &&
      (c == 1 || (decide (p.iAdd n c < p.iAdd n (c - 1)) && decide (p.iShed n c < p.iShed n (c - 1)))))

/-- The add level A(I) for a current in Q15.8 A and a committed level (R318); 0 while REEF_BAD (R316). -/
def Part.addLevel (p : Part) (n : Nat) (cur : Rat) (lc : Nat) : Nat :=
  if p.reefBad n then 0
  else maxN ((List.range (lc + 1)).filter fun l => l == 0 || decide (cur < (512 * p.iAdd n l : Nat)))

/-- The phases of a rail that are ACTIVE at reef level `c`: all non-retired ones less the SHED_c highest, never fewer
than one (R308). -/
def Part.activeAt (p : Part) (n c : Nat) : List Nat :=
  (p.avail n).take (max 1 ((p.avail n).length - p.shedOf n c))

/-- T_ctl of a rail in µs (R10, R296, R298). -/
def Part.tctlUs (p : Part) (n : Nat) : Rat := (p.per n : Rat) / ((40000 * (p.rail n).divM : Nat) : Rat)

/-- T_ctl of a rail in 25 ps steps. -/
def Part.tctlSt (p : Part) (n : Nat) : Rat := (p.per n : Rat) / ((p.rail n).divM : Rat)

/-! Pre-boost (R266, R272). -/

/-- t_x of an intent in 25 ps steps (R266). -/
def Intent.tx (t : Intent) : Nat := (t.tc + t.lead * 125) * 32

/-- β of a rail at an instant in 25 ps steps (R272). -/
def Part.betaAt (p : Part) (n : Nat) (t : Rat) : Rat :=
  let r := p.rail n
  let b := (p.getS RA_BETA.B_TARGET n : Rat)
  match p.get RA_STAT.INTENT n, r.intent with
  | 1, some i =>
    let run := (t - ((i.tc * 32 : Nat) : Rat)) / ((i.lead * 4000 : Nat) : Rat)
    i.beta0 + (b - i.beta0) * (if run < 0 then 0 else if 1 < run then 1 else run)
  | 2, _ =>
    let k := (t - (r.lastSt : Rat)) / p.tctlSt n
    let fall := k * (if b < 0 then -b else b) / 16
    if r.beta < 0 then (if 0 < r.beta + fall then 0 else r.beta + fall)
    else if r.beta - fall < 0 then 0 else r.beta - fall
  | _, _ => 0

/-- The present β of a rail at an instant (R272): it moves on with the instant while the intent is PENDING, and by a step a
period after ARRIVED. -/
def Part.betaNow (p : Part) (n : Nat) (t : Rat) : Rat := if p.get RA_STAT.INTENT n = 1 then p.betaAt n t else (p.rail n).beta

/-- BETA of a rail now (R288). -/
def Part.betaShown (p : Part) (n : Nat) : Int := satS 16 (roundQ (p.betaNow n p.nowSt))

/-! NVM wear (R739). -/

/-- Good pages of a region. -/
def goodPages (bad first count : Nat) : Nat :=
  ((List.range count).filter fun i => bitOf bad (first + i) == 0).length

/-- Ceiling of a quotient, 0 over 0. -/
def ceilDiv (a b : Nat) : Nat := if b = 0 then 0 else (a + b - 1) / b

/-- MAX_ERASE (R739). -/
def Part.maxErase (p : Part) : Nat :=
  max (ceilDiv (p.get NVM_RECSEQ.RECSEQ) (goodPages p.nvm.bad 0 96))
    (max (ceilDiv p.nvm.ctrSeq (16 * goodPages p.nvm.bad 96 8)) (ceilDiv p.nvm.logSeq (32 * goodPages p.nvm.bad 104 16)))

/-- WEAR_PCT (R739). -/
def Part.wearPct (p : Part) : Nat := min 127 (p.maxErase * 100 / 100000)

end Sys2Proof.Machine
end

