-- ==== Sys2Proof/Machine/Records.lean ====
section
/-!
DEFINITION. Capture of BITTERN records with the rate rule (R426, R741 to R745), service causes and the service log
(R600, R601, R751), and the start of NVM operations by priority (R737).
-/

namespace Sys2Proof.Machine

open Reg

/-- The little-endian bytes of a signed value of `n` bytes, saturated. -/
def leBytesS (n : Nat) (v : Int) : List Byte := leBytes n (ofS (8 * n) (satS (8 * n) v))

/-- The sensed output of a rail in 2^-13 V, 0 while its converters do not run (R745). -/
def Part.sensed13 (p : Part) (n : Nat) : Nat := if p.convRun n then satU 16 (roundQ (p.sensed n / 8)) else 0

/-- The 12-byte rail entry (R745). -/
def Part.recRail (p : Part) (n : Nat) : List Byte :=
  leBytes 1 (p.get RAIL_STATUS.STATE n + 16 * p.get FAB_STAT.LEVEL n + 128 * p.get PR_STAT.CH_ACT n) ++
  leBytes 1 (p.get RAIL_ENGINE.SLICE n + 16 * p.get RAIL_ENGINE.TIMING n + 32 * p.get PR_STAT.HIC_CNT n) ++
  leBytes 1 (p.get RAIL_STATUS.PG n + 2 * p.get RAIL_STATUS.OFF_PEND n + 4 * p.get RA_STAT.ARMED n +
    8 * b2n (p.thrReq n) + 16 * p.get PR_STAT.LAST_FAULT n) ++
  leBytes 1 (p.active n).length ++ leBytes 2 (p.sensed13 n) ++
  leBytes 2 (satU 16 (roundDiv (p.get RAIL_VCMD.VALUE n) 8)) ++ leBytes 2 (p.get PR_IAVG.I_AVG n) ++
  leBytes 2 (p.get PR_STAT.FLT_EV n)

/-- One byte of the phase map (R743). -/
def Part.recPhase (p : Part) (q : Nat) : Byte :=
  let hf := p.flag PH_STAT.HF_SHARE q || p.flag PH_STAT.HF_RES q || p.flag PH_STAT.HF_RIPPLE q || p.flag PH_STAT.HF_TEMP q
  BitVec.ofNat 8 (p.pst q |>.code |> (· + 4 * p.get PH_STAT.RET_CAUSE q + 64 * b2n hf + 128 * p.get PSC.TRUNC q))

/-- One byte of the slice map (R743). -/
def Part.recSlice (p : Part) (s : Nat) : Byte :=
  BitVec.ofNat 8 (p.get SLICE_STATE.STATE s + 8 * p.get SLICE_STATE.FAIL_CAUSE s + 128 * p.get SLICE_STATE.ASSIGNED s)

/-- The temperature bytes of a sensor (R743). -/
def Part.recTemp (p : Part) (s : Nat) : List Byte :=
  leBytes 2 (if p.tsMode s = 0 || p.tsBroken s then 0x8000 else p.get TS_READ.TEMP s)

/-- The code of a device state in a record (R743). -/
def devCode : Dev → Nat
  | .off => 0 | .parked => 1 | .wakeCold => 2 | .wakeResume => 2 | .startbist => 3 | .load => 4
  | .ready => 5 | .run => 6 | .safe => 7 | .hotlatch => 8 | .test => 9

/-- One 8-byte run-ahead entry (R743). -/
def recEntry (now : Nat) (e : RaEntry) : List Byte :=
  leBytes 1 (e.slot - now) ++ leBytes 1 (b2n e.valid) ++ leBytesS 2 e.pred ++ leBytes 2 e.tol ++ leBytes 1 e.plan ++ leBytes 1 0

/-- The run-ahead and history bytes 256 to 447 of a record for a history rail (R743). -/
def Part.recHist (p : Part) : Option Nat → List Byte
  | none => List.replicate 192 0
  | some n =>
    let r := p.rail n
    let st := p.get RA_STAT.ARMED n + 2 * r.entries.length + 16 * p.get RA_STAT.INTENT n + 64 * p.get RA_STAT.ICODE n +
      1024 * p.get RA_STAT.PREP n + 2048 * p.get RA_STAT.PREP_DONE n
    let ents := ((r.entries.take 5).map (recEntry r.samples)).flatten
    let pad := fun (l : List Byte) (k : Nat) => List.replicate (k - l.length) (0 : Byte) ++ l
    let vh := ((r.vHist.take 32).reverse.map fun v => leBytes 2 (satU 16 (roundQ (v / 8)))).flatten
    let ih := ((r.iHist.take 32).reverse.map fun v => leBytesS 2 (roundDiv v 128)).flatten
    leBytes 2 st ++ leBytesS 2 (p.betaShown n) ++ leBytes 2 (p.get RA_BETA.B_TARGET n) ++
      leBytes 1 (p.get RA_CFG.DEPTH_EFF n) ++ leBytes 1 0 ++ (ents ++ List.replicate (40 - ents.length) 0) ++
      List.replicate 16 0 ++ pad vh 64 ++ pad ih 64

/-- The history rail of a record (R743). -/
def Part.histRail (p : Part) (rail : Option Nat) : Option Nat :=
  match rail with
  | some n => some n
  | none => if p.flag NVM_CFG.HIST_EN then some (p.get NVM_CFG.HIST_RAIL) else none

/-- Bytes 4 to 503 of a record (R743) with its SUPP count; the run-ahead fields come from the state before the squash
that the event causes. -/
def Part.recBody (p pre : Part) (supp src code cls : Nat) (rail unit : Option Nat) (flags : Nat) : List Byte :=
  let h := p.histRail rail
  let short := match h with
    | some n => decide ((p.rail n).vHist.length < 32)
    | none => false
  leBytes 4 (min supp 0xFFFFFFFF) ++ leBytes 8 p.tb ++ leBytes 4 (p.get NVM_PCYC.PCYC) ++ leBytes 2 (256 * src + code) ++
  leBytes 1 cls ++ leBytes 1 (rail.getD 0xFF) ++ leBytes 1 (unit.getD 0xFF) ++
  leBytes 1 (devCode p.dev + 16 * p.get SYS_STATE.ROLE + 64 * p.get HAL_STAT.TB_LOCK + 128 * p.get HAL_STAT.TB_COARSE) ++
  leBytes 1 (h.getD 0xFF) ++ leBytes 1 (flags + 4 * b2n short) ++ leBytes 4 0 ++
  ((List.range 8).map p.recRail).flatten ++ (List.range 64).map p.recPhase ++ (List.range 9).map p.recSlice ++
  leBytes 7 0 ++ ((List.range 20).map p.recTemp).flatten ++ leBytes 3 (p.get PROT_VIN.V_IN) ++
  leBytes 1 (p.get THR_STAT.THR) ++
  leBytes 1 (b2n p.owner + 2 * p.get PAIR_STAT.ARMED + 4 * p.get PAIR_STAT.PARTNER_HB) ++
  leBytes 1 (p.get SVC_STATUS.CAUSE) ++ leBytes 1 p.spares.length ++ leBytes 1 0 ++ pre.recHist h ++
  leBytes 1 (p.get PWR_EVENT.VAON_LOW + 2 * p.get PWR_EVENT.VDD33_LOST + 4 * p.get PWR_EVENT.VDDA18_LOST +
    8 * p.get PWR_EVENT.VDD08_LOST + 16 * p.get PWR_STATUS.FIRST_LOSS) ++
  leBytes 1 (p.get SYS_STATE.SAFE_CAUSE + 8 * p.get SAFE_DETAIL.DETAIL) ++ leBytes 1 (p.get SYS_RESET.LAST_RESET) ++
  leBytes 53 0

/-! The NVM queue. -/

/-- The next good page of a region from a page on, wrapping; none when every page is bad. -/
def nextGood (bad first count from_ : Nat) : Option Nat :=
  ((List.range count).map fun i => first + (from_ - first + i) % count).find? fun q => bitOf bad q == 0

/-- The seal of records and counter entries (R743, R749). -/
def sealWord : Nat := 0xB1775EA1

/-- The bytes of a unit, seal included (R743, R749, R752). -/
def Part.unitBytes (p : Part) : NvmUnit → List Byte
  | .hot r | .record r =>
    let b := leBytes 4 (p.get NVM_RECSEQ.RECSEQ + 1) ++ r.body
    b ++ leBytes 4 (crc32c b) ++ leBytes 4 sealWord
  | .log l =>
    let b := leBytes 6 (l.tb / 256) ++ leBytes 4 (p.nvm.logSeq + 1) ++ leBytes 1 l.cause ++ leBytes 1 l.unit
    b ++ leBytes 3 (crc32c b) ++ leBytes 1 0x5A
  | .counter _ =>
    let b := leBytes 4 (p.nvm.ctrSeq + 1) ++ leBytes 4 (p.get NVM_PCYC.PCYC) ++ leBytes 16 p.nvm.bad
    b ++ leBytes 4 (crc32c b) ++ leBytes 4 sealWord

/-- Begin a unit's write: records always with an erase, log and counter entries with an erase only at a page's first
unit (R746, R749, R750, R753). -/
def Part.beginUnit (p : Part) (u : NvmUnit) : Part :=
  match u with
  | .hot _ | .record _ =>
    match nextGood p.nvm.bad 0 96 p.nvm.recSlot with
    | some q => p.modNvm fun m => { m with op := some ⟨u, q, 0, true, p.unitBytes u⟩ }
    | none => p
  | .log _ =>
    let q := 104 + p.nvm.logUnit / 32 % 16
    match nextGood p.nvm.bad 104 16 q with
    | some q' =>
      let i := if q' = q then p.nvm.logUnit % 32 else 0
      p.modNvm fun m => { m with op := some ⟨u, q', i, i == 0, p.unitBytes u⟩ }
    | none => p
  | .counter _ =>
    let q := 96 + p.nvm.ctrUnit / 16 % 8
    match nextGood p.nvm.bad 96 8 q with
    | some q' =>
      let i := if q' = q then p.nvm.ctrUnit % 16 else 0
      p.modNvm fun m => { m with op := some ⟨u, q', i, i == 0, p.unitBytes u⟩ }
    | none => p

/-- Whether the NVM block takes queued operations (R737): in READY, RUN and SAFE, and in LOAD once the scan of R748 is
done. -/
def Part.nvmRuns (p : Part) : Bool := p.hostActive || (p.dev == .load && p.load.scanned)

/-- Start the next pending NVM operation when none runs, in the order of R737. -/
def Part.nvmKick (p : Part) : Part :=
  if p.nvm.op.isSome then p
  else
    if p.dev = .hotlatch then
      match p.nvm.hot with
      | some r => (p.modNvm fun m => { m with hot := none }).beginUnit (.hot r)
      | none => p
    else if p.nvmRuns then
      match p.nvm.recs, p.nvm.logs, p.nvm.counters with
      | r :: rs, _, _ => (p.modNvm fun m => { m with recs := rs }).beginUnit (.record r)
      | [], l :: ls, _ => (p.modNvm fun m => { m with logs := ls }).beginUnit (.log l)
      | [], [], c :: cs => (p.modNvm fun m => { m with counters := cs }).beginUnit (.counter c)
      | [], [], [] => p
    else p

/-- Take the newest class D record out of a queue; none when it holds none (R742). -/
def dropNewestD (l : List RecCap) : Option (List RecCap) :=
  match (l.reverse.findIdx? fun r => r.cls == 3) with
  | some i => some (l.eraseIdx (l.length - 1 - i))
  | none => none

/-- The SYS cycle, 6.25 ticks, in which a record was captured (R742, R743). -/
def RecCap.cycle (r : RecCap) : Nat := leAt r.body 4 8 * 4 / 25

/-- The rail of a record, 255 for a device-wide one (R743). -/
def RecCap.rail (r : RecCap) : Nat := leAt r.body 19 1

/-- A record takes its place at the end of the queue, before those of higher rails that the same SYS cycle captured
(R742). -/
def recPlace (r : RecCap) (l : List RecCap) : List RecCap :=
  let late := (l.reverse.takeWhile fun x => x.cycle == r.cycle && decide (r.rail < x.rail)).length
  l.take (l.length - late) ++ r :: l.drop (l.length - late)

/-- Queue a captured record (R741, R742). -/
def Part.queueRec (p : Part) (r : RecCap) : Part :=
  (if p.nvm.recs.length < 8 then p.modNvm fun m => { m with recs := recPlace r m.recs }
  else
    let q := p.event NVM_STAT.DROP_EV NVM_EVCNT0.DROP_CNT
    match dropNewestD p.nvm.recs with
    | some l => q.modNvm fun m => { m with recs := recPlace r l }
    | none => q).nvmKick

/-- 1,000 ms in ticks. -/
def tickSecond : Nat := 1250000000

/-- The class codes of a record (R743). -/
inductive RecClass where
  | a | b | c | d | none_
deriving DecidableEq, Repr

/-- The code of a class (R743). -/
def RecClass.code : RecClass → Nat
  | .a => 0 | .b => 1 | .c => 2 | .d => 3 | .none_ => 4

/-- One suppressed record more in the line of the rate rule. -/
def RateLine.suppress (l : RateLine) : RateLine := { l with supp := l.supp + 1 }

/-- Capture a record under the rate rule (R426, R550); `force` writes it whatever the rule says (an entry to LATCHED,
and the device records of class none); `pre` is the state before the squash that the event causes. -/
def Part.record (p : Part) (src code : Nat) (cls : RecClass) (rail unit : Option Nat) (flags : Nat := 0)
    (force : Bool := false) (pre : Option Part := none) : Part :=
  let c := 256 * src + code
  let rn := rail.getD 0xFF
  let u := unit.getD 0xFF
  let same := fun (l : RateLine) => l.code == c && l.rail == rn && l.unit == u
  let line := p.nvm.rates.find? same
  let others := p.nvm.rates.filter fun l => !same l
  let limited := match line with
    | some l => !force && cls != RecClass.none_ && decide (p.tb < l.last + tickSecond)
    | none => false
  if limited then
    let q := p.modNvm fun m => { m with rates := others ++ (line.map RateLine.suppress).toList }
    match rail with
    | some n => q.bump PR_EVCNT3.SUPP_CNT n
    | none => q
  else
    let supp := (line.map RateLine.supp).getD 0
    let body := p.recBody (pre.getD p) supp src code cls.code rail unit flags
    let fresh : RateLine := { code := c, rail := rn, unit := u, last := p.tb, supp := 0 }
    (p.modNvm fun m => { m with rates := others ++ [fresh] }).queueRec ⟨cls.code, body⟩

/-! Service causes. -/

/-- Place a service-log entry, or discard it when the queue holds eight (R751). -/
def Part.logQueue (p : Part) (cause unit : Nat) : Part :=
  if p.nvm.logs.length < 8 then
    (p.modNvm fun m => { m with
      logs := m.logs ++ [⟨p.tb, cause, unit⟩]
      logRates := (m.logRates.filter fun l => !(l.1 == cause && l.2.1 == unit)) ++ [(cause, unit, p.tb)] }).nvmKick
  else p.event NVM_STAT.LOGDROP_EV NVM_EVCNT0.LOGDROP_CNT

/-- Queue a service-log entry unless the same cause and unit had one less than 1,000 ms ago (R751). -/
def Part.logEntry (p : Part) (cause unit : Nat) : Part :=
  let recent := p.nvm.logRates.any fun l => l.1 == cause && l.2.1 == unit && decide (p.tb < l.2.2 + tickSecond)
  if recent then p.bump NVM_EVCNT1.LOGSUPP_CNT else p.logQueue cause unit

/-- A service cause becomes active: SVC_EV, its counter, a log entry; nothing when it is active already (R601). -/
def Part.raiseCause (p : Part) (c : Nat) (unit : Nat := 0xFF) : Part :=
  if p.bit SVC_STATUS.CAUSE c then p
  else (((p.setBit SVC_STATUS.CAUSE c).setBit SVC_STATUS.SVC_EV c).bump (byteFld SVC_EVCNT.C0 c)).logEntry c unit

/-- A service cause ends (R600). -/
def Part.clearCause (p : Part) (c : Nat) : Part := p.clearBit SVC_STATUS.CAUSE c

/-- "BIST overdue" follows OVERDUE and the LATE bits (R575, R600). -/
def Part.overdueCause (p : Part) (unit : Nat := 0xFF) : Part :=
  if p.flag ENG_ROT.OVERDUE || p.flag IF_STAT.LATE_MBIST || p.flag IF_STAT.LATE_EINJ || p.flag IF_STAT.LATE_PINJ ||
      p.flag IF_STAT.LATE_DACRB || p.flag IF_STAT.LATE_HAL then p.raiseCause 5 unit
  else p.clearCause 5

/-- Evaluate the wear (R740): the registers of R739 and the service cause. -/
def Part.evalWear (p : Part) : Part :=
  let q := (p.set NVM_WEAR.MAX_ERASE p.maxErase).set NVM_STAT.WEAR_PCT p.wearPct
  if (decide (90 < q.wearPct) || decide (8 ≤ q.get NVM_INFO.BAD_PAGES)) && !q.bit SVC_STATUS.CAUSE 4 then
    (q.event NVM_STAT.WEAR_EV NVM_EVCNT1.WEAR_CNT).raiseCause 4
  else q

end Sys2Proof.Machine
end

