-- ==== Sys2Proof/Machine/RingOps.lean ====
section
/-!
DEFINITION. Sending on the ring: own frames, broadcasts, FAULT frames (R623 to R627, R643).
-/

namespace Sys2Proof.Machine

open Reg

/-- Whether a ring port is up. -/
def Part.portIsUp (p : Part) : HalPort → Bool
  | .east => p.flag HAL_STAT.UP_E
  | .west => p.flag HAL_STAT.UP_W

/-- Whether a ring port is enabled. -/
def Part.portEn (p : Part) : HalPort → Bool
  | .east => p.flag HAL_CFG.EN_E
  | .west => p.flag HAL_CFG.EN_W

/-- The other ring port. -/
def otherPort : HalPort → HalPort
  | .east => .west
  | .west => .east

/-- The index of a port in lists of two: 0 EAST, 1 WEST. -/
def portIx : HalPort → Nat
  | .east => 0
  | .west => 1

/-- The pair port (R650). -/
def Part.pairPort (p : Part) : HalPort := if p.flag HAL_CFG.PAIR_PORT then .west else .east

/-- Send a frame out of a port; nothing leaves a port that is not up. -/
def Part.send (p : Part) (port : HalPort) (f : Frame) : Part :=
  if p.portIsUp port then p.modHal fun h => { h with sent := h.sent ++ [.frame port f false] } else p

/-- The source field of own frames: this node, endpoint 0 (R623). -/
def Part.ownSrc (p : Part) : Nat := p.get HAL_CFG.NODE_ID * 64

/-- N − 1 of the ring, 2,047 for an unknown N (R627). -/
def Part.ringSpan (p : Part) : Nat :=
  if p.get HAL_RING.RING_N = 0 then 2047 else p.get HAL_RING.RING_N - 1

/-- BROKEN, the originator's view of the ring (R623). -/
def Part.brokenBit (p : Part) : Nat := if p.flag HAL_STAT.INTACT then 0 else 2

/-- Send a broadcast out of both ports (R627). -/
def Part.broadcast (p : Part) (type id : Nat) (payload : List Byte) : Part :=
  let whole := p.flag HAL_STAT.INTACT && p.get HAL_RING.RING_N != 0
  let span := p.ringSpan
  let f := fun lim => (⟨type, 1 + p.brokenBit, p.ownSrc, 0, id, 0, lim, payload⟩ : Frame)
  let q := p.send .east (f (if whole then (span + 1) / 2 else span))
  q.send .west (f (if whole then span / 2 else span))

/-- Broadcast with the node's own running identifier (assumption log 15). -/
def Part.broadcastNext (p : Part) (type : Nat) (payload : List Byte) : Part :=
  (p.broadcast type p.hal.nextId payload).modHal fun h => { h with nextId := (h.nextId + 1) % 65536 }

/-- 1 ms in ticks. -/
def tickMs : Nat := 1250000
/-- 1 µs in ticks. -/
def tickUs : Nat := 1250

/-- Broadcast FAULT with FAULT_BCAST = 1, at most once per CODE and rail each 1 ms (R643). No rule states the CLASS of an
event that has none, nor the RAIL of one without a rail: free values there (assumption log 6). -/
def Part.sendFault (p : Part) (code cls : Nat) (rail : Option Nat) : Part :=
  if !p.flag HAL_CFG.FAULT_BCAST then p
  else
    let key := rail.getD 8
    let recent := p.hal.faultSent.any fun l => l.1 == code && l.2.1 == key && decide (p.tb < l.2.2 + tickMs)
    if recent then p
    else
      let c := if cls < 4 then cls else Config.unstated p.free % 4
      let rn := rail.getD (Config.unstated (p.free + 1) % 8)
      ((p.modHal fun h => { h with
        faultSent := (h.faultSent.filter fun l => !(l.1 == code && l.2.1 == key)) ++ [(code, key, p.tb)] }).broadcastNext
        0x10 (leBytes 1 code ++ leBytes 1 c ++ leBytes 1 rn ++ leBytes 1 0)).tick.tick

/-- The data character of an HB set (R650). -/
def Part.hbChar (p : Part) : Nat :=
  b2n p.owner + 2 * b2n p.pair.selfFault + 4 * p.get PAIR_STAT.ARMED + 8 * b2n (p.dev == .run) + 16 * p.pair.hbSeq

/-- Send an HB set out of the pair port. -/
def Part.sendHb (p : Part) : Part :=
  (p.modHal fun h => { h with sent := h.sent ++ [.hb p.pairPort p.hbChar] }).modPair fun x => { x with
    hbSeq := (x.hbSeq + 1) % 16 }

/-- A MAIN declares a self-fault (R208, R452, R598, R650): SELFFLT_EV, an HB at once and the self-fault kept for
every HB that follows, FAULT with CODE 18, a record. -/
def Part.selfFaultNow (p : Part) : Part :=
  if p.pair.selfFault then p
  else
    let q := ((p.modPair fun x => { x with selfFault := true, selfFaultAt := p.tb }).event
      PAIR_STAT.SELFFLT_EV PAIR_EVCNT.SELFFLT_CNT).latchMfrAll 6
    let q := if q.portIsUp q.pairPort then q.sendHb else q
    (q.sendFault 18 4 none).record 0x07 2 .none_ none none

/-- The window of 2,560 ticks in which TB lies (R658): the sums of a window that has ended move on. -/
def Part.pairRoll (p : Part) : Part :=
  let w := p.tb / 2560
  if w ≤ p.pair.window then p
  else p.modPair fun x => { x with
    dsumPrev := if w = x.window + 1 then x.dsum else List.replicate 8 0
    dcntPrev := if w = x.window + 1 then x.dcnt else List.replicate 8 0
    dsum := List.replicate 8 0, dcnt := List.replicate 8 0, window := w, pairxSeen := false }

end Sys2Proof.Machine
end

