-- ==== Sys2Proof/Machine/SliceLaw.lean ====
section
/-!
DEFINITION. The compensator law of a slice (R175 to R186): one computation on given histories, as a function of the law
fields in the slice's registers and of the inputs of the sample.
-/

namespace Sys2Proof.Machine

open Reg

/-- The law fields of a slice (R225 to R230), decoded. -/
structure Law where
  b : List Int
  a : List Int
  lsEn : Bool
  band : Int
  gain : Int
  ylim : Int
  awEn : Bool
  dmin : Int
  dmax : Int
deriving DecidableEq, Repr

/-- The inputs of one computation: the error code x_c, g in UQ4.20, d_ff and H in Q1.23 (R177, R183 to R185). -/
structure LawIn where
  xc : Int
  g : Int
  dff : Int
  h : Int
deriving DecidableEq, Repr

/-- What one computation gives: the new histories, y before the anti-windup, u_ls, d_c and d. -/
structure LawOut where
  x : List Int
  y : List Int
  yNow : Int
  uls : Int
  dc : Int
  d : Int
deriving DecidableEq, Repr

/-- The law fields of slice `s`. -/
def Part.lawOf (p : Part) (s : Nat) : Law where
  b := (List.range 5).map fun j => p.getS SLICE_COEF.COEF s j
  a := (List.range 4).map fun j => p.getS SLICE_COEF.COEF s (5 + j)
  lsEn := p.flag SLICE_LS.LS_EN s
  band := p.get SLICE_LS.LS_BAND s
  gain := p.getS SLICE_LSGAIN.LS_GAIN s
  ylim := p.get SLICE_YLIM.YLIM s * 2 ^ 20
  awEn := p.flag SLICE_YLIM.AW_EN s
  dmin := p.get SLICE_DCLAMP.DMIN s * 2 ^ 7
  dmax := p.get SLICE_DCLAMP.DMAX s * 2 ^ 7

/-- Sum of the products of two lists. -/
def dot : List Int → List Int → Int
  | a :: l, b :: m => a * b + dot l m
  | _, _ => 0

/-- u_ls in Q8.32 (R181). -/
def Law.uls (l : Law) (xc : Int) : Int :=
  if l.lsEn && decide (l.band < xc.natAbs) then roundDiv (l.gain * (xc - xc.sign * l.band)) 8 else 0

/-- y[k] in Q8.32 (R178, R180). -/
def Law.yOf (l : Law) (x y : List Int) : Int :=
  clampI (-l.ylim) l.ylim (roundDiv (dot l.b x * 2 ^ 9 - dot l.a y) (2 ^ 20))

/-- d_c in Q1.23 (R185). -/
def lawDc (i : LawIn) (y uls : Int) : Int :=
  satS 24 (roundDiv ((i.dff + i.h) * 2 ^ 29 + i.g * (y + uls)) (2 ^ 29))

/-- One computation on the histories (R178 to R186). -/
def Law.step (l : Law) (i : LawIn) (xh yh : List Int) : LawOut :=
  let x := (i.xc * 256) :: xh
  let y := l.yOf x yh
  let uls := l.uls i.xc
  let dc := lawDc i y uls
  let y1 := yh.headD 0
  let hold := l.awEn && ((decide (l.dmax < dc) && decide (y1 < y)) || (decide (dc < l.dmin) && decide (y < y1)))
  { x := x.take 4, y := ((if hold then y1 else y) :: yh).take 4, yNow := y, uls := uls, dc := dc
    d := clampI l.dmin l.dmax dc }

/-- max(V_IN, VIN_FLOOR) in UQ8.16 (R183, R184). -/
def Part.vinMax (p : Part) (s : Nat) : Nat := max (p.get PROT_VIN.V_IN) (p.get SLICE_FF.VIN_FLOOR s * 65536)

/-- g in UQ4.20 (R183). -/
def Part.gainOf (p : Part) (s : Nat) : Int :=
  if p.flag SLICE_FF.FFG_EN s then
    min (roundDiv (p.get SLICE_FF.VIN_NOM s * 2 ^ 28) (p.vinMax s)) (2 ^ 24 - 1)
  else 2 ^ 20

/-- V_SP / max(V_IN, VIN_FLOOR) in Q1.23, saturated: d_ff and d_open (R184, R374). -/
def Part.dutyOf (p : Part) (s vsp : Nat) : Int := min (roundDiv (vsp * 2 ^ 23) (p.vinMax s)) (2 ^ 23 - 1)

/-- d_ff in Q1.23 (R184). -/
def Part.dffOf (p : Part) (s vsp : Nat) : Int := if p.flag SLICE_FF.FFD_EN s then p.dutyOf s vsp else 0

/-- LL[k] in 6.25 µV units at the sense pins (R176). -/
def Part.llTerm (p : Part) (n : Nat) : Int :=
  satS 16 (roundDiv (p.get RAIL_LL.R_LL n * p.illfOut n * 64) (25 * p.divK n))

/-- Show what a computation of a slice gave (R182, R232, R233): y, u_ls, d_c and d. -/
def Part.showLaw (p : Part) (s : Nat) (y uls dc d : Int) : Part :=
  ((((p.setS SLICE_DUTY.DUTY d s).put SLICE_DUTY.LS_ACT (uls != 0) s).put SLICE_DUTY.CLAMPED (d != dc) s)).setSat SLICE_Y.Y
    (y / 256) s

/-- H after one bleed (R219 step 8). -/
def bleed (slew h : Int) : Int := if h.natAbs ≤ slew.natAbs then 0 else h - h.sign * slew

/-- The law fields of a slice as a flat list of field values, in the order of R214. -/
def lawFields : List (Fld × Nat) :=
  (List.range 9).map (fun j => (SLICE_COEF.COEF, j)) ++
  [(SLICE_LS.LS_BAND, 0), (SLICE_LS.LS_EN, 0), (SLICE_LSGAIN.LS_GAIN, 0), (SLICE_YLIM.YLIM, 0), (SLICE_YLIM.AW_EN, 0),
   (SLICE_FF.FFD_EN, 0), (SLICE_FF.FFG_EN, 0), (SLICE_FF.VIN_FLOOR, 0), (SLICE_FF.VIN_NOM, 0),
   (SLICE_DCLAMP.DMIN, 0), (SLICE_DCLAMP.DMAX, 0)]

/-- The rail coefficient set copied from a slice (R203). -/
def Part.lawCopy (p : Part) (s : Nat) : List Nat := lawFields.map fun f => p.get f.1 s f.2

/-- Load the law fields of a slice from a coefficient set (R205). -/
def Part.lawLoad (p : Part) (s : Nat) (set : List Nat) : Part :=
  (lawFields.zip set).foldl (fun q f => q.set f.1.1 f.2 s f.1.2) p

/-- Keep the rail coefficient set of a rail after its serving slice (R203). -/
def Part.keepSet (p : Part) (n s : Nat) : Part := p.modRail n fun r => { r with coefSet := p.lawCopy s }

end Sys2Proof.Machine
end

