-- ==== Sys2Proof/Machine/RunAhead.lean ====
section
/-!
DEFINITION. Run-ahead (R244 to R281): squash, intents, pre-boost, preparation, arming, the rebuild of the window and
the validation of its entries, with the meanings of DISARM, LIP_STROBE, INTENT_MISSED and PREP_DONE. Slots are counted
in control samples of the rail; currents are exact rationals in amperes.
-/

namespace Sys2Proof.Machine

open Reg

/-- The causes of a squash by their counters (R260, R290). -/
inductive SquashCause where
  | val | prot | eng | other
deriving DecidableEq, Repr

/-- The counter of a squash cause (R290). -/
def SquashCause.cnt : SquashCause → Fld
  | .val => RA_SQCNT.SQ_VAL
  | .prot => RA_SQCNT.SQ_PROT
  | .eng => RA_SQCNT.SQ_ENG
  | .other => RA_SQCNT.SQ_OTHER

/-- Show the number of entries held (R287). -/
def Part.showEntries (p : Part) (n : Nat) : Part := p.set RA_STAT.ENTRIES (p.rail n).entries.length n

/-- The weighted step of a rail's intent in amperes; 0 with none (R253). -/
def Part.weightedStep (p : Part) (n : Nat) : Rat :=
  match (p.rail n).intent with
  | some t => (t.weight : Rat) / 15 * (t.step : Rat) / 4
  | none => 0

/-- The level that the pending intent calls for: the add level at the latest Î_o with the whole weighted step (R274,
R276). -/
def Part.intentLevel (p : Part) (n : Nat) : Option Nat :=
  if p.get RA_STAT.INTENT n = 1 then
    some (p.addLevel n (((p.rail n).ioPrev + p.weightedStep n) * 256) (p.get FAB_STAT.LEVEL n))
  else none

/-- The lowest level that a held entry or the pending intent calls for (R276). -/
def Part.wantedLevel (p : Part) (n : Nat) : Nat :=
  minN (((p.rail n).entries.map RaEntry.plan) ++ (p.intentLevel n).toList ++ [p.get FAB_STAT.LEVEL n])

/-- The SHED phases that a level adds. -/
def Part.addedBy (p : Part) (n c : Nat) : List Nat := (p.activeAt n c).filter fun q => p.pst q == .shed

/-- Let the preparation follow the wanted level (R275, R276); a preparation starts at a rebuild alone. -/
def Part.followPrep (p : Part) (n : Nat) (start : Bool) : Part :=
  let lvl := p.wantedLevel n
  let r := p.rail n
  if p.get FAB_STAT.LEVEL n ≤ lvl ∨ (r.prepLevel = none ∧ !start) then
    ((p.modRail n fun r => { r with prepLevel := none, prep := [] }).set RA_STAT.PREP 0 n).set RA_STAT.PREP_DONE 0 n
  else
    let add := p.addedBy n lvl
    let kept := r.prep.filter fun x => add.contains x.phase
    let new_ := (add.filter fun q => !(kept.any fun x => x.phase == q)).map fun q => (⟨q, 0, 0⟩ : Prep)
    let all := kept ++ (if start then new_ else [])
    let q := (p.modRail n fun r => { r with prepLevel := some lvl, prep := all }).put RA_STAT.PREP (!all.isEmpty) n
    q.put RA_STAT.PREP_DONE (p.flag RA_STAT.PREP_DONE n && all.all fun x => decide (16 ≤ x.count)) n

/-- Squash the entries of a slot and later; only a squash that discards an entry is counted (R260, R261). -/
def Part.squashFrom (p : Part) (n : Nat) (c : SquashCause) (slot : Nat) : Part :=
  let r := p.rail n
  let keep := r.entries.filter fun e => e.slot < slot
  if keep.length = r.entries.length then p
  else
    let q := p.modRail n fun r => { r with entries := keep }
    (((q.event RA_STAT.SQ_EV RA_EVCNT.SQ_CNT n).bump c.cnt n).showEntries n).followPrep n false

/-- Squash every entry of a rail (R260). -/
def Part.squash (p : Part) (n : Nat) (c : SquashCause) : Part := p.squashFrom n c 0

/-- End a rail's intent: state NONE, β = 0 (R266, R269, R270). -/
def Part.endIntent (p : Part) (n : Nat) : Part :=
  ((p.modRail n fun r => { r with intent := none, beta := 0 }).set RA_STAT.INTENT 0 n).followPrep n false

/-- A protection event of a rail: every entry squashed, its intent ended (R260, R270). -/
def Part.protEvent (p : Part) (n : Nat) : Part := (p.squash n .prot).endIntent n

/-- D_eff (R249). -/
def Part.dEff (p : Part) (n : Nat) : Nat :=
  let m := (p.rail n).divM
  min (p.get RA_CFG.DEPTH n) ((p.per n - 1560 * m) / (400 * m) - 1)

/-- Show D_eff (R249). -/
def Part.showDEff (p : Part) (n : Nat) : Part := p.set RA_CFG.DEPTH_EFF (p.dEff n) n

/-! Intents and pre-boost. -/


/-- The pre-boost target B of a captured step (R271), 6.25 µV units at the pins. -/
def Part.boostTarget (p : Part) (n : Nat) (step : Int) (w : Nat) : Int :=
  if !p.flag RA_CFG.PB_EN n then 0
  else
    let k := (p.divK n : Rat) / 4096
    let a := ((16 * p.get RA_PB.PREBOOST_MAX n : Nat) : Rat) / k
    let b := (w : Rat) / 15 * ((step.natAbs : Nat) : Rat) / 4 * (p.get RA_PB.R_PB n : Rat) / (25 / 4) / k
    step.sign * roundQ (if a < b then a else b)

/-- Whether a rail refuses a step or cancel code (R264). -/
def Part.intentRefused (p : Part) (n : Nat) : Bool :=
  p.rst n != .regulate || !p.flag RA_CFG.INTENT_EN n || p.get RA_CFG.DEPTH n == 0 || !p.native n

/-- Capture of a step intent (R266, R267, R271). -/
def Part.captureIntent (p : Part) (n code tc : Nat) : Part :=
  let p := if p.get RA_STAT.INTENT n = 0 then p else p.squash n .other
  let step := p.getS RA_ITAB.STEP n code
  let w := p.get RA_ITAB.W n code
  let beta0 := p.betaNow n ((tc * 32 : Nat) : Rat)
  let it : Intent := { step := step, lead := clampN 5 100 (p.get RA_ITAB.LEAD n code), weight := w, tc := tc,
                       beta0 := beta0, ioAtCapture := none }
  let q := p.modRail n fun r => { r with intent := some it }
  ((q.set RA_STAT.INTENT 1 n).set RA_STAT.ICODE code n).setSat RA_BETA.B_TARGET (p.boostTarget n step w) n

/-- A code applied to one rail (R264, R266, R267). -/
def Part.applyCode (p : Part) (n code tc : Nat) : Part :=
  let kind := p.get RA_ITAB.KIND n code
  if 2 ≤ kind then p
  else if p.intentRefused n then p.event RA_STAT.LIPREF_EV RA_EVCNT.LIPREF_CNT n
  else if kind = 0 then p.captureIntent n code tc
  else (p.squash n .other).endIntent n

/-- A code of LIPA takes its place before the code of LIPB that the same SYS edge has brought (R267): that one acts again, on
the rails that both reach. -/
def Part.lipOrder (p : Part) (tc : Nat) : Part :=
  match p.lipCap with
  | some (t, code) =>
    if t = tc then
      p.forL (maskList 8 (Nat.land (p.get LIP_CFG.MAP_A) (p.get LIP_CFG.MAP_B))) fun n q =>
        if q.intentRefused n then q else q.applyCode n (code % 16) tc
    else p
  | none => p

/-- A strobe on a load-intent port (R262, R263, R265 to R267). -/
def Part.lipStrobe (p : Part) (port : LipPort) (code : Nat) : Part :=
  if !p.hostActive then p
  else
    let p := p.abortPark
    let ix := match port with | .a => 0 | .b => 1
    let early := match nth p.lipLast ix none with
      | some t => decide (p.tb < t + 50)
      | none => false
    if early then
      match port with
      | .a => p.event LIP_STAT.VIOL_A_EV LIP_EVCNT.VIOL_A_CNT
      | .b => p.event LIP_STAT.VIOL_B_EV LIP_EVCNT.VIOL_B_CNT
    else
      let tc := p.tb + 7 + Config.strobeDelay p.free % 12
      let q := { p.tick with lipLast := upd p.lipLast ix fun _ => some p.tb }
      match port with
      | .a => ((q.set LIP_STAT.CODE_A code).bumpWrap LIP_EVCNT.STB_A_CNT).forL (maskList 8 (p.get LIP_CFG.MAP_A))
          (fun n q => q.applyCode n (code % 16) tc) |>.lipOrder tc
      | .b => (({ q with lipCap := some (tc, code) }.set LIP_STAT.CODE_B code).bumpWrap LIP_EVCNT.STB_B_CNT).forL
          (maskList 8 (p.get LIP_CFG.MAP_B)) fun n q => q.applyCode n (code % 16) tc

/-- MISS_WIN in 25 ps steps (R286). -/
def Part.missWin (p : Part) (n : Nat) : Nat := min 100 (orDefault (p.get RA_PB.MISS_WIN n) 1) * 4000

/-- A pending intent resolves MISSED at the first sample at or after t_x + MISS_WIN (R269). -/
def Part.intentMissed (p : Part) (n : Nat) : Part :=
  match p.get RA_STAT.INTENT n, (p.rail n).intent with
  | 1, some t =>
    if t.tx + p.missWin n ≤ (p.rail n).lastSt then
      ((p.squash n .other).endIntent n).event RA_STAT.MISS_EV RA_EVCNT.MISS_CNT n
    else p
  | _, _ => p

/-- The offset refresh of the preparation is complete: sixteen samples of every prepared phase (R275). -/
def Part.prepDone (p : Part) (n : Nat) : Part :=
  let l := (p.rail n).prep
  if !l.isEmpty && l.all (fun x => decide (16 ≤ x.count)) then p.set RA_STAT.PREP_DONE 1 n else p

/-- ARM_HOLD with its 0 acting as 1 (R285). -/
def Part.armHold (p : Part) (n : Nat) : Nat := orDefault (p.get RA_ARM.ARM_HOLD n) 1

/-- A rail is disarmed after ARM_HOLD samples with no arming condition (R246). -/
def Part.disarm (p : Part) (n : Nat) : Part :=
  if p.flag RA_STAT.ARMED n && decide (p.armHold n ≤ (p.rail n).raIdle) then p.set RA_STAT.ARMED 0 n else p

/-! At a real sample. -/

/-- Whether run-ahead runs on a rail at its latest sample (R245). -/
def Part.raRuns (p : Part) (n : Nat) : Bool :=
  let r := p.rail n
  let serves := match p.servingOf n with
    | some s => p.sst s == .drive || (p.sst s == .track && p.shadowing)
    | none => false
  let exch := match p.eng.cur with
    | some x => x.rail == n && x.kh
    | none => false
  p.native n && p.get RA_CFG.DEPTH n != 0 && p.rst n == .regulate && r.vspPrev2 == r.vspPrev && r.vspPrev == r.vspWin &&
    serves && !exch

/-- An arming condition holds at the sample (R246). -/
def Part.armCond (p : Part) (n : Nat) (dI xc : Int) : Bool :=
  let slope := p.get RA_CFG.ARM_SLOPE n
  let err := p.get RA_ARM.ARM_ERR n
  p.get RA_STAT.INTENT n != 0 ||
    (slope != 0 && decide ((slope : Rat) / 16 * p.tctlUs n ≤ ((dI.natAbs : Nat) : Rat) / 256)) ||
    (err != 0 && decide (err < xc.natAbs))

/-- KC_p, units per ampere per period (R252). -/
def Part.kcP (p : Part) (n : Nat) : Rat := (p.get RA_MODEL.KC n : Rat) / 256 * p.tctlUs n

/-- KL_p, amperes per period per unit duty (R252). -/
def Part.klP (p : Part) (n s : Nat) : Rat :=
  (p.get RA_MODEL.KL_PH n : Rat) / 16 * ((p.active n).length : Rat) *
    ((p.get PROT_VIN.V_IN : Rat) / 65536) / ((p.get SLICE_FF.VIN_NOM s : Rat) / 256) * p.tctlUs n

/-- Î_o of a sample (R252). -/
def Part.ioOf (p : Part) (n : Nat) (i0 i1 e0 e1 : Int) : Rat :=
  ((i1 + i0 : Int) : Rat) / 512 - ((e1 - e0 : Int) : Rat) / p.kcP n

/-- Validate the entry of the next slot against the sample (R256). -/
def Part.validate (p : Part) (n : Nat) (e : Int) (sat : Bool) : Part :=
  let r := p.rail n
  let slot := r.samples + 1
  match r.entries.find? fun x => x.slot == slot with
  | none => p
  | some x =>
    let near := decide ((e - x.pred).natAbs ≤ x.tol)
    let evidence := match p.get RA_STAT.INTENT n, r.intent with
      | 1, some it => x.dint == 0 || decide (2 * (it.step.sign * (e - (x.pred - x.dint))) ≤ -(x.dint.natAbs : Int))
      | _, _ => true
    if near && !sat && evidence then
      p.modRail n fun r => { r with entries := r.entries.map fun y => if y.slot = slot then { y with valid := true } else y }
    else p.squashFrom n .val slot

/-- What the rebuild keeps from step to step (R253): Î_L, ê, the histories, the sum of intent terms, the duty of the
slot before. -/
structure Rebuild where
  il : Rat
  eh : Int
  x : List Int
  y : List Int
  dsum : Rat
  u : Rat
  out : List RaEntry
deriving DecidableEq, Repr

/-- The fixed inputs of a rebuild (R250 to R253). -/
structure RebuildIn where
  m : Nat
  io : Rat
  slope : Rat
  dl : Rat
  klp : Rat
  kcp : Rat
  uBase : Rat
  ll : Int
  law : Law
  g : Int
  dff : Int
  h : Int
  uNext : Rat
deriving DecidableEq, Repr

/-- The fraction of the interval that ends `i` periods after the sample which lies after t_x (R252). -/
def Part.fracAfter (p : Part) (n i : Nat) : Rat :=
  match p.get RA_STAT.INTENT n, (p.rail n).intent with
  | 1, some it =>
    let t := p.tctlSt n
    let hi := ((p.rail n).lastSt : Rat) + (i : Rat) * t
    let f := (hi - (it.tx : Rat)) / t
    if f < 0 then 0 else if 1 < f then 1 else f
  | _, _ => 0

/-- The reef level of the phase plan of a slot `i` periods after the sample (R274). -/
def Part.planOf (p : Part) (n i : Nat) (obar base : Rat) : Nat :=
  let lc := p.get FAB_STAT.LEVEL n
  let whole := match p.get RA_STAT.INTENT n, (p.rail n).intent with
    | 1, some it => decide ((it.tx : Rat) - ((min 100 (p.get RA_ARM.ADD_LEAD n) * 4000 : Nat) : Rat) ≤
        ((p.rail n).lastSt : Rat) + (i : Rat) * p.tctlSt n)
    | _, _ => false
  p.addLevel n ((if whole then base + p.weightedStep n else obar) * 256) lc

/-- τ of an entry (R255). -/
def Part.tolOf (p : Part) (n : Nat) (dint : Int) : Nat :=
  if dint = 0 then p.get RA_TOL.TOL_BASE n
  else
    let w := match (p.rail n).intent with | some t => t.weight | none => 15
    p.get RA_TOL.TOL_BASE n + p.get RA_TOL.TOL_INT n * (15 - w) / 15

/-- One speculative step of the rebuild, `i` periods after the sample (R248, R250, R253, R254). -/
def Part.rebuildStep (p : Part) (n : Nat) (c : RebuildIn) (a : Rebuild) (i : Nat) : Rebuild :=
  let il := a.il + c.dl + c.klp * (a.u - c.uBase)
  let base := c.io + (i : Rat) * c.slope
  let part := p.weightedStep n * p.fracAfter n i
  let ob := base + part
  let eh := satS 16 (roundQ ((a.eh : Rat) + c.kcp * ((a.il + il) / 2 - ob)))
  let t := ((p.rail n).lastSt : Rat) + (i : Rat) * p.tctlSt n
  let xc := satS 16 (-(eh - roundQ (p.betaAt n t) + c.ll))
  let o := c.law.step ⟨xc, c.g, c.dff, c.h⟩ a.x a.y
  let dint := roundQ a.dsum
  let entry : RaEntry := { slot := c.m + i, pred := a.eh, dint := dint, duty := o.d, plan := p.planOf n i ob base,
                           tol := p.tolOf n dint, valid := false }
  { il := il, eh := eh, x := o.x, y := o.y, dsum := a.dsum - c.kcp * part
    u := if i = 1 then c.uNext else (o.d : Rat) / 8388608
    out := if i = 1 then a.out else a.out ++ [entry] }

/-- Rebuild the rail's window after real sample m (R248, R252, R253); `steps` are the speculative steps whose compare passes
(R250). -/
def Part.rebuild (p : Part) (n s : Nat) (i0 i1 e1 d : Int) (steps : Nat) : Part :=
  let r := p.rail n
  let m := r.samples
  let sl := p.slice s
  let held := r.entries.filter fun x => x.slot == m + 1
  let next := match held.find? (·.valid) with
    | some x => x.duty
    | none => d
  let c : RebuildIn :=
    { m := m, io := r.ioPrev, slope := r.ioSlope, dl := ((i1 - i0 : Int) : Rat) / 256, klp := p.klP n s, kcp := p.kcP n
      uBase := (r.uPrev : Rat) / 8388608, ll := p.llTerm n, law := p.lawOf s, g := sl.g, dff := sl.dff, h := r.hUsed
      uNext := (next : Rat) / 8388608 }
  let a : Rebuild := { il := (i1 : Rat) / 256, eh := e1, x := sl.x, y := sl.y, dsum := 0
                       u := ((r.dutyCom.getD 0 : Int) : Rat) / 8388608, out := [] }
  let out := ((List.range (min steps (p.dEff n + 1))).map (· + 1)).foldl (p.rebuildStep n c) a
  ((p.modRail n fun r => { r with entries := held ++ out.out }).showEntries n).followPrep n true

/-- What a real sample observes for run-ahead, whether or not a slice serves the rail: Î_o and ŝ, the intent's arrival, β and
the end of an intent (R252, R268, R272, R276). -/
def Part.raObserve (p : Part) (n : Nat) (i0 i1 e0 e1 : Int) : Part :=
  let io := p.ioOf n i0 i1 e0 e1
  let r := p.rail n
  let was := p.flag RA_STAT.ARMED n
  let p := p.modRail n fun r => { r with
    intent := r.intent.map fun t =>
      if t.tc * 32 < r.lastSt then { t with ioAtCapture := some (t.ioAtCapture.getD io) } else t }
  let arrived := match p.get RA_STAT.INTENT n, (p.rail n).intent with
    | 1, some t =>
      (match t.ioAtCapture with
       | some i => decide (((t.step.natAbs : Nat) : Rat) / 8 ≤ (t.step.sign : Rat) * (io - i))
       | none => false)
    | _, _ => false
  let b := p.betaAt n (if p.get RA_STAT.INTENT n = 2 then (r.lastSt : Rat) + p.tctlSt n else (r.lastSt : Rat))
  let p := p.when arrived fun q =>
    ((q.set RA_STAT.INTENT 2 n).event RA_STAT.ARRIVE_EV RA_EVCNT.ARRIVE_CNT n).followPrep n false
  let slope := if was then r.ioSlope + (io - r.ioPrev - r.ioSlope) / 4 else 0
  let p := p.modRail n fun r => { r with beta := b, ioPrev := io, ioSlope := slope }
  p.when (p.get RA_STAT.INTENT n == 2 && !arrived && decide (b = 0)) fun q => q.endIntent n

/-- The run-ahead work of a real sample after its native duty `d`: arming and the rebuild (R246 to R253). A compare that fails
in a speculative step is a fault of the serving slice, and its entry is not held (R250). -/
def Part.raBuild (p : Part) (n s : Nat) (i0 i1 e1 xc d : Int) (spec : List Bool) : Part × Bool :=
  let was := p.flag RA_STAT.ARMED n
  let runs := p.raRuns n
  let cond := p.armCond n (i1 - i0) xc
  let armed := runs && (cond || was)
  let p := (p.modRail n fun r => { r with raIdle := if cond then 0 else r.raIdle + 1 }).put RA_STAT.ARMED armed n
  let good := (spec.takeWhile id).length
  if armed then (p.rebuild n s i0 i1 e1 d (if good < spec.length then good else p.dEff n + 1),
    decide (good < min spec.length (p.dEff n + 1))) else (p, false)

/-! Meanings. -/

/-- DISARM (R246). -/
def execDisarm (rail : Rail) (s : State) : Host.Outcome State Fault Refusal :=
  .next { s with part := s.part.disarm rail }

/-- LIP_STROBE (R266). -/
def execLipStrobe (port : LipPort) (code : Nat) (s : State) : Host.Outcome State Fault Refusal :=
  .next { s with part := s.part.lipStrobe port code }

/-- INTENT_MISSED (R269). -/
def execIntentMissed (rail : Rail) (s : State) : Host.Outcome State Fault Refusal :=
  .next { s with part := s.part.intentMissed rail }

/-- PREP_DONE (R275). -/
def execPrepDone (rail : Rail) (s : State) : Host.Outcome State Fault Refusal :=
  .next { s with part := s.part.prepDone rail }

end Sys2Proof.Machine
end

