-- ==== Sys2Proof/Machine/FabricOps.lean ====
section
/-!
DEFINITION. The phase fabric's shared operations: angles and moves (R310 to R312), reef levels and the active set
(R307, R308), the control grid (R137, R138, R300), retirement (R328), the capacity throttle (R329).
-/

namespace Sys2Proof.Machine

open Reg

/-- The instant of a slot of the control grid (R137, R162, R300): base, offset modulo T_ctl, whole steps. DESIGN CHOICE
(assumption log 55): where T_ctl is no whole number of 25 ps steps, the offset modulo T_ctl is rounded down to a step. -/
def Part.gridAt (p : Part) (n base m k : Nat) : Nat :=
  let per := p.per n
  let ofs := p.get SEN_TIMING.SAMPLE_OFS n
  let q := if per = 0 then 0 else ofs * m / per
  let back := if m = 0 then 0 else (q * per + m - 1) / m
  base + (ofs - back) + (if m = 0 then 0 else k * per / m)

/-- The window length N for a divisor M (R134). -/
def Part.windowOf (p : Part) (n m : Nat) : Nat :=
  let f := (p.per n - 512 * m) / (512 * m)
  let auto := if 16 ≤ f then 16 else if 8 ≤ f then 8 else if 4 ≤ f then 4 else if 2 ≤ f then 2 else 1
  match p.get SEN_CFG.DEC_N n with
  | 1 => 1
  | 2 => min auto 2
  | 3 => min auto 4
  | 4 => min auto 8
  | 5 => min auto 16
  | _ => auto

/-- The first period start at or after an instant, of a phase at an angle (R301, R307). -/
def firstStart (origin per theta t : Nat) : Nat :=
  if t ≤ origin + theta then origin + theta
  else if per = 0 then t else origin + theta + (t - origin - theta + per - 1) / per * per

/-- The angle of the i-th ACTIVE phase (R310). -/
def Part.angle (p : Part) (n i nAct : Nat) : Nat := if nAct = 0 then 0 else i * p.per n / nAct

/-- δ of a move between two angles (R311). -/
def moveDelta (per : Nat) (old new_ : Int) : Int :=
  let h : Int := per / 2
  if per = 0 then 0 else (new_ - old + h) % (per : Int) - h

/-- One phase of a move at instant `c`: a phase that stays ACTIVE shifts the end of its period, or of the next one; an
added phase starts at its angle at least 16 ticks later (R307, R311), and moves until then (R312). -/
def Part.movePhase (p : Part) (n q theta c : Nat) (added : Bool) : Part :=
  let per := p.per n
  let toff := p.get FAB_PWM.TOFF_MIN n
  let origin := (p.rail n).originSt
  p.modPh q fun x =>
    if added then
      { x with theta := theta, next := firstStart origin per theta (c + 512), late := 0, moving := true, pulse := false,
               offered := false, due := none, judged := true, incCnt := 0, actPeriods := 0 }
    else
      let cur : Int := (x.theta : Int) - x.late
      let d := moveDelta per cur theta
      if d = 0 then { x with theta := theta, late := 0, moving := true }
      else
        let end_ : Int := (x.next : Int) + d
        if end_ < (c : Int) + 512 ∨ end_ < (x.startSt : Int) + x.onSt + toff then
          { x with theta := theta, late := d, moving := true }
        else { x with theta := theta, late := 0, next := end_.toNat, moving := true }

/-- MOVING of a rail follows its phases (R312). -/
def Part.showMoving (p : Part) (n : Nat) : Part :=
  p.put FAB_STAT.MOVING ((p.active n).any fun q => (p.ph q).moving) n

/-- The trim that an added phase takes and the offset that its preparation gives (R277, R315). -/
def Part.addPhase (p : Part) (n q : Nat) : Part :=
  let p := p.set PH_TRIM.TRIM 0 q
  match (p.rail n).prep.find? fun x => x.phase == q with
  | some x => if 16 ≤ x.count then p.setSat PCS_CAL.OFS (roundDiv x.sum x.count) q else p
  | none => p

/-- When N_act changes under MSEL = 5, T_ctl changes at the next start of a switching period (R138, R298, R322). -/
def Part.followM (p : Part) (n : Nat) : Part :=
  let m := p.mOf n (p.active n).length
  let r := p.rail n
  if (match r.pendM with | some x => x.1 | none => r.divM) = m then p
  else if p.rst n == .off then (p.modRail n fun r => { r with divM := m, pendM := none }).showDEff n
  else
    let at_ := firstStart r.originSt (p.per n) 0 p.nowSt
    p.modRail n fun r => { r with pendM := if r.divM = m then none else some (m, at_) }

/-- Bring the states of a rail's phases after its committed level (R307, R308), with the move of R311; `was` is the
ACTIVE set before the change. A rail in OFF has no carrier to move (R297). -/
def Part.setActive (p : Part) (n : Nat) (was : List Nat) : Part :=
  let act := p.activeAt n (p.get FAB_STAT.LEVEL n)
  if act = was then p
  else
    let c := p.nowSt
    let p := p.forL (p.avail n) fun q p =>
      if act.contains q then
        (if was.contains q then p else (p.addPhase n q).set PH_STAT.STATE PhState.active.code q)
      else (p.set PH_STAT.STATE PhState.shed.code q).modPh q fun x => { x with pulse := false, offered := false, moving := false }
    let p := if p.rst n == .off then p
      else (act.zipIdx).foldl (fun p x => p.movePhase n x.1 (p.angle n x.2 act.length) c (!was.contains x.1)) p
    (p.showMoving n).followM n

/-- The rail takes START_LVL, on leaving OFF and for a ramp (R321, R340). -/
def Part.startLevel (p : Part) (n : Nat) : Part :=
  (p.set FAB_STAT.LEVEL (min (p.get FAB_REEF.START_LVL n) (p.get FAB_REEF.LMAX n)) n).setActive n (p.active n)

/-- Commit a reef level (R277, R319, R320). -/
def Part.commitLevel (p : Part) (n c : Nat) : Part :=
  let lc := p.get FAB_STAT.LEVEL n
  let p := (p.set FAB_STAT.LEVEL c n).setActive n (p.active n)
  let p := p.modRail n fun r => { r with addRun := [], shedDwellSt := none, burstDwellSt := none }
  let p := if c < lc then p.event FAB_STAT.ADD_EV FAB_EVCNT.ADD_CNT n
    else if lc < c then p.event FAB_STAT.SHED_EV FAB_EVCNT.SHED_CNT n else p
  p.followPrep n false

/-- THR_CAP against the capacity (R329). -/
def Part.capThrottle (p : Part) (n : Nat) : Part :=
  match (p.rail n).iReef with
  | none => p
  | some i =>
    let cap : Rat := (p.cap n : Rat) / 4
    let low : Rat := cap - (p.get FAB_RATE.IPH_RATE n : Rat) / 8
    if cap < i && !p.flag FAB_STAT.THR_CAP n then
      ((p.set FAB_STAT.THR_CAP 1 n).event FAB_STAT.CAPTHR_EV FAB_EVCNT.CAPTHR_CNT n).thrUpdate
    else if i ≤ low && p.flag FAB_STAT.THR_CAP n then (p.set FAB_STAT.THR_CAP 0 n).thrUpdate
    else p

/-- Show CAP and OC_FAULT_EFF (R329, R348, R433). -/
def Part.showCap (p : Part) (n : Nat) : Part :=
  (p.set FAB_IREEF.CAP (p.cap n / 4) n).set PR_IAVG.OC_FAULT_EFF ((p.ocFaultEff n + 1) / 2) n

/-- Whether a phase lies in a rail that PARKED and WAKE of a resume keep alive (R388, R393). -/
def Part.inPbRail (p : Part) (q : Nat) : Bool :=
  match p.railOf q with
  | some n => p.flag RAIL_CFG.PB_RAIL n
  | none => false

/-- Whether STGENk is high (R309): SOLO or MAIN, and a phase of group k neither UNASSIGNED nor RETIRED on a rail in a state
other than OFF and LATCHED; in PARKED and WAKE of a resume, a phase of group k on a parked-burst rail (R393). -/
def Part.stgen (p : Part) (k : Nat) : Bool :=
  if p.dev == .parked || p.dev == .wakeResume then (List.range 8).any fun i => p.inPbRail (8 * k + i)
  else
    (p.role == .solo || p.role == .main) && (List.range 8).any fun i =>
      let q := 8 * k + i
      (p.pst q == .active || p.pst q == .shed) &&
        match p.railOf q with
        | some n => p.rst n != .off && p.rst n != .latched
        | none => false

/-- A stage fault assertion ends at once when its STGEN falls (R443). -/
def Part.sfltFollow (p : Part) : Part :=
  if p.get PROT_SFLT.SFLT_LVL = 0 then p
  else p.forN 8 fun k q => if q.bit PROT_SFLT.SFLT_LVL k && !q.stgen k then q.clearBit PROT_SFLT.SFLT_LVL k else q

/-- The phases of a rail whose retirement is decided, with their causes. -/
def Part.pendingRetire (p : Part) (n : Nat) : List (Nat × Nat) :=
  (p.range n).filterMap fun q => (p.ph q).retirePend.map fun c => (q, c)

/-- A phase is RETIRED: state, cause, flag (R307, R328). -/
def Part.markRetired (p : Part) (q cause : Nat) : Part :=
  let p := match p.railOf q with
    | some n => p.latchIout n 3
    | none => p
  (((p.set PH_STAT.STATE PhState.retired.code q).set PH_STAT.RET_CAUSE cause q).event PH_STAT.RETIRE_EV
    PH_EVCNT.RETIRE_CNT q).modPh q fun x => { x with
      retirePend := none, pulse := false, offered := false, moving := false, due := none, judged := true }

/-- Retire phases of a rail at one instant (R307, R327, R328, R335): states, causes and flags, one move of the reduced
set, the lowered levels, a service cause and a class C record for each; a stage fault whose STGEN falls ends (R443). -/
def Part.retireAll (p : Part) (n : Nat) (l : List (Nat × Nat)) : Part :=
  let was := p.active n
  let p := (l.foldl (fun p x => p.markRetired x.1 x.2) p).sfltFollow
  let p := (((p.setActive n was).followM n).showCap n).capThrottle n
  l.foldl (fun p x => (p.raiseCause 0 x.1).record 0x02 x.2 .c (some n) (some x.1)) p

/-- Retire every phase of a rail whose retirement is decided (R327). -/
def Part.retirePending (p : Part) (n : Nat) : Part :=
  if (p.pendingRetire n).isEmpty then p else p.retireAll n (p.pendingRetire n)

/-- No phase of a rail offers its pattern until its next period start (R798). -/
def Part.noOffer (p : Part) (n : Nat) : Part :=
  p.forL (p.range n) fun q p => p.modPh q fun x => { x with offered := false, pulse := false }

end Sys2Proof.Machine
end

