-- ==== Sys2Proof/Machine/RailCtl.lean ====
section
/-!
DEFINITION. Rail control's shared operations: the rail states of R360 with everything that entering and leaving them
does, the on request, the commanded voltage, power good, and the end of an exchange (R205 to R221), which a rail's
entry to OFF completes.
-/

namespace Sys2Proof.Machine

open Reg

/-! Power good, set-point. -/

/-- PGn falls (R377); PG_EV for causes other than OFF_PEND or ON_REQ = 0. -/
def Part.pgLow (p : Part) (n : Nat) (ev : Bool) : Part :=
  if p.flag RAIL_STATUS.PG n then
    (p.set RAIL_STATUS.PG 0 n).when ev fun q => q.event RAIL_STATUS.PG_EV RAIL_EVCNT.PG_CNT n
  else p

/-- SLEWING reads 1 while V_SP differs from V_cmd (R366). -/
def Part.showSlew (p : Part) (n : Nat) : Part :=
  p.put RAIL_STATUS.SLEWING (p.get RAIL_VSP.VALUE n != p.get RAIL_VCMD.VALUE n) n

/-- Bring V_cmd, VMAX_CLAMP and SLEWING after their sources (R362, R365, R366); a slew that starts squashes run-ahead
(R260), a change of V_cmd takes a rail out of BURST (R387). -/
def Part.showCmd (p : Part) (n : Nat) : Part :=
  let clamp := decide (p.vMax n < p.vSource n)
  let p1 := (p.set RAIL_VCMD.VALUE (p.vCmd n) n).put RAIL_STATUS.VMAX_CLAMP clamp n
  let p2 := p1.when (clamp && !p.flag RAIL_STATUS.VMAX_CLAMP n) fun q =>
    (q.event RAIL_STATUS.VMAX_EV RAIL_EVCNT.VMAX_CNT n).latchVout n 3
  let p3 := p2.when (p.rst n == .burst && p.get RAIL_VCMD.VALUE n != p1.get RAIL_VCMD.VALUE n) fun q =>
    q.modRail n fun r => { r with pendBurst := true }
  let p4 := p3.showSlew n
  p4.when (p.rst n == .regulate && !p.flag RAIL_STATUS.OFF_PEND n && p4.flag RAIL_STATUS.SLEWING n &&
    !p.flag RAIL_STATUS.SLEWING n) fun q => q.squash n .other

/-- Set V_SP of a rail, UQ8.16 (R366, R413). -/
def Part.setVsp (p : Part) (n v : Nat) : Part :=
  ((p.modRail n fun r => { r with vspAcc := v * 256 }).set RAIL_VSP.VALUE v n).showSlew n

/-! Rail states. -/

/-- The probe starts afresh, or stops (R151 to R153); the DAC keeps the dither of an open window until its next instant
(R132, R160). -/
def Part.probeFor (p : Part) (n : Nat) (old new_ : RailState) : Part :=
  if new_.probing && !old.probing then p.modRail n fun r => { r with lfsr := n + 1, probeTerms := [] }
  else if !new_.probing then
    ((p.modRail n fun r => { r with probeTerms := [] }).set SEN_STAT.PROBE_VALID 0 n).set SEN_STAT.PROBE_ABSENT 0 n
  else p

/-- d_PB in Q1.23 (R397). -/
def Part.dPb (p : Part) (n : Nat) : Int :=
  if p.get RAIL_PB.PB_PER n = 0 then 0 else roundDiv (p.get RAIL_PB.PB_TON n * 2 ^ 23 : Nat) (p.get RAIL_PB.PB_PER n)

/-- The length of a pulse period of the parked-burst generator in 25 ps steps (R389, R409). -/
def Part.pbPer (p : Part) (n : Nat) : Nat := max 2 (p.get RAIL_PB.PB_PER n) * 10000

/-- The pulses of a burst of the generator (R389, R409). -/
def Part.pbPulses (p : Part) (n : Nat) : Nat := max 1 (p.get RAIL_PB.PB_PULSES n)

/-- The on-time of a pulse of the generator in 25 ps steps (R389, R409). -/
def Part.pbOn (p : Part) (n : Nat) : Nat := max 1 (p.get RAIL_PB.PB_TON n) * 10000

/-- The pulse of the running burst that phase `q` carries at an instant (R389): its number and the instant of its rising
edge. Pulses go round the non-retired phases of the rail from the lowest-numbered on. -/
def Part.pbPulse (p : Part) (n q t : Nat) : Option (Nat × Nat) :=
  let r := p.rail n
  let i := (t - r.pbStartSt) / p.pbPer n
  let l := p.avail n
  if r.pbOwns && r.pbBursting && decide (r.pbStartSt ≤ t) && decide (i < p.pbPulses n) && l[i % l.length]? == some q then
    some (i, r.pbStartSt + i * p.pbPer n)
  else none

/-- The first slot of the control grid of a rail at or after now. -/
def Part.nextSlot (p : Part) (n : Nat) : Nat :=
  let r := p.rail n
  let per := p.per n
  let k0 := if per = 0 then 0 else (p.nowSt - r.baseSt) * r.divM / per
  ((List.range 4).find? fun i => decide (p.nowSt ≤ p.gridAt n r.baseSt r.divM (k0 - 1 + i))).elim k0 (k0 - 1 + ·)

/-- The t_k that a rail's grid gives next: the slot that its next sample closes, in a gap the first from now on. -/
def Part.nextTk (p : Part) (n : Nat) : Nat :=
  let r := p.rail n
  p.gridAt n r.baseSt r.divM (if r.gap then p.nextSlot n else r.kIdx)

/-! The monitors of the parked-burst rails. -/

/-- The state of window monitor `m`. -/
def Part.mon (p : Part) (m : Nat) : MonCore := nth p.mons m {}

/-- The parked-burst rail that a monitor serves (R388). -/
def Part.pbRailOf (p : Part) (m : Nat) : Option Nat :=
  (List.range 8).find? fun n => p.flag RAIL_CFG.PB_RAIL n && p.get RAIL_PBMON.PB_MON n == m

/-- The interval of a sampled mode of 64 × 2^N AON periods, N from 0 to 10, in 25 ps steps (R503, R528). -/
def winSteps (n : Nat) : Nat := 64 * 2 ^ min n 10 * 10000

/-- A monitor's own interval (R503). -/
def Part.winLenOwn (p : Part) (m : Nat) : Nat := winSteps (p.get MON_CFG.N m)

/-- How a monitor runs outside PARKED (R501 to R503): 0 off, 1 continuous, 2 sampled. -/
def Part.monRuns (p : Part) (m : Nat) : Nat :=
  match p.get MON_CFG.MODE m with
  | 1 => 1
  | 2 => 2
  | _ => 0

/-- A monitor that ran in PARKED goes over to its own mode and grid (R501, R503). -/
def Part.monOwn (p : Part) (m : Nat) : Part :=
  let same : Bool := match p.pbRailOf m with
    | some n => winSteps (p.get RAIL_PBMON.PB_TICK n) == p.winLenOwn m
    | none => true
  { p with mons := upd p.mons m fun x =>
      if p.monRuns m == 2 && same then { x with runs := 2 } else { x with runs := p.monRuns m, begSt := p.clockSt, count := 0 } }

/-- The parked-burst generator gives its rail up (R395): its monitor goes over to its own mode. -/
def Part.pbRelease (p : Part) (n : Nat) : Part :=
  if (p.rail n).pbOwns then
    (p.modRail n fun r => { r with pbOwns := false, pbBursting := false, pbSeen := [], pbTrunc := none }).monOwn
      (p.get RAIL_PBMON.PB_MON n)
  else p

/-- The hand-over from the parked-burst generator begins (R396, R397): the converters restart, and the generator emits no
further burst. -/
def Part.pbHandOn (p : Part) (n : Nat) : Part :=
  if (p.rail n).pbOwns && (p.rail n).pbStage == 0 then
    p.modRail n fun r => { r with pbStage := 1, gap := false, dutyCom := some (p.dPb n), kIdx := p.nextSlot n }
  else p

/-- The length of the low time of LOW_THEN_TRISTATE in 25 ps steps (R437, R463). -/
def Part.lowLen (p : Part) (n : Nat) : Nat := orDefault (p.get PR_SC.OV_LOW_T n) 1 * 4000

/-- LOW_THEN_TRISTATE drives the phases of a rail low (R437), whatever state the rail goes to (rows 5 and 6 of R20). -/
def Part.lowing (p : Part) (n : Nat) : Bool :=
  (p.rail n).safeAct == some true && decide (p.nowSt < (p.rail n).lowSt + p.lowLen n)

/-- A class A action begins (R418, R437): true drives low first; a low time that runs goes on. -/
def Part.takeAct (p : Part) (n : Nat) (act : Option Bool) : Part :=
  if p.lowing n then p
  else p.modRail n fun r => { r with safeAct := act, lowSt := if act == some true then p.nowSt else r.lowSt }

/-- A rail enters a state (R360): what every entry does to run-ahead, power good, the probe, the phases and the device
state. `pgEv` says whether a fall of PGn is an event. A rail that leaves BURST while the parked-burst generator owns it is
handed over as at a trip where its phases may still switch (R397; assumption log 29). -/
def Part.setRst (p : Part) (n : Nat) (st : RailState) (pgEv : Bool := true) : Part :=
  let old := p.rst n
  let p := p.when (old == .regulate && st != .regulate) fun q =>
    ((q.squash n .other).set RA_STAT.ARMED 0 n).modRail n fun r => { r with raIdle := 0 }
  let p := p.set RAIL_STATUS.STATE st.code n
  let good := fun (x : RailState) => x == .regulate || x == .burst
  let p := p.when (good old && !good st) fun q => q.pgLow n pgEv
  let p := p.when (st != .burst) fun q => if st.switching then q.pbHandOn n else q.pbRelease n
  let stay := good old && good st
  let p := (p.probeFor n old st).modRail n fun r => { r with
    kIdx := if r.gap then p.nextSlot n else r.kIdx
    entrySt := p.nowSt, waitSt := p.nowSt, clrSt := if stay then r.clrSt else p.nowSt
    pgBad := if stay then r.pgBad else 0, pgSt := if stay then r.pgSt else none
    gap := false, burstFirst := false, shedDwellSt := none, burstDwellSt := none, addRun := [], pendBurst := false
    safeAct := if st == .hiccup || st == .latched || p.lowing n then r.safeAct else none
    trkSinceSt := if st == .rampUp then r.trkSinceSt else none }
  let p := p.when (st != .rampUp) fun q => q.set PR_STAT.TRK_RUN 0 n
  let p := p.when (!st.switching) fun q => q.noOffer n
  (p.when (st != .rampUp) fun q => q.set RAIL_STATUS.OPEN_SEG 0 n).sfltFollow

/-- OFF_PEND of a rail (R360): the turn-off delay starts, and the power-good conditions hold no longer (R376). -/
def Part.pendOff (p : Part) (n : Nat) : Part :=
  (p.set RAIL_STATUS.OFF_PEND 1 n).modRail n fun r => { r with pendSt := p.nowSt, pgSt := none }

/-- A condition that a HICCUP wait counts from has cleared (R423): the wait counts from now. -/
def Part.waitCleared (p : Part) (n f : Nat) : Part :=
  if (p.rail n).waitClear.contains f then
    p.modRail n fun r => { r with waitClear := r.waitClear.filter (· != f), waitSt := p.nowSt }
  else p

/-- The device follows its rails between READY and RUN (R69); an entry to RUN from READY is no resume (R115). -/
def Part.devFollow (p : Part) : Part :=
  match p.dev with
  | .ready => if p.anyRailOn then { p.set SYS_STATE.RESUMED 0 with dev := .run } else p
  | .run => if p.anyRailOn then p else { p with dev := .ready }
  | _ => p

/-- End current-hold without its response (R452). -/
def Part.clearHold (p : Part) (n : Nat) : Part := (p.modRail n fun r => { r with curHold := none }).set PR_STAT.CH_ACT 0 n

/-- A rail enters LATCHED or HICCUP (R360, R418, R422). -/
def Part.enterEnd (p : Part) (n : Nat) (e : EndState) (act : Option Bool) : Part :=
  let p := ((p.clearHold n).takeAct n act).modRail n fun r => { r with softStop := none, pendSoft := none }
  let p := p.modRail n fun r => { r with prebiasJ := 0, prebiasDone := !p.flag RAIL_CFG.PREBIAS_EN n }
  match e with
  | .latched => p.setRst n .latched
  | .hiccup => p.setRst n .hiccup

/-- The record of an entry to LATCHED that follows its detection (R426). -/
def Part.latchRecord (p : Part) (n : Nat) (x : SoftStop) : Part :=
  p.when (x.ends == .latched) fun q => q.record x.src x.code (if x.openLoop then .a else .b) (some n) x.unit 1 true

/-! The end of an exchange. -/

/-- BUSY of ENG_XSTAT (R236). -/
def Part.showBusy (p : Part) : Part := p.put ENG_XSTAT.BUSY (p.eng.cur.isSome || !p.eng.waiting.isEmpty)

/-- The code of an exchange kind in ENG_XSTAT.OP (R236). -/
def ExchKind.op : ExchKind → Nat
  | .swap => 1 | .timing => 2 | .replace => 5 | .rotate => 6

/-- A firmware request ends (R236). -/
def Part.xdone (p : Part) : Part := p.event ENG_XSTAT.XDONE_EV ENG_EVCNT1.XDONE_CNT

/-- Show the result of an exchange or request (R236). -/
def Part.xresult (p : Part) (op rail slice result : Nat) : Part :=
  (((p.set ENG_XSTAT.OP op).set ENG_XSTAT.RAIL rail).set ENG_XSTAT.SLICE slice).set ENG_XSTAT.RESULT result

/-- The exchange that runs ends with a result; its slices stand as the caller left them. -/
def Part.endExch (p : Part) (x : Exch) (result : Nat) : Part :=
  let p := (p.modEng fun e => { e with cur := none }).xresult x.kind.op x.rail x.inc result
  (p.when x.fw Part.xdone).showBusy

/-- The incoming slice returns to OPEN, unassigned (R195). -/
def Part.freeIncoming (p : Part) (x : Exch) : Part :=
  if p.sst x.inc == .failed then p else (p.setSlice x.inc .open_).set SLICE_STATE.ASSIGNED 0 x.inc

/-- The incoming slice serves the rail from now on (R219 step 7, R221). -/
def Part.serveWith (p : Part) (x : Exch) : Part :=
  let st : SliceState := if p.rst x.rail == .off then .open_ else if p.shadowing then .track else .drive
  let p := (((p.setSlice x.inc st).set SLICE_STATE.ASSIGNED 1 x.inc).set SLICE_STATE.RAIL x.rail x.inc).set
    SLICE_STATE.TIMING x.timing x.inc
  let p := p.when x.outHealthy fun q => (q.setSlice x.outSlice .open_).set SLICE_STATE.ASSIGNED 0 x.outSlice
  let p := (p.set RAIL_ENGINE.SLICE x.inc x.rail).set RAIL_ENGINE.TIMING x.timing x.rail
  ((p.keepSet x.rail x.inc).bump RAIL_ENGINE.HO_CNT x.rail).modRail x.rail fun r => { r with repeatLast := false }

/-- A rotation step that fell due at a time has waited longer than 2 × ROT_INT (R218). -/
def Part.waitedLong (p : Part) (due : Nat) : Bool := decide (due + 2 * p.get ENG_ROT.ROT_INT * tickMs < p.tb)

/-- The test of the rotation step in progress begins: keep whether the step had waited too long (R218). -/
def Part.rotLate (p : Part) : Part :=
  p.modEng fun e => { e with rotLate := match e.rotSlice with | some r => p.waitedLong r.2 | none => false }

/-- The rotation step in progress waits again, before the others; at most nine steps wait (R216, R217). -/
def Part.rotBack (p : Part) : Part :=
  p.modEng fun e => { e with
    rotDue := ((match e.rotSlice with | some r => [r.2] | none => []) ++ e.rotDue).take 9, rotSlice := none }

/-- Whether a step has waited longer than 2 × ROT_INT: one that waits, or whose exchange does, until now; one whose test
runs, until the test began (R218). -/
def Part.anyOverdue (p : Part) : Bool :=
  p.eng.rotDue.any p.waitedLong ||
    (match p.eng.rotSlice with
     | some r => if p.sst r.1 == .test then p.eng.rotLate else p.waitedLong r.2
     | none => false)

/-- OVERDUE clears once the test of every step that waited too long has ended (R218). -/
def Part.overdueClear (p : Part) : Part :=
  if p.flag ENG_ROT.OVERDUE && !p.anyOverdue then (p.set ENG_ROT.OVERDUE 0).overdueCause else p

/-- The rotation step in progress ends (R217, R218). -/
def Part.rotEnd (p : Part) : Part := (p.modEng fun e => { e with rotSlice := none }).overdueClear

/-- A rotation exchange that freed its slice starts the slice's test (R216). -/
def Part.testFreed (p : Part) (x : Exch) : Part :=
  if x.kind == .rotate && x.outHealthy then (p.setSlice x.outSlice .test).rotLate else p

/-- The exchange completes: the incoming slice serves, the result is shown (R219, R221). -/
def Part.completeExch (p : Part) (x : Exch) (result : Nat) : Part := ((p.serveWith x).endExch x result).testFreed x

/-- The exchange in progress on a rail completes idle (R221). -/
def Part.idleExch (p : Part) (n : Nat) : Part :=
  match p.eng.cur with
  | some x => if x.rail = n then p.completeExch x 2 else p
  | none => p

/-- A test in a slice is aborted for a request: NOT_RUN (R195, R207, R585, R586). -/
def Part.abortTest (p : Part) (s : Nat) : Part :=
  if p.sst s == .test then
    (((p.set IF_SLICE.S 4 s).event IF_STAT.NOTRUN_EV IF_EVCNT.NOTRUN_CNT).setSlice s .open_).rotEnd
  else p

/-! Entering and leaving OFF. -/

/-- A rail enters OFF (R360): the level, the trims, the counts and the pending responses cleared, retirements that wait
carried out, the serving slice back to OPEN, an exchange completed. -/
def Part.enterOff (p : Part) (n : Nat) (pgEv : Bool := true) : Part :=
  if p.rst n == .off then p
  else
    let p := (p.clearHold n).setRst n .off pgEv
    let p := p.modRail n fun r => { r with
      softStop := none, pendSoft := none, waitClear := [], dutyCom := none, dutyOld := none, dutyShadow := none,
      repeatLast := false }
    let p := (((p.set RAIL_STATUS.OFF_PEND 0 n).set PR_STAT.HIC_CNT 0 n).set RAIL_AVS.AVS_VALID 0 n).setVsp n 0
    let p := p.set FAB_STAT.LEVEL 0 n
    let p := p.forL (p.avail n) fun q p => p.set PH_STAT.STATE PhState.active.code q
    let p := p.forL (p.range n) fun q p => (p.set PH_TRIM.TRIM 0 q).modPh q fun x => { x with moving := false }
    let p := (p.set FAB_STAT.MOVING 0 n).retirePending n
    let p : Part := match p.servingOf n with
      | some s => if p.sst s == SliceState.drive || p.sst s == SliceState.track then p.setSlice s SliceState.open_ else p
      | none => p
    (((p.idleExch n).followM n).showCmd n).devFollow

/-- The carrier origin of a rail that leaves OFF (R297). -/
def Part.originFrom (p : Part) (n : Nat) : Nat :=
  let t := p.nowSt + 80 * 32
  if p.flag FAB_CFG.ALIGN n && p.per n != 0 then
    t + (((p.get FAB_PHASE.CARRIER_PH n : Int) - t) % (p.per n : Int)).toNat
  else t

/-- The serving slice of a rail that leaves OFF drives, or tracks on a shadowing MIZZEN; a test in it is aborted
(R195, R223). -/
def Part.wakeSlice (p : Part) (n : Nat) : Part :=
  match p.servingOf n with
  | some s =>
    let p := p.abortTest s
    p.setSlice s (if p.shadowing then SliceState.track else SliceState.drive)
  | none => p

/-- What every entry to DELAY_ON does (R360, R368, R371, R431, R432). -/
def Part.enterDelayOn (p : Part) (n : Nat) : Part :=
  let p := p.setRst n .delayOn
  let p := (p.setVsp n 0).modRail n fun r => { r with
    illf := 0, iAvg := 0, ocArmed := true, prebiasJ := 0, prebiasDone := !p.flag RAIL_CFG.PREBIAS_EN n }
  ((p.set RAIL_ILLF.I_LLF 0 n).set PR_IAVG.I_AVG 0 n).set RAIL_STATUS.LL_CLAMP 0 n

/-- A rail leaves OFF for DELAY_ON (R297, R307, R321, R360): carrier origin, control grid, level, coefficient set,
serving slice. DESIGN CHOICE (assumption log 47): the spec has no t_(−1), so for window 0 the DAC and SENn_SPDAC stand as the
rail's last run left them (R132, R164). -/
def Part.leaveOff (p : Part) (n : Nat) : Part :=
  let o := p.originFrom n
  let lvl := min (p.get FAB_REEF.START_LVL n) (p.get FAB_REEF.LMAX n)
  let p := p.set FAB_STAT.LEVEL lvl n
  let act := p.activeAt n lvl
  let p := p.forL (p.avail n) fun q p => p.set PH_STAT.STATE (if act.contains q then 1 else 2) q
  let m := p.mOf n act.length
  let p := p.modRail n fun r => { r with
    originSt := o, baseSt := o, kIdx := 0, divM := m, pendM := none, lastSt := o, samples := 0, windowN := p.windowOf n m,
    iReef := none, ovRun := 0, uvRun := 0, sigPrev := false, ePrev := 0, ePrev2 := 0, ifPrev := 0, ifPrev2 := 0, frozenRun := 0,
    dutyCom := none, dutyOld := none, dutyShadow := none, prevQ := none, prevSign := 0, signNow := 0, vspWin := 0,
    vspPrev := 0, vspPrev2 := 0, dacOfs := 0, dacNext := 0, vHist := [], iHist := [], inHist := [], shortGaps := 0, pbStage := 0, truncSt := none,
    entries := [], ioPrev := 0, ioSlope := 0, uPrev := 0 }
  let p := (act.zipIdx).foldl (fun p x => p.modPh x.1 fun h => { h with
    theta := p.angle n x.2 act.length, next := o + p.angle n x.2 act.length, late := 0, moving := false, pulse := false,
    offered := false, actPeriods := 0 }) (p.set FAB_STAT.MOVING 0 n)
  let p := p.forL (p.range n) fun q p => p.modPh q fun h => { h with
    samples := [], means := [], due := none, judged := true, oorEnd := o, zc := false, nOn := 0
    openCnt := 0, oorCnt := 0, ripCnt := 0, incCnt := 0, scCnt := 0 }
  let p : Part := match p.servingOf n with
    | some s => p.keepSet n s
    | none => p
  ((((p.wakeSlice n).showDEff n).enterDelayOn n).showCmd n).devFollow

/-- A rail enters RAMP_UP at a starting V_SP (R360, R361, R372, R374): cleared histories, open segment. -/
def Part.enterRampUp (p : Part) (n v : Nat) : Part :=
  let p := (p.setRst n .rampUp).startLevel n
  let p := (p.setVsp n v).modRail n fun r => { r with
    vCmdEntry := p.vCmd n, checkpoint := {}, sinceCk := 0, trkSinceSt := none, waitClear := [] }
  let p : Part := match p.servingOf n with
    | some s => p.modSlice s fun x => { x with x := [0, 0, 0, 0], y := [0, 0, 0, 0], h := 0 }
    | none => p
  p.set RAIL_STATUS.OPEN_SEG 1 n

/-- A rail enters RAMP_DOWN (R360, R375): `ss` is the soft stop, none for the ordinary turn-off. -/
def Part.enterRampDown (p : Part) (n : Nat) (ss : Option SoftStop) : Part :=
  let p := (p.setRst n .rampDown (pgEv := ss.isSome)).startLevel n
  p.modRail n fun r => { r with
    softStop := ss, vsp0 := p.get RAIL_VSP.VALUE n * 256, pendSoft := none }

/-- A rail enters REGULATE (R360). -/
def Part.enterRegulate (p : Part) (n : Nat) : Part :=
  let p := (p.setRst n .regulate).showCmd n
  p.when (p.flag RAIL_STATUS.ON_REQ n) fun q => q.set RAIL_STATUS.OFF_PEND 0 n

/-- Whether the VINS converter has given four codes since its start (R439). -/
def Part.vinFresh (p : Part) : Bool := decide (4 ≤ p.vinCodes.length)

/-- The on request of a rail is evaluated (R357, R360). -/
def Part.onEval (p : Part) (n : Nat) : Part :=
  let on := p.onReq n
  let p := p.put RAIL_STATUS.ON_REQ on n
  match p.rst n with
  | .off => if on && p.eligible n && p.vinFresh then p.leaveOff n else p
  | .delayOn => if on then p else p.enterOff n
  | .rampUp | .regulate | .burst =>
    if (p.rail n).curHold.isSome then p
    else if !on then
      if bitOf (p.get RAIL_ONOFF.ON_OFF_CONFIG n) 0 = 1 then
        match (p.rail n).pendSoft with
        | some x => ((p.enterEnd n x.ends none).latchRecord n x).enterOff n
        | none => (p.setRst n .delayOff (pgEv := false)).setVsp n 0
      else if p.rst n != .regulate then
        (((p.pgLow n false).setRst n .regulate).pendOff n).showCmd n
      else if !p.flag RAIL_STATUS.OFF_PEND n then (p.pgLow n false).pendOff n
      else p
    else if p.rst n == .regulate && p.flag RAIL_STATUS.OFF_PEND n then
      let q := p.set RAIL_STATUS.OFF_PEND 0 n
      q.when (q.flag RAIL_STATUS.SLEWING n) fun q => q.squash n .other
    else p
  | .rampDown =>
    if on && (p.rail n).softStop.isNone && (p.rail n).curHold.isNone then p.enterRampUp n (p.get RAIL_VSP.VALUE n) else p
  | .delayOff => if on && p.eligible n && p.vinFresh then p.enterDelayOn n else p
  | .hiccup | .latched => if on then p else p.enterOff n

/-- Evaluate the on request of every rail; a rail enters no DELAY_ON while an input fault acts on it is judged by the
caller. -/
def Part.onEvalAll (p : Part) : Part := p.forN 8 fun n q => q.onEval n

end Sys2Proof.Machine
end

