-- ==== Sys2Proof/Machine/Protect.lean ====
section
/-!
DEFINITION. The response to faults (R417 to R426, R451, R452, R455), entry to SAFE (R103, R597 to R599), the outcome of
a replacement that finds no spare (R208, R209), and the failure of a slice (R195, R201, R202).
-/

namespace Sys2Proof.Machine

open Reg

/-! Responses. -/

/-- The strength of the response of a fault code (R425): 4 LOW_THEN_TRISTATE, 3 TRISTATE, 2 SOFTSTOP, 1 class B. -/
def Part.rankOf (p : Part) (n f : Nat) : Nat :=
  match p.get PR_RESP.CLASS n (f - 1), p.get PR_RESP.ACTION n (f - 1) with
  | 0, 1 => 4
  | 0, 2 => 2
  | 0, _ => 3
  | 1, _ => 1
  | _, _ => 0

/-- Whether a fault code is an input fault (R423). -/
def isInput (f : Nat) : Bool := f == 11 || f == 12

/-- Whether the HICCUP wait of a fault code counts from its clear (R423, R454). -/
def waitsFromClear (f : Nat) : Bool := f == 3 || f == 5 || f == 10 || f == 11 || f == 12

/-- Whether a fault code calls for LATCHED at a hiccup count (R422, R423). -/
def Part.callsLatch (p : Part) (n f hic : Nat) : Bool :=
  let retry := p.get PR_RESP.RETRY n (f - 1)
  if isInput f then retry == 0 else !(retry == 7 || decide (hic < retry))

/-- The class of a fault code for its record. -/
def Part.classOf (p : Part) (n f : Nat) : RecClass :=
  match p.get PR_RESP.CLASS n (f - 1) with
  | 0 => .a
  | 1 => .b
  | 2 => .c
  | _ => .d

/-- HIC_CNT rises by one, saturating at 7 (R422). -/
def Part.hicUp (p : Part) (n : Nat) : Part := p.bump PR_STAT.HIC_CNT n

/-- The flags byte of a record at an end state (R743). -/
def EndState.flagBits : EndState → Nat
  | .latched => 1
  | .hiccup => 2

/-- The rail states from which a soft stop runs (R360). -/
def RailState.stoppable : RailState → Bool
  | .rampUp | .regulate | .burst | .rampDown => true
  | _ => false

/-- Enter an end state now, with its record (R418, R426): one of the detection, unless it has been written before, and of an
entry to LATCHED always. -/
def Part.endNow (p pre : Part) (n : Nat) (e : EndState) (act : Option Bool) (src code : Nat) (cls : RecClass)
    (unit : Option Nat) (recordNow : Bool := true) : Part :=
  ((p.enterEnd n e act).when (recordNow || e == .latched) fun q =>
    q.record src code cls (some n) unit e.flagBits (e == .latched) (some pre)).onEval n

/-- Carry out a response of a strength with an end state (R418 to R420). -/
def Part.respond (p pre : Part) (n rank : Nat) (e : EndState) (counted : Bool) (src code : Nat) (cls : RecClass)
    (unit : Option Nat) (recordNow : Bool) : Part :=
  let ss : SoftStop := { openLoop := decide (2 ≤ rank), ends := e, counted := counted, src := src, code := code, unit := unit }
  if 3 ≤ rank ∨ !(p.rst n).stoppable then
    p.endNow pre n e (if rank = 4 then some true else if rank = 3 then some false else none) src code cls unit recordNow
  else
    let p := (p.clearHold n).when recordNow fun q => q.record src code cls (some n) unit 0 false (some pre)
    if rank = 2 then
      if (p.rail n).softStop.isSome then p.modRail n fun r => { r with softStop := some ss }
      else p.enterRampDown n (some ss)
    else
      match (p.rail n).softStop with
      | some s0 => p.modRail n fun r => { r with softStop := some { ss with openLoop := s0.openLoop } }
      | none => p.modRail n fun r => { r with pendSoft := some ss }

/-- The combined response of fault codes, the soft stop that runs or is due included (R422, R425). -/
def Part.respondAll (p pre : Part) (n : Nat) (codes : List Nat) (f : Nat) (unit : Option Nat) (recordNow : Bool) : Part :=
  let before := match (p.rail n).softStop with
    | some x => some x
    | none => (p.rail n).pendSoft
  let counted := match before with | some x => x.counted | none => false
  let hic := p.get PR_STAT.HIC_CNT n - b2n counted
  let latch := codes.any (p.callsLatch n · hic) || (match before with | some x => x.ends == .latched | none => false)
  let rank := maxN ((codes.map (p.rankOf n)) ++ (match before with | some x => [if x.openLoop then 2 else 1] | none => []))
  let raise_ := !latch && !counted && codes.any fun c => !isInput c
  let p := (p.when raise_ fun q => q.hicUp n).modRail n fun r => { r with
    respAt := some p.tb, respCounted := counted || raise_ }
  p.respond pre n rank (if latch then .latched else .hiccup) (counted || raise_) 0x01 f (p.classOf n f) unit recordNow

/-- The closed-loop states in which the sense-line rule looks for signatures (R447). -/
def Part.sigState (p : Part) (n : Nat) : Bool :=
  match p.rst n with
  | .regulate => true
  | .rampUp | .rampDown => !p.flag RAIL_STATUS.OPEN_SEG n
  | .burst => !(p.rail n).gap
  | _ => false

/-- Enter current-hold (R451), with the self-fault of a MAIN that has an independent pair (R452). -/
def Part.enterHold (p : Part) (n f : Nat) (iHold : Int) : Part :=
  let last := (p.rail n).dutyCom.getD 0
  let p := (p.modRail n fun r => { r with
    curHold := some { since := p.nowSt, code := f, iHold := iHold, dCh := (last : Rat), pending := [f] } }).set
      PR_STAT.CH_ACT 1 n
  p.when (p.role == .main && p.owner && p.flag PR_SL.INDEP n && p.flag PAIR_STAT.PARTNER_HB) fun q => q.selfFaultNow

/-- Whether a rail is in current-hold for a fault code that starts it (R450). -/
def Part.holdsFor (p : Part) (n f : Nat) : Bool :=
  match (p.rail n).curHold with
  | some h => h.code == f && (f == 8 || f == 9)
  | none => false

/-- A fault of class A or B with the current-hold (R450 to R452): in a hold its response waits unless it ranks above what waits; a
signal fault starts a hold; every other one responds at once. -/
def Part.faultHeld (p pre : Part) (n f : Nat) (cls : RecClass) (unit : Option Nat) (iHold : Int) (noHold : Bool) : Part :=
  match (p.rail n).curHold with
  | some h =>
    if maxN (h.pending.map (p.rankOf n)) < p.rankOf n f then p.respondAll pre n (h.pending ++ [f]) f unit true
    else (p.modRail n fun r => { r with curHold := some { h with pending := h.pending ++ [f] } }).record 0x01 f cls (some n) unit 0
      false (some pre)
  | none =>
    if (f == 8 || f == 9) && p.sigState n && !noHold then
      (p.record 0x01 f cls (some n) unit 0 false (some pre)).enterHold n f iHold
    else p.respondAll pre n [f] f unit true

/-- A fault code detected in the evaluation that took the rail to its end state (R425): the stronger action, LATCHED if it
calls for LATCHED at the count before, and one rise of HIC_CNT for both. -/
def Part.mergeEnd (p pre : Part) (n f : Nat) (cls : RecClass) (unit : Option Nat) : Part :=
  let r := p.rail n
  let latched := p.rst n == .latched
  let latch := latched || p.callsLatch n f (p.get PR_STAT.HIC_CNT n - b2n r.respCounted)
  let raise_ := !latch && !r.respCounted && !isInput f
  let act := match p.rankOf n f with
    | 4 => some true
    | 3 => some (r.safeAct.getD false)
    | _ => r.safeAct
  let p := ((p.when raise_ fun q => q.hicUp n).modRail n fun r => { r with respCounted := r.respCounted || raise_ }).takeAct n act
  if latch && !latched then p.endNow pre n .latched act 0x01 f cls unit
  else p.record 0x01 f cls (some n) unit 0 false (some pre)

/-- A fault code of a rail is detected (R417 to R426, R454, R455). `iHold` is the held current of a current-hold. -/
def Part.fault (p : Part) (n f : Nat) (unit : Option Nat := none) (iHold : Int := 0) (noHold : Bool := false) : Part :=
  let pre := p
  let st := p.rst n
  let same := (p.rail n).respAt == some p.tb
  if st == .off || p.holdsFor n f then p
  else
    let p := p.faultEvent n f
    if st == .latched && !same then p
    else
      let cls := p.classOf n f
      let p := p.protEvent n
      if cls == .d || cls == .c then p.record 0x01 f .d (some n) unit 0 false (some pre)
      else
        let p := (p.modRail n fun r => { r with clrSt := p.nowSt }).sendFault f cls.code (some n)
        let rec_ := fun (q : Part) => q.record 0x01 f cls (some n) unit 0 false (some pre)
        if p.shadowing then rec_ p
        else
          let p := p.when (waitsFromClear f) fun q => q.modRail n fun r => { r with waitClear := r.waitClear ++ [f] }
          if same && (st == .hiccup || st == .latched) then p.mergeEnd pre n f cls unit
          else if st == .hiccup then
            if p.callsLatch n f (p.get PR_STAT.HIC_CNT n) then
              p.endNow pre n .latched ((p.rail n).safeAct) 0x01 f cls unit
            else
              rec_ (p.modRail n fun r => { r with prebiasJ := 0, prebiasDone := !p.flag RAIL_CFG.PREBIAS_EN n })
          else
            p.faultHeld pre n f cls unit iHold noHold

/-- The end of CH_TIME, which counts from the entry to current-hold, applies the pending response (R452, R460). -/
def Part.holdEnd (p : Part) (n : Nat) : Part :=
  match (p.rail n).curHold with
  | some h =>
    let p := p.advanceSt (h.since + clampN 2 20 (p.get PR_SL.CH_TIME n) * 40000)
    (p.clearHold n).respondAll p n h.pending h.code none false
  | none => p

/-- A response outside the fault codes: all phases to tri-state, then LATCHED (R208, R330). -/
def Part.latchTri (p : Part) (n src code : Nat) (unit : Option Nat) : Part :=
  if p.rst n == .off ∨ p.rst n == .latched then p
  else p.endNow p n .latched (some false) src code .a unit

/-! SAFE. -/

/-- Entry to SAFE (R103, R360, R598, R599, R643): the cause, the rails to OFF, the record, FAULT with CODE 16. -/
def Part.enterSafe (p : Part) (cause : Nat) : Part :=
  let p := p.set SYS_STATE.SAFE_CAUSE cause
  let p := p.record 0x06 4 .none_ none none
  let p := { p.set PAIR_STAT.ARMED 0 with dev := .safe, safeAt := p.tb }
  ((p.forN 8 fun n q => q.enterOff n).forN 8 fun n q => q.put RAIL_STATUS.ON_REQ (q.onReq n) n).sendFault 16 4 none

/-- A SAFE reaction with its detail code (R597, R598). -/
def Part.safeReaction (p : Part) (detail : Nat) : Part :=
  let seen := p.set SAFE_DETAIL.DETAIL_SEEN (withBit (p.get SAFE_DETAIL.DETAIL_SEEN) (detail - 1))
  if p.live then
    let q := seen.set SAFE_DETAIL.DETAIL detail
    (q.when (q.role == .main) fun x => x.selfFaultNow).enterSafe 5
  else if p.dev == .safe then
    let old := p.get SAFE_DETAIL.DETAIL
    if old != 0 && p.tb == p.safeAt then seen.set SAFE_DETAIL.DETAIL (min old detail) else seen
  else p

/-! Slices without a spare. -/

/-- A replacement of rail `n` found no spare (R208, R209, R657); `s` is the failed slice. -/
def Part.noSpareAct (p : Part) (n s : Nat) : Part :=
  if p.role == .main && !p.pair.noTakeover then
    p.selfFaultNow.modPair fun x => { x with waitRails := if x.waitRails.contains n then x.waitRails else x.waitRails ++ [n] }
  else
    let p := p.event ENG_EVENT.NOSPARE_EV ENG_EVCNT0.NOSPARE_CNT
    if p.rst n == .off then p.modRail n fun r => { r with noSpare := true }
    else if p.shadowing then p.record 0x03 2 .c (some n) (some s)
    else p.latchTri n 0x03 2 (some s)

/-- Waiting replacements end without a spare when none that is not FAILED is left (R208, R209). -/
def Part.noSpareCheck (p : Part) : Part :=
  if !p.spares.isEmpty then p
  else
    let lost := p.eng.waiting.filter fun (x : Exch) => x.kind == ExchKind.replace
    let p := (p.modEng fun e => { e with waiting := e.waiting.filter fun (x : Exch) => !(x.kind == ExchKind.replace) }).showBusy
    lost.foldl (fun q x => q.noSpareAct x.rail x.outSlice) p

/-- The exchange that runs is preempted (R206, R223): PREEMPTED, its incoming slice back to OPEN; a rotation step waits
again. -/
def Part.preempt (p : Part) (x : Exch) : Part :=
  let p := (p.freeIncoming x).endExch x 5
  p.when (x.kind == .rotate) Part.rotBack

/-- Request a failure replacement of a rail, or request it again as at an instant (R195, R205, R206, R209, R223). -/
def Part.requestReplace (p : Part) (n s timing at_ : Nat) : Part :=
  let x : Exch := { kind := .replace, rail := n, inc := 0, fw := false, timing := timing, outSlice := s, outHealthy := false,
                    dHold := (p.rail n).dutyCom.getD 0, at_ := at_ }
  let p : Part := match p.eng.cur with
    | some c => if c.kind == .replace then p else p.preempt c
    | none => p
  ((p.modEng fun e => { e with waiting := e.waiting ++ [x] }).showBusy).noSpareCheck

/-- A reservation ends (R213). -/
def Part.unreserve (p : Part) (s : Nat) : Part :=
  (p.set SLICE_STATE.RESERVED 0 s).modSlice s fun x => { x with reservedAt := none }

/-- A coefficient swap that waits and names a slice whose reservation has ended ends too, with RESULT = RESERVATION_LOST (R211,
R213, R214, R236; assumption log 50). -/
def Part.dropSwap (p : Part) (s : Nat) : Part :=
  match p.eng.waiting.find? fun (x : Exch) => x.kind == ExchKind.swap && x.inc == s with
  | some x => (((p.modEng fun e => { e with waiting := e.waiting.erase x }).xresult x.kind.op x.rail s 6).xdone).showBusy
  | none => p

/-- A reservation is lost (R213). -/
def Part.loseReservation (p : Part) (s : Nat) : Part :=
  if p.flag SLICE_STATE.RESERVED s then
    let p := p.unreserve s
    ((p.event ENG_EVENT.RES_LOST_EV ENG_EVCNT1.RESLOST_CNT).xresult 3 (p.get ENG_XSTAT.RAIL) s 6).dropSwap s
  else p

/-- A slice enters FAILED (R195): what follows for its reservation, its exchange, the rail it served. -/
def Part.failSlice (p : Part) (s cause : Nat) : Part :=
  let served := p.servedBy s
  let timing := p.get SLICE_STATE.TIMING s
  let testing := p.sst s == .test
  let p := (p.setSlice s .failed).set SLICE_STATE.FAIL_CAUSE cause s
  let p := (p.loseReservation s).set SLICE_STATE.ASSIGNED 0 s
  let p := p.when testing Part.rotEnd
  let held := fun (q : Part) (n : Nat) => (q.squash n .eng).modRail n fun r => { r with repeatLast := true }
  let lost := fun (q : Part) =>
    match served with
    | some n => (held q n).requestReplace n s timing q.nowSt
    | none => q
  let p : Part := match p.eng.cur with
    | some x =>
      if x.inc = s then
        let q := (p.endExch x 7).when (x.kind == .rotate) Part.rotBack
        if x.kind == .replace then q.requestReplace x.rail x.outSlice x.timing x.at_ else q
      else if served = some x.rail && x.outSlice = s then
        ((held p x.rail).when (x.kind == .rotate) Part.rotBack).modEng fun e => { e with
          cur := some { x with kind := .replace, outHealthy := false, dHold := (p.rail x.rail).dutyCom.getD 0,
                               kh := x.kh && !x.resid, resid := false } }
      else lost p
    | none => lost p
  p.noSpareCheck

/-- A lockstep fault of a slice (R195, R199 to R202): the flag, the failure, the class C record and service cause. -/
def Part.lockstepFault (p : Part) (s cause : Nat) : Part :=
  if p.sst s == .failed then p
  else
    let rail := p.servedBy s
    let pre := p
    let p := match rail with
      | some n => p.latchMfr n 3
      | none => p
    let p := (p.event ENG_EVENT.LOCKSTEP_EV ENG_EVCNT0.LOCKSTEP_CNT).failSlice s cause
    (p.raiseCause 2 s).record 0x03 1 .c rail (some s) 0 false (some pre)

/-! Meanings over the responses alone. -/

/-- CURRENT_HOLD_END (R452): CH_TIME has elapsed without a takeover. -/
def execCurrentHoldEnd (rail : Rail) (s : State) : Host.Outcome State Fault Refusal :=
  .next { s with part := s.part.holdEnd rail }

/-- OV_LOW_END (R437): OV_LOW_T after the start of the action the phases tri-state. -/
def Part.ovLowEnd (p : Part) (n : Nat) : Part :=
  let r := p.rail n
  if r.safeAct = some true then
    (p.advanceSt (r.lowSt + p.lowLen n)).modRail n fun r => { r with
      safeAct := if p.rst n == .hiccup || p.rst n == .latched then some false else none }
  else p

/-- OV_LOW_END (R437): the low time is over and the phases tri-state. -/
def execOvLowEnd (rail : Rail) (s : State) : Host.Outcome State Fault Refusal :=
  .next { s with part := s.part.ovLowEnd rail }

/-- RETRY_CLEAR (R424, R463): the rail has held REGULATE or BURST for RETRY_CLR ms without a class A or B event. -/
def Part.retryClear (p : Part) (n : Nat) : Part :=
  let r := p.rail n
  if (p.rst n == .regulate || p.rst n == .burst) && r.curHold.isNone && r.pendSoft.isNone then
    (p.advanceSt (r.clrSt + orDefault (p.get PR_SC.RETRY_CLR n) 1 * 40000000)).set PR_STAT.HIC_CNT 0 n
  else p

/-- RETRY_CLEAR (R424): HIC_CNT returns to 0. -/
def execRetryClear (rail : Rail) (s : State) : Host.Outcome State Fault Refusal :=
  .next { s with part := s.part.retryClear rail }

/-- max(TON_DELAY, 15 µs) in 25 ps steps (R360, R404). -/
def Part.tonDelay (p : Part) (n : Nat) : Nat := max 15 (min 1000000 (p.get RAIL_TONDLY.TIME n)) * 40000

/-- The pre-bias search of a rail runs or is due: in DELAY_ON, or in a HICCUP wait that counts (R371, R423). -/
def Part.searching (p : Part) (n : Nat) : Bool :=
  let r := p.rail n
  (p.rst n == .delayOn || (p.rst n == .hiccup && r.waitClear.isEmpty)) && p.flag RAIL_CFG.PREBIAS_EN n && !r.prebiasDone

/-- The instant at which the search starts: 15 µs before the wait ends (R371). -/
def Part.searchFrom (p : Part) (n : Nat) : Nat :=
  (if p.rst n == .delayOn then (p.rail n).entrySt else (p.rail n).waitSt) + p.tonDelay n - 600000

/-- V_start of a ramp (R372). -/
def Part.vStart (p : Part) (n : Nat) : Nat :=
  min (if p.flag RAIL_CFG.PREBIAS_EN n then p.get RAIL_VPRE.VALUE n else 0) (p.vCmd n)

/-- The HICCUP wait is over (R360, R423): no fault condition that the wait counts from persists and the search ended. -/
def Part.hiccupRetry (p : Part) (n : Nat) : Part :=
  let r := p.rail n
  if p.rst n == .hiccup && r.waitClear.isEmpty && r.prebiasDone then
    let p := p.advanceSt (r.waitSt + p.tonDelay n)
    p.enterRampUp n (p.vStart n)
  else p

/-- HICCUP_RETRY (R423): the rail retries RAMP_UP. -/
def execHiccupRetry (rail : Rail) (s : State) : Host.Outcome State Fault Refusal :=
  .next { s with part := s.part.hiccupRetry rail }

end Sys2Proof.Machine
end

