-- ==== Sys2Proof/Machine/Engine.lean ====
section
/-!
DEFINITION. The exchange control, the reservations and the BIST rotation of the control engine (R199, R205 to R222,
R576), with the meanings of their commands.
-/

namespace Sys2Proof.Machine

open Reg

/-- The key of every keyed command. -/
def keyA5 : Nat := 0xA5
/-- The address of ENG_XREQ (R235). -/
def addrXreq : Nat := 0x22400

/-! Requests. -/

/-- A refused exchange request (R215): its result, XDONE_EV, one refusal. -/
def Part.xrefuse (p : Part) (op result : Nat) : Part :=
  (((p.set ENG_XSTAT.OP op).set ENG_XSTAT.RESULT result).xdone).refuse .pmbus addrXreq

/-- The forerunner rate rule of R222 with R299: T_ctl at the largest M not below 125 ns. -/
def Part.forerunnerOk (p : Part) (n : Nat) : Bool :=
  decide (5000 * p.mOf n (min (p.get RAIL_CFG.PH_COUNT n) 16) ≤ p.per n)

/-- The law fields of a slice break no rule of R222 for a rail it would serve. -/
def Part.lawOk (p : Part) (s : Nat) : Bool :=
  decide (p.get SLICE_DCLAMP.DMIN s < p.get SLICE_DCLAMP.DMAX s) && decide (1 ≤ p.get SLICE_FF.VIN_FLOOR s) &&
    decide (p.get SLICE_FF.VIN_FLOOR s ≤ 80) && decide (p.get SLICE_FF.VIN_NOM s ≠ 0)

/-- What every exchange request checks first (R215). -/
def Part.xreq (p : Part) (op key : Nat) (f : Part → Part) : Part :=
  if key ≠ keyA5 then p.xrefuse op 11
  else if p.flag ENG_XSTAT.BUSY then p.xrefuse op 10
  else f p

/-- A firmware exchange waits for its grant (R205). -/
def Part.enqueue (p : Part) (x : Exch) : Part := (p.modEng fun e => { e with waiting := e.waiting ++ [x] }).showBusy

/-- ENG_XREQ with OP = 1 (R211 to R215). -/
def Part.swapReq (p : Part) (key n s : Nat) : Part :=
  p.xreq 1 key fun p =>
    if p.flag ENG_ROT.OVERDUE then p.xrefuse 1 9
    else if !(decide (s < 9)) || !p.flag SLICE_STATE.RESERVED s || p.rst n == .off || !p.lawOk s then p.xrefuse 1 11
    else
      match p.servingOf n with
      | some o => p.enqueue { kind := .swap, rail := n, inc := s, fw := true, timing := p.get RAIL_ENGINE.TIMING n,
                              outSlice := o, outHealthy := true, at_ := p.nowSt }
      | none => p.xrefuse 1 11

/-- ENG_XREQ with OP = 2 (R192, R215, R222, R794). -/
def Part.timingReq (p : Part) (key n : Nat) (tmode : Bool) : Part :=
  p.xreq 2 key fun p =>
    if !p.railEn n then p.xrefuse 2 11
    else if p.get RAIL_ENGINE.TIMING n = b2n tmode then (p.xresult 2 n (p.get RAIL_ENGINE.SLICE n) 1).xdone
    else if tmode && (p.get RA_CFG.DEPTH n != 0 || !p.forerunnerOk n) then p.xrefuse 2 11
    else
      match p.servingOf n with
      | some o => p.enqueue { kind := .timing, rail := n, inc := 0, fw := true, timing := b2n tmode, outSlice := o,
                              outHealthy := true, at_ := p.nowSt }
      | none => p.xrefuse 2 11

/-- The spares in OPEN that are not reserved, or are. -/
def Part.openSpares (p : Part) (reserved : Bool) : List Nat :=
  p.spares.filter fun s => p.sst s == .open_ && p.flag SLICE_STATE.RESERVED s == reserved

/-- ENG_XREQ with OP = 3 (R211). DESIGN CHOICE (assumption log 51): while OVERDUE is 1 and no spare exists, R211 gives both
results; REFUSED_OVERDUE comes first. -/
def Part.reserveReq (p : Part) (key : Nat) : Part :=
  p.xreq 3 key fun p =>
    if p.flag ENG_ROT.OVERDUE then p.xrefuse 3 9
    else
      match p.openSpares false with
      | s :: _ =>
        (((p.set SLICE_STATE.RESERVED 1 s).modSlice s fun x => { x with reservedAt := some p.tb }).xresult 3
          (p.get ENG_XSTAT.RAIL) s 1).xdone
      | [] => p.xrefuse 3 8


/-- ENG_XREQ with OP = 4 (R213). -/
def Part.releaseReq (p : Part) (key s : Nat) : Part :=
  p.xreq 4 key fun p =>
    if decide (s < 9) && p.flag SLICE_STATE.RESERVED s then
      ((p.unreserve s).xresult 4 (p.get ENG_XSTAT.RAIL) s 1).xdone
    else p.xrefuse 4 11

/-- ENG_XREQ as a register write (R215, R235). -/
def Part.xreqWrite (p : Part) (v : Nat) : Part :=
  let key := bitsOf v 0 8
  let rail := bitsOf v 12 3
  match bitsOf v 8 3 with
  | 1 => p.swapReq key rail (bitsOf v 16 4)
  | 2 => p.timingReq key rail (bitOf v 20 == 1)
  | 3 => p.reserveReq key
  | 4 => p.releaseReq key (bitsOf v 16 4)
  | _ => p.xreq (p.get ENG_XSTAT.OP) key fun q => q.xrefuse (q.get ENG_XSTAT.OP) 11

/-! Grant and hand-over. -/

/-- The priority of an exchange kind (R205). -/
def ExchKind.prio : ExchKind → Nat
  | .replace => 1 | .swap => 2 | .timing => 2 | .rotate => 3

/-- Whether an exchange goes before another one (R205, R223): by priority, by the instant of its request, and of two failure
replacements of one instant that of the lower rail. -/
def Exch.before (y x : Exch) : Bool :=
  decide (y.kind.prio < x.kind.prio) ||
    (y.kind.prio == x.kind.prio && (decide (y.at_ < x.at_) || (y.at_ == x.at_ && y.kind == .replace && decide (y.rail < x.rail))))

/-- The pending exchange of highest priority, the earlier among equals (R205). -/
def bestExch : List Exch → Option Exch
  | [] => none
  | x :: l =>
    match bestExch l with
    | some y => if y.before x then some y else some x
    | none => some x

/-- The incoming slice of an exchange (R206, R207, R795), with the part after a reservation or a test that it ends. -/
def Part.pickSpare (p : Part) (x : Exch) : Option (Nat × Part) :=
  match x.kind with
  | .swap => if p.sst x.inc == .open_ && p.flag SLICE_STATE.RESERVED x.inc then some (x.inc, p.unreserve x.inc) else none
  | .timing | .rotate => ((p.openSpares false).head?).map fun s => (s, p)
  | .replace =>
    match p.openSpares false, p.openSpares true, p.spares.filter fun s => p.sst s == .test with
    | s :: _, _, _ => some (s, p)
    | [], s :: _, _ => some (s, p.loseReservation s)
    | [], [], s :: _ => some (s, p.abortTest s)
    | [], [], [] => none

/-- One replay of a sample on a slice (R175, R219 step 2): its error code, load-line term and V_SP. -/
def Part.replay (p : Part) (s : Nat) (h : Int × Int × Nat) : Part :=
  let i : LawIn := ⟨satS 16 (-(h.1 + h.2.1)), p.gainOf s, p.dffOf s h.2.2, 0⟩
  let o := (p.lawOf s).step i (p.slice s).x (p.slice s).y
  (p.modSlice s fun x => { x with x := o.x, y := o.y }).showLaw s o.yNow o.uls o.dc o.d

/-- The samples that an exchange of a rail replays, oldest first: those after the checkpoint, at most two (R219 step 2). -/
def Part.replays (p : Part) (n : Nat) : List (Int × Int × Nat) :=
  let r := p.rail n
  (r.inHist.take (min 2 r.sinceCk)).reverse

/-- Load the incoming slice and replay (R219 steps 1 and 2). -/
def Part.loadSlice (p : Part) (x : Exch) (s : Nat) : Part :=
  let r := p.rail x.rail
  let p := if x.kind == .swap then p else p.lawLoad s r.coefSet
  let p := (((p.set SLICE_STATE.TIMING x.timing s).set SLICE_STATE.RAIL x.rail s).setSlice s .track).modSlice s fun c =>
    { c with x := r.checkpoint.x, y := r.checkpoint.y, h := 0 }
  (p.replays x.rail).foldl (fun q h => q.replay s h) p

/-- A rotation step waits for the exchange of a slice that serves its rail no longer: the step starts again, with the slice
that R216 then chooses (R216, R217). -/
def Part.stale (p : Part) (x : Exch) : Bool := x.kind == .rotate && p.servingOf x.rail != some x.outSlice

/-- The outgoing slice of an exchange at its grant: the slice that serves the rail then. -/
def Part.aimed (p : Part) (x : Exch) : Exch :=
  if x.kind == .replace then x
  else
    match p.servingOf x.rail with
    | some o => { x with outSlice := o }
    | none => { x with outHealthy := false }

/-- EXCHANGE_GRANT (R205 to R209, R219 to R221). DESIGN CHOICE (assumption log 57): what the compares of the replays show comes
with the rail's next sample. -/
def Part.grant (p : Part) : Part :=
  if p.eng.cur.isSome then p
  else
    match bestExch p.eng.waiting with
    | none => p
    | some x =>
      if p.stale x then (p.modEng fun e => { e with waiting := e.waiting.erase x }).rotBack.showBusy
      else
      match p.pickSpare x with
      | none => p.noSpareCheck
      | some (s, q) =>
        let x' := { p.aimed x with inc := s }
        let q := (q.modEng fun e => { e with waiting := e.waiting.erase x, cur := some x' }).loadSlice x' s
        if q.rst x.rail == .off then q.completeExch x' 2 else q.showBusy

/-- Whether an exchange of a rail skips steps 4 to 6 of the hand-over (R221, R399, R455). -/
def Part.idleHandover (p : Part) (n : Nat) : Bool :=
  p.shadowing || !(p.rst n).stoppable || p.flag RAIL_STATUS.OPEN_SEG n || (p.rail n).curHold.isSome

/-- The hand-over at a commit of the rail (R219 step 7, R221). -/
def Part.handoverCommit (p : Part) (n : Nat) : Part :=
  match p.eng.cur with
  | some x =>
    if x.rail ≠ n then p
    else if x.resid then (p.completeExch x (if x.kind == .replace then 3 else 1)).noSpareCheck
    else if x.kh then (p.completeExch x 2).noSpareCheck
    else p
  | none => p

/-- The largest c of at most a wanted size that keeps four y entries within ±YLIM (R219 step 6, R660). -/
def preloadC (ylim : Int) (ys : List Int) (c : Int) : Int :=
  if 0 ≤ c then ys.foldl (fun a y => min a (max 0 (ylim - y))) c
  else ys.foldl (fun a y => max a (min 0 (-ylim - y))) c

/-- Steps 5 and 6 of the hand-over at sample k_h (R219): `dOut` the outgoing duty, `i` the incoming slice's inputs
without H, `x` and `y` its histories before the sample. The incoming slice ends with its histories after the sample. No rule
states r0 / g for g = 0: a free value (assumption log 6). -/
def Part.handoverSample (p : Part) (n : Nat) (e : Exch) (dOut : Int) (i : LawIn) (xh yh : List Int) : Part :=
  let law := p.lawOf e.inc
  let max_ : Int := p.get RAIL_HANDOVER.HANDOVER_MAX n * 128
  let o := law.step i xh yh
  let mark := fun (q : Part) => q.modEng fun g => { g with cur := some { e with resid := true } }
  if e.kind == .replace then
    let h := clampI (-max_) max_ (e.dHold - o.d)
    let dc := lawDc { i with h := h } o.yNow o.uls
    let d := clampI law.dmin law.dmax dc
    let p := (p.modSlice e.inc fun s => { s with x := o.x, y := o.y, h := h }).modRail n fun r => { r with dutyShadow := some d }
    let p := p.showLaw e.inc o.yNow o.uls dc d
    mark (p.event ENG_EVENT.HOFORCE_EV ENG_EVCNT0.HOFORCE_CNT)
  else
    let r0 := dOut - o.d
    let c := preloadC law.ylim yh (roundQ (p.ratio 0 ((r0 : Rat) * (2 ^ 29 : Nat)) (i.g : Rat)))
    let p := p.tick
    let o' := law.step i xh (yh.map (· + c))
    let r := dOut - o'.d
    let dc := lawDc { i with h := r } o'.yNow o'.uls
    let d := clampI law.dmin law.dmax dc
    if r.natAbs ≤ max_.natAbs then
      mark (((p.modSlice e.inc fun s => { s with x := o'.x, y := o'.y, h := r }).showLaw e.inc o'.yNow o'.uls dc d).modRail n fun q =>
        { q with dutyShadow := some d })
    else
      let p := ((p.showLaw e.inc o'.yNow o'.uls o'.dc o'.d).freeIncoming e).event ENG_EVENT.HOABORT_EV ENG_EVCNT0.HOABORT_CNT
      (p.endExch e 4).when (e.kind == .rotate) Part.rotEnd

/-! Rotation. -/

/-- A slice serves a running rail or an exchange. -/
def Part.busySlice (p : Part) (s : Nat) : Bool := p.sst s == .drive || p.sst s == .track

/-- The slice of the next rotation step: tested longest ago, not FAILED, the lowest number on a tie (R216). -/
def Part.nextTest (p : Part) : Option Nat :=
  let ok := (List.range 9).filter fun s => p.sst s != .failed
  ok.foldl (fun a s => match a with
    | none => some s
    | some b => if (p.slice s).testedAt < (p.slice b).testedAt then some s else some b) none


/-- ROTATION_DUE (R216, R217): every ROT_INT a step falls due; at most nine wait. -/
def Part.rotationDue (p : Part) : Part :=
  if p.live && p.get ENG_ROT.ROT_INT != 0 then
    let due := p.eng.rotNext
    (p.advance due).modEng fun e => { e with
      rotNext := due + p.get ENG_ROT.ROT_INT * tickMs, rotDue := if e.rotDue.length < 9 then e.rotDue ++ [due] else e.rotDue }
  else p

/-- ROTATION_START (R216, R217). -/
def Part.rotationStart (p : Part) : Part :=
  if !p.live || p.eng.rotSlice.isSome then p
  else
    match p.eng.rotDue, p.nextTest with
    | due :: rest, some s =>
      let begun := fun (q : Part) => q.modEng fun e => { e with rotDue := rest, rotSlice := some (s, due) }
      if p.sst s == .open_ && !p.flag SLICE_STATE.RESERVED s then ((begun p).setSlice s .test).rotLate
      else
        match p.servedBy s with
        | some n =>
          if p.busySlice s then
            (begun p).enqueue { kind := .rotate, rail := n, inc := 0, fw := false, timing := p.get RAIL_ENGINE.TIMING n,
                                outSlice := s, outHealthy := true, at_ := p.nowSt }
          else p
        | none => p
    | _, _ => p


/-- The instant at which the oldest step that waits, or whose exchange does, has waited longer than 2 × ROT_INT (R218). -/
def Part.overdueAt (p : Part) : Option Nat :=
  let late := fun (due : Nat) => due + 2 * p.get ENG_ROT.ROT_INT * tickMs + 1
  match p.eng.rotSlice, p.eng.rotDue with
  | some r, l => if p.sst r.1 == .test then l.head?.map late else some (late r.2)
  | none, l => l.head?.map late

/-- OVERDUE (R218): a step has waited longer than 2 × ROT_INT. -/
def Part.overdueSet (p : Part) : Part :=
  match p.overdueAt with
  | some t =>
    if p.flag ENG_ROT.OVERDUE then p
    else (((p.advance t).set ENG_ROT.OVERDUE 1).event ENG_ROT.OVERDUE_EV ENG_ROT.OVERDUE_CNT).overdueCause
  | none => p


/-- The verdict of a run (R572, R573): 1 PASS, 2 FAIL, 3 FAIL_TRUNCATED. -/
def verdictOf (r : RunResult) : Nat :=
  if r.otpError then 2 else if !r.marker || !r.sealOk then 3 else if r.misrOk then 1 else 2

/-- SLICE_TEST_END (R195, R576, R585, R586). -/
def Part.sliceTestEnd (p : Part) (s : Nat) (run : TestRun) : Part :=
  if p.sst s != .test then p
  else
    match run with
    | .aborted => p.abortTest s
    | .done r =>
      let v := verdictOf r
      let p := (p.set IF_SLICE.S v s).modEng fun e => { e with rotSlice := none, testSeq := e.testSeq + 1 }
      let p := p.modSlice s fun x => { x with testedAt := p.eng.testSeq }
      if v = 1 then ((p.setSlice s .open_).bumpWrap IF_PASSCNT.PASS_CNT).overdueClear
      else
        let rail := p.servedBy s
        let p := (p.event IF_STAT.IFFAIL_EV IF_EVCNT.IFFAIL_CNT).failSlice s (if v = 2 then 4 else 5)
        ((p.raiseCause 2 s).record 0x03 (if v = 2 then 3 else 4) .c rail (some s)).overdueClear

/-- DIGEST_CHECK (R199). -/
def Part.digestCheck (p : Part) (s : Nat) (o : DigestOutcome) : Part :=
  if !p.pwmRuns then p
  else
    match o with
    | .equal => p
    | .singleBit => if p.sst s == .failed then p else p.bump SLICE_CHK.ECC_CORR_CNT s
    | .mismatch => p.lockstepFault s 2
    | .doubleBit => p.lockstepFault s 3

/-- LOAD16 (R193, R196, R231): the law field of an index takes VALUE × 2^7 while the slice is in OPEN. -/
def Part.load16 (p : Part) (src : HostSrc) (s value index : Nat) : Part :=
  if p.sst s != .open_ ∨ 10 ≤ index then p.refuse src (0x20048 + s * 0x400)
  else if index = 9 then p.setS SLICE_LSGAIN.LS_GAIN (toS 16 (value % 65536) * 128) s
  else p.setS SLICE_COEF.COEF (toS 16 (value % 65536) * 128) s index

/-- RESERVATION_EXPIRY (R213): 20 ms after the reservation was made. -/
def Part.expire (p : Part) (s : Nat) : Part :=
  if p.flag SLICE_STATE.RESERVED s then
    ((match (p.slice s).reservedAt with | some t => p.advance (t + 20 * tickMs) | none => p).unreserve s).dropSwap s
  else p

/-! Meanings. -/

/-- DIGEST_CHECK (R199). -/
def execDigestCheck (slice : Slice) (outcome : DigestOutcome) (s : State) : Host.Outcome State Fault Refusal :=
  .next { s with part := s.part.digestCheck slice outcome }

/-- LOAD16 (R193). -/
def execLoad16 (slice : Slice) (value index : Nat) (s : State) : Host.Outcome State Fault Refusal :=
  .next { s with part := s.part.byHost fun p => p.load16 .pmbus slice value index }

/-- COEFFICIENT_SWAP (R214). -/
def execCoefficientSwap (key : Nat) (rail : Rail) (slice : Nat) (s : State) : Host.Outcome State Fault Refusal :=
  .next { s with part := s.part.byHost fun p => p.swapReq key rail slice }

/-- TIMING_MOVE (R794). -/
def execTimingMove (key : Nat) (rail : Rail) (tmode : Bool) (s : State) : Host.Outcome State Fault Refusal :=
  .next { s with part := s.part.byHost fun p => p.timingReq key rail tmode }

/-- RESERVE_SPARE (R211). -/
def execReserveSpare (key : Nat) (s : State) : Host.Outcome State Fault Refusal :=
  .next { s with part := s.part.byHost fun p => p.reserveReq key }

/-- RELEASE_RESERVATION (R213). -/
def execReleaseReservation (key slice : Nat) (s : State) : Host.Outcome State Fault Refusal :=
  .next { s with part := s.part.byHost fun p => p.releaseReq key slice }

/-- EXCHANGE_GRANT (R205). -/
def execExchangeGrant (s : State) : Host.Outcome State Fault Refusal := .next { s with part := s.part.grant }

/-- RESERVATION_EXPIRY (R213). -/
def execReservationExpiry (slice : Slice) (s : State) : Host.Outcome State Fault Refusal :=
  .next { s with part := s.part.expire slice }

/-- ROTATION_DUE (R216). -/
def execRotationDue (s : State) : Host.Outcome State Fault Refusal :=
  .next { s with part := s.part.rotationDue }

/-- ROTATION_START (R217). -/
def execRotationStart (s : State) : Host.Outcome State Fault Refusal :=
  .next { s with part := s.part.rotationStart }

/-- OVERDUE (R218). -/
def execOverdue (s : State) : Host.Outcome State Fault Refusal :=
  .next { s with part := s.part.overdueSet }

/-- SLICE_TEST_END (R576). -/
def execSliceTestEnd (slice : Slice) (run : TestRun) (s : State) : Host.Outcome State Fault Refusal :=
  .next { s with part := s.part.sliceTestEnd slice run }

end Sys2Proof.Machine
end

