-- ==== Sys2Proof/Machine/Sample.lean ====
section
/-!
DEFINITION. The control sample of a rail (R127 to R154, R175 to R186, R366 to R387, R431 to R451) and the commit at its
update instant (R187, R257, R374, R451), with the meanings of CONTROL_SAMPLE, COMMIT, TELLTALE_FILTER, OV_EC, UV_EC,
SHORT_AT_START and FROZEN.
-/

namespace Sys2Proof.Machine

open Reg

/-! The window. -/

/-- What a closed decimation window holds (R127, R128, R135): marks, q, e, the latest raw code. -/
structure Window where
  hi : Bool
  lo : Bool
  q : Int
  e : Int
  raw : Int
deriving DecidableEq, Repr

/-- The raw code of a voltage VSENP − VSENN in microvolts against the code that the DAC holds (R127, R129). -/
def rawCode (uv : Int) (dac : Nat) : Int := clampI (-1024) 1023 (roundDiv (uv - (125 * dac : Nat)) 100)

/-- The decimated window (R127, R128, R133, R135): `uv` holds the voltages at t_k − 16 j ticks, j from 0 on, of which the N of
the window count. -/
def Part.window (p : Part) (n : Nat) (uv : List Int) : Window :=
  let r := p.rail n
  let cs := (List.range r.windowN).map fun j => rawCode (nth uv j 0) r.dac
  let q := (16 / r.windowN : Nat) * sumI cs
  let e := roundDiv (p.get SEN_CAL.GTRIM n * (q - p.getS SEN_CAL.OFS n)) 32768 - p.get SEN_CFG.TT_COMP n + 20 * r.signNow
  { hi := cs.contains 1023, lo := cs.contains (-1024), q := q, e := satS 16 e, raw := nth cs 0 0 }

/-- Publish the window (R128, R163, R166). -/
def Part.showWindow (p : Part) (n : Nat) (w : Window) : Part :=
  let p := ((p.setS SEN_ERR.ECODE w.e n).setS SEN_ERR.RAW w.raw n).put SEN_ERR.WSAT (w.hi || w.lo) n
  let p := p.when w.hi fun q => q.event SEN_STAT.SATH_EV SEN_EVCNT.SATH_CNT n
  p.when w.lo fun q => q.event SEN_STAT.SATL_EV SEN_EVCNT.SATL_CNT n

/-- The probe statistic after a window (R152 to R154). -/
def Part.probeStat (p : Part) (n : Nat) (w : Window) : Part :=
  let r := p.rail n
  let clean := !w.hi && !w.lo
  let p := p.modRail n fun r => { r with
    prevQ := if clean && r.signNow != 0 then some w.q else none
    prevSign := r.signNow
    probeTerms := match r.prevQ with
      | some q0 =>
        if clean && r.signNow != 0 && r.prevSign != 0 then (((r.signNow - r.prevSign) * (q0 - w.q)) :: r.probeTerms).take 64
        else r.probeTerms
      | none => r.probeTerms }
  if r.signNow = 0 ∨ !(p.rst n).probing then p
  else
    let terms := (p.rail n).probeTerms
    let pk := satS 16 (sumI terms)
    let valid := decide (64 ≤ terms.length)
    let absent := valid && decide (pk < p.getS SEN_PROBE.PROBE_THR n)
    let was := p.flag SEN_STAT.PROBE_ABSENT n
    let p := ((p.setS SEN_PROBE.PROBE_STAT pk n).put SEN_STAT.PROBE_VALID valid n).put SEN_STAT.PROBE_ABSENT absent n
    p.when (absent && !was) fun q => q.event SEN_STAT.PROBE_EV SEN_EVCNT.PROBE_CNT n

/-- The sign of window `k` and the register after it (R151). -/
def nextSign (k prev : Int) (lfsr : Nat) : Int × Nat :=
  if k % 2 = 1 then (if prev = 0 then 1 else -prev, lfsr)
  else
    let f := (bitOf lfsr 14 + bitOf lfsr 13) % 2
    (if f = 1 then 1 else -1, (lfsr * 2 + f) % 2 ^ 15)

/-- The code of the DAC for the next window, dither excluded, for an SP_k (R371, R384, R385): that of the burst comparator in
a gap, that of the pre-bias search while it runs, BURST_HI above SP_k in a burst. -/
def Part.dacCode (p : Part) (n : Nat) (sp : Int) : Int :=
  let r := p.rail n
  let code := if p.rst n == .burst then
      (if r.gap then
        roundQ ((p.vTargetOf n r.vspWin / 65536 - (p.get RAIL_BURST.BURST_LO n : Rat) / 10000) * 8000 * 4096 / (p.divK n : Rat))
       else sp + p.burstSteps n)
    else if p.searching n && decide (p.searchFrom n ≤ p.nowSt) then ((1600 * (r.prebiasJ + 1) : Nat) : Int)
    else sp
  clampI 1600 20000 code

/-- The DAC takes the code and the sign of the next window (R129 to R132, R151), and SENn_SPDAC shows its SP_k (R164). -/
def Part.nextDac (p : Part) (n : Nat) : Part :=
  let r := p.rail n
  let base := roundDiv (r.vspWin * 500) (p.divK n)
  let sp := clampI 1600 20000 base
  let code := p.dacCode n sp
  let dith := p.flag SEN_CFG.PROBE_EN n && (p.rst n).probing
  let nx := nextSign (r.kIdx : Int) r.signNow r.lfsr
  let sign := if dith then nx.1 else 0
  let p := (p.set SEN_SPDAC.SP_CODE sp.toNat n).put SEN_SPDAC.SP_CLAMP (sp != base) n
  (p.modRail n fun r => { r with
    dac := (code + sign).toNat, dacNext := if p.rst n == .burst then code - sp else 0, signNow := sign
    lfsr := if dith then nx.2 else r.lfsr }).put SEN_SPDAC.DITHER_S (dith && nx.1 == 1) n

/-! Currents. -/

/-- The latest phase sample at or before 40 ticks ahead of an instant in 25 ps steps (R143). DESIGN CHOICE (assumption log 48): a
phase that has no such sample yet counts as 0 A. -/
def PhaseCore.latest (x : PhaseCore) (t : Nat) : Int :=
  match x.samples.find? fun s => decide (s.at_ + 1280 ≤ t) with
  | some s => s.cur
  | none => 0

/-- The period mean at or before 40 ticks ahead of an instant in 25 ps steps (R367). -/
def PhaseCore.meanAt (x : PhaseCore) (t : Nat) : Int :=
  match x.means.find? fun s => decide (s.at_ + 1280 ≤ t) with
  | some s => s.mean
  | none => 0

/-- I_FAST at an instant in 25 ps steps, Q15.8 (R143). -/
def Part.iFastAt (p : Part) (n t : Nat) : Int := satS 23 (sumI ((p.avail n).map fun q => (p.ph q).latest t))

/-- I_M at an instant in 25 ps steps, Q15.8 (R367). -/
def Part.iMAt (p : Part) (n t : Nat) : Int := sumI ((p.avail n).map fun q => (p.ph q).meanAt t)

/-- 2π. -/
def twoPi : Rat := 62831853071795864769252867665590057684 / 10000000000000000000000000000000000000

/-- α of the load-line filter as a rational, held in UQ0.24 (R367). -/
def Part.alpha (p : Part) (n : Nat) : Rat :=
  let pole := clampN 10 2000 (p.get RAIL_LL.LL_POLE n)
  ((2 ^ 24 - expNeg 24 (twoPi * (pole : Rat) * p.tctlUs n / 1000) : Nat) : Rat) / (2 ^ 24 : Nat)

/-- 1 − e^(−x), to 64 fraction bits (R317, R431; assumption log 8). -/
def oneMinusExp (x : Rat) : Rat := ((2 ^ 64 - expNeg 64 x : Nat) : Rat) / (2 ^ 64 : Nat)

/-- The load-line filter after a sample (R367, R369). -/
def Part.loadLine (p : Part) (n : Nat) (iM : Int) : Part :=
  let r := p.rail n
  let v : Rat := r.illf + p.alpha n * ((iM : Rat) / 256 - r.illf)
  let p := (p.modRail n fun r => { r with illf := v }).setSat RAIL_ILLF.I_LLF (roundQ (v * 256)) n
  p.put RAIL_STATUS.LL_CLAMP (p.illfOut n != p.getS RAIL_ILLF.I_LLF n) n

/-- I_REEF after a sample, with the capacity throttle (R317, R329). -/
def Part.reefCurrent (p : Part) (n : Nat) (iM : Int) : Part :=
  let tau := orDefault (p.get FAB_REEF.REEF_TAU n) 1
  let x : Rat := (iM : Rat) / 256
  let v := match (p.rail n).iReef with
    | none => x
    | some i => i + (x - i) * oneMinusExp (p.tctlUs n / (tau : Rat))
  ((p.modRail n fun r => { r with iReef := some v }).set FAB_IREEF.I_REEF (satU 16 (roundQ (v * 2))) n).capThrottle n

/-- The slow overload limit (R431 to R433). -/
def Part.overload (p : Part) (n : Nat) (iM : Int) : Part :=
  let win := clampN 1 1000 (p.get PR_OCCFG.OC_WIN n) * 10
  let r := p.rail n
  let v := r.iAvg + ((iM : Rat) / 256 - r.iAvg) * oneMinusExp (p.tctlUs n / (win : Rat))
  let p := (p.modRail n fun r => { r with iAvg := v }).set PR_IAVG.I_AVG (satU 16 (roundQ (v * 2))) n
  let warn : Rat := (p.get PR_OCLIM.OC_WARN n : Rat) / 2
  let thr : Rat := (p.get PR_OCCFG.OC_THR n : Rat) / 2
  let eff : Rat := (p.ocFaultEff n : Rat) / 4
  let p := if warn ≤ v && !p.flag PR_STAT.OC_WARN_ACT n then
      let pre := p
      ((((p.set PR_STAT.OC_WARN_ACT 1 n).event PR_STAT.OCW_EV PR_EVCNT3.OCW_CNT n).latchIout n 5).protEvent n).record 0x09 1 .d (some n)
        none 0 false (some pre)
    else if v < warn * 15 / 16 then p.set PR_STAT.OC_WARN_ACT 0 n else p
  let p := if thr ≤ v && !p.flag PR_STAT.OC_THR_ACT n then ((p.set PR_STAT.OC_THR_ACT 1 n).protEvent n).thrUpdate
    else if v < thr * 15 / 16 && p.flag PR_STAT.OC_THR_ACT n then (p.set PR_STAT.OC_THR_ACT 0 n).thrUpdate else p
  if eff ≤ v && (p.rail n).ocArmed then (p.modRail n fun r => { r with ocArmed := false }).fault n 2
  else if v < eff * 15 / 16 then p.modRail n fun r => { r with ocArmed := true } else p

/-! Detection. -/

/-- The state that a named monitor reports: 0 IN, 1 ABOVE, 2 BELOW; none for no monitor (R459). -/
def Part.monReport (p : Part) (m : Nat) : Option Nat := if m < 24 then some (p.get MON_STAT.STATE m) else none

/-- The overvoltage monitor of a rail reports ABOVE while the rail is not in OFF (R436). -/
def Part.ovLevel (p : Part) (n : Nat) : Part :=
  if p.live && p.rst n != .off && p.monReport (p.get PR_MON.MON_OV n) == some 1 then p.fault n 5 (some (p.get PR_MON.MON_OV n))
  else p

/-- The undervoltage monitor of a rail reports BELOW in REGULATE or BURST with OFF_PEND = 0 (R436). -/
def Part.uvLevel (p : Part) (n : Nat) : Part :=
  if p.live && (p.rst n == .regulate || p.rst n == .burst) && !p.flag RAIL_STATUS.OFF_PEND n &&
      p.monReport (p.get PR_MON.MON_UV n) == some 2 then p.fault n 6 (some (p.get PR_MON.MON_UV n))
  else p

/-- The step signature (R447, R460): DV_PHYS = 0 disables it. -/
def Part.stepBeyond (p : Part) (n : Nat) (a b : Int) : Bool :=
  let dv := p.get PR_SL.DV_PHYS n
  dv != 0 && decide (dv < (a - b).natAbs)

/-- A sense-line signature is present (R447). -/
def Part.signature (p : Part) (n : Nat) (w : Window) : Bool :=
  let mon := p.monReport (p.get PR_MON.SL_MON n)
  p.flag SEN_STAT.TT_P n || p.flag SEN_STAT.TT_N n ||
    (decide (2 ≤ (p.rail n).samples) && p.stepBeyond n w.e (p.rail n).ePrev) ||
    (w.hi && (mon == some 0 || mon == some 2)) || (w.lo && (mon == some 0 || mon == some 1))

/-- The sense-line rule at a sample (R447, R448, R451); `closed` says that the rule looks at this sample. -/
def Part.senseLine (p : Part) (n : Nat) (w : Window) (closed sig : Bool) : Part :=
  let r := p.rail n
  let lost := closed && r.sigPrev && (sig || p.stepBeyond n w.e r.ePrev2)
  let p := p.modRail n fun r => { r with sigPrev := sig }
  if lost then p.fault n 8 none r.ifPrev2 else p

/-- OV and UV counts at a sample (R434, R435), the clear of an overvoltage that a wait counts from (R423). -/
def Part.voltageRuns (p : Part) (n : Nat) (w : Window) (sig : Bool) (vsp : Nat) : Part :=
  let s : Rat := p.sensedOf n vsp w.e
  let vt := p.vTargetOf n vsp
  let half : Rat := 65536 / 2000
  let ov := vt + (p.get PR_VLIM.OV_EC n : Rat) * half
  let uv := vt - (p.get PR_VLIM.UV_EC n : Rat) * half
  let held := (p.rail n).curHold.isSome
  let st := p.rst n
  let ovOn := !held && p.sigState n
  let uvOn := !held && (st == .regulate || st == .burst) && p.sigState n && !p.flag RAIL_STATUS.OFF_PEND n
  (p.modRail n fun r => { r with
    ovRun := if !ovOn then 0 else if sig then r.ovRun else if ov ≤ s then r.ovRun + 1 else 0
    uvRun := if !uvOn then 0 else if sig then r.uvRun else if s ≤ uv then r.uvRun + 1 else 0 }).when
    (decide (s < ov) && !w.hi) fun q => q.waitCleared n 3

/-- The frozen-feedback run at a sample (R450). -/
def Part.frozenRun (p : Part) (n : Nat) (w : Window) : Part :=
  let d := (p.rail n).dutyCom.getD 0
  let on := p.sigState n
  p.modRail n fun r =>
    if !on then { r with frozenRun := 0 }
    else if r.frozenRun != 0 && r.frozenQ == w.q then
      { r with frozenRun := r.frozenRun + 1, frozenDs := (d :: r.frozenDs).take 32 }
    else { r with frozenRun := 1, frozenQ := w.q, frozenDs := [d] }

/-- Ramp tracking at a sample (R444 to R446). -/
def Part.tracking (p : Part) (n : Nat) (w : Window) (vsp : Nat) (iFast : Int) : Part :=
  if p.rst n != .rampUp then p
  else
    let r := p.rail n
    let ilim := p.get PR_TRK.TRK_ILIM n
    let cut := match r.truncSt with
      | some t => decide (r.lastSt ≤ t + p.per n)
      | none => false
    let limited := cut || (ilim != 0 && decide ((ilim * 128 : Nat) ≤ iFast))
    let v : Rat := vsp
    let wtrk : Rat := if p.get PR_TRK.TRACK_WIN n = 0 then max (65536 / 20) (v / 10)
      else (p.get PR_TRK.TRACK_WIN n : Rat) * 65536 / 2000
    let vhi : Rat := if w.lo then (p.divK n : Rat) / 4096 * ((r.dac : Rat) / 8000 - 1024 / 10000) * 65536
      else p.sensedOf n vsp w.e
    if limited && decide (vhi < v - wtrk) then
      (p.modRail n fun r => { r with trkSinceSt := some (r.trkSinceSt.getD r.lastSt) }).set PR_STAT.TRK_RUN 1 n
    else (p.modRail n fun r => { r with trkSinceSt := none }).set PR_STAT.TRK_RUN 0 n

/-- Power good at a sample (R376, R377); current-hold holds it (R451). -/
def Part.pgSample (p : Part) (n : Nat) (w : Window) (vsp : Nat) : Part :=
  if (p.rst n != .regulate && p.rst n != .burst) || (p.rail n).curHold.isSome then p
  else
    let s : Rat := p.sensedOf n vsp w.e
    let vt := p.vTargetOf n vsp
    let half : Rat := 65536 / 2000
    let hi := vt + (p.get RAIL_PG.PG_OV n : Rat) * half
    let off := decide (s < vt - (p.get RAIL_PG.PG_OFF n : Rat) * half) || decide (hi < s)
    let good := decide (vt - (p.get RAIL_PG.PG_ON n : Rat) * half ≤ s) && decide (s ≤ hi)
    let bad := if off then (p.rail n).pgBad + 1 else 0
    let good := good && !p.flag RAIL_STATUS.OFF_PEND n
    (p.modRail n fun r => { r with
      pgBad := bad, pgSt := if good then some (r.pgSt.getD r.lastSt) else none }).when (decide (2 ≤ bad)) fun q => q.pgLow n true

/-- Reef and burst dwells at a sample (R319, R320, R382). -/
def Part.dwells (p : Part) (n : Nat) (iFast : Int) : Part :=
  let r := p.rail n
  let reg := p.rst n == .regulate
  let l := p.get FAB_STAT.LEVEL n
  let lmax := p.get FAB_REEF.LMAX n
  let held := r.curHold.isSome
  let a := p.addLevel n iFast l
  let quiet := p.get RA_STAT.INTENT n == 0 && !p.flag FAB_STAT.MOVING n
  let i := r.iReef.getD 0
  let shed := reg && !held && !p.reefBad n && decide (l < lmax) && decide (i < (2 * p.iShed n (l + 1) : Nat)) && quiet
  let burst := reg && !held && !p.flag RAIL_STATUS.OFF_PEND n && p.flag RAIL_BURST.BURST_EN n && l == lmax &&
    decide (i < (p.get RAIL_BURST2.I_BURST_IN n : Rat) / 2) && quiet && !p.flag RAIL_STATUS.SLEWING n
  p.modRail n fun r => { r with
    addRun := if reg && !held && decide (a < l) then (a :: r.addRun).take 15 else []
    shedDwellSt := if shed then some (r.shedDwellSt.getD r.lastSt) else none
    burstDwellSt := if burst then some (r.burstDwellSt.getD r.lastSt) else none }

/-! The slices. -/

/-- The serving slice computes with x = 0 (R361, R374, R419). -/
def Part.xZero (p : Part) (n : Nat) : Bool :=
  match p.rst n with
  | .delayOn | .delayOff | .hiccup | .latched => true
  | .rampUp => p.flag RAIL_STATUS.OPEN_SEG n
  | .rampDown => p.flag RAIL_STATUS.OPEN_SEG n || (match (p.rail n).softStop with | some x => x.openLoop | none => false)
  | _ => false

/-- The inputs of a slice's computation without H. -/
def Part.lawInput (p : Part) (s vsp : Nat) (xc : Int) : LawIn := ⟨xc, p.gainOf s, p.dffOf s vsp, 0⟩

/-- One computation of the serving slice whose lockstep compare passes (R178 to R186, R204, R232, R233). -/
def Part.compute (p : Part) (n s vsp : Nat) (xc : Int) : Part :=
  let sl := p.slice s
  let i := { p.lawInput s vsp xc with h := sl.h }
  let law := p.lawOf s
  let o := law.step i sl.x sl.y
  let h := bleed (p.get RAIL_HANDOVER.HANDOVER_SLEW n * 128) sl.h
  let p := (p.modSlice s fun c => { c with x := o.x, y := o.y, h := h, g := i.g, dff := i.dff }).modRail n fun r => { r with
    dutyShadow := some o.d, hUsed := sl.h, checkpoint := ⟨o.x, o.y, h⟩, sinceCk := 0 }
  p.showLaw s o.yNow o.uls o.dc o.d

/-- The first sample that reaches the slices after the decision of an exchange is its k_h: every entry is squashed (R219
step 3, R260). -/
def Part.reachKh (p : Part) (n : Nat) : Part :=
  match p.eng.cur with
  | some x =>
    if x.rail = n ∧ !x.kh then (p.squash n .eng).modEng fun e => { e with cur := some { x with kh := true } } else p
  | none => p

/-- The incoming slice of an exchange at a sample: steps 4 to 6 of the hand-over at k_h, or one computation beside the serving
slice (R219, R221). A duty whose compare fails goes nowhere (R198); the fault is the incoming slice's (R195, R223), and so is that of
a replay since the sample before (assumption log 57). -/
def Part.incoming (p : Part) (n vsp : Nat) (xc dOut : Int) (ok : Bool) : Part :=
  match p.eng.cur with
  | some x =>
    if x.rail ≠ n ∨ p.sst x.inc != .track then p
    else if !ok then p.lockstepFault x.inc 1
    else
      let i := p.lawInput x.inc vsp xc
      let sl := p.slice x.inc
      if x.resid || p.idleHandover n then
        let o := (p.lawOf x.inc).step { i with h := sl.h } sl.x sl.y
        (p.modSlice x.inc fun c => { c with x := o.x, y := o.y }).showLaw x.inc o.yNow o.uls o.dc o.d
      else p.handoverSample n x dOut i sl.x sl.y
  | none => p

/-! Set-point and rail state after a sample. -/

/-- Set V_SP in UQ8.24 and show it in UQ8.16 (R366). -/
def Part.setAcc (p : Part) (n acc : Nat) : Part :=
  ((p.modRail n fun r => { r with vspAcc := acc }).set RAIL_VSP.VALUE (roundDiv acc 256).toNat n).showSlew n

/-- A step of V_SP in UQ8.24 from a rate in µV per µs over a control period. -/
def Part.vStep (p : Part) (n : Nat) (ratePerUs : Rat) : Nat := (roundQ (ratePerUs * p.tctlUs n)).toNat

/-- The open segment at a sample (R374): in RAMP_UP until V_SP / K is 0.200 V and the window is not saturated, in
RAMP_DOWN from V_SP / K below 0.200 V. -/
def Part.openSegment (p : Part) (n vsp : Nat) (w : Window) : Part :=
  let low := decide (vsp * 4096 * 5 < 65536 * p.divK n)
  match p.rst n with
  | .rampUp => if p.flag RAIL_STATUS.OPEN_SEG n && !low && !w.hi && !w.lo then p.set RAIL_STATUS.OPEN_SEG 0 n else p
  | .rampDown => if low then p.set RAIL_STATUS.OPEN_SEG 1 n else p
  | _ => p

/-- The end of a soft stop at V_SP = 0: its end state, with the latch record (R360, R419, R426). -/
def Part.softEnd (p : Part) (n : Nat) (x : SoftStop) : Part :=
  ((p.enterEnd n x.ends none).latchRecord n x).onEval n

/-- V_SP moves for the next window, and the rail state with it (R360, R366, R372, R375); current-hold holds the rail
state (R451). -/
def Part.moveVsp (p : Part) (n : Nat) : Part :=
  let r := p.rail n
  let cmd := p.vCmd n * 256
  let held := r.curHold.isSome
  let p : Part := match p.rst n with
    | .rampUp =>
      let rise := clampN 50 500000 (p.get RAIL_TONRISE.TIME n)
      let v := r.vspAcc + p.vStep n ((r.vCmdEntry * 256 : Nat) / (rise : Rat))
      if cmd ≤ v then (p.setAcc n cmd).when (!held) fun q => q.enterRegulate n else p.setAcc n v
    | .regulate =>
      if p.flag RAIL_STATUS.OFF_PEND n then p
      else
        let up := p.vStep n ((clampN 5 5000 (p.get RAIL_SLEW.SLEW_UP n) : Nat) * (16777216 / 100000 : Rat))
        let dn := p.vStep n ((clampN 5 5000 (p.get RAIL_SLEW.SLEW_DN n) : Nat) * (16777216 / 100000 : Rat))
        (p.setAcc n (if r.vspAcc < cmd then min cmd (r.vspAcc + up) else max cmd (r.vspAcc - dn))).showCmd n
    | .rampDown =>
      let fall := match r.softStop with
        | some _ => clampN 5 50000 (p.get RAIL_STOPCFG.SS_FALL n) * 10
        | none => clampN 50 500000 (p.get RAIL_TOFFFALL.TIME n)
      let v := r.vspAcc - p.vStep n ((r.vsp0 : Rat) / (fall : Rat))
      let p := p.setAcc n v
      if v = 0 ∧ !held then
        match r.softStop with
        | some x => p.softEnd n x
        | none => p.setRst n .delayOff
      else p
    | _ => p
  p.modRail n fun r => { r with vspPrev2 := r.vspPrev, vspPrev := r.vspWin, vspWin := p.get RAIL_VSP.VALUE n }

/-- V_SP moves, and a rail that reaches REGULATE is tested against its undervoltage monitor (R436). -/
def Part.moveTested (p : Part) (n : Nat) : Part :=
  let q := p.moveVsp n
  q.when (p.rst n == .rampUp && q.rst n == .regulate) fun x => x.uvLevel n

/-- The burst ends at a sample at or above V_target + BURST_HI; the gap begins once each phase has completed its period in
progress (R384, R385). -/
def Part.burstSample (p : Part) (n : Nat) (w : Window) (vsp : Nat) : Part :=
  let hi := p.vTargetOf n vsp + (p.get RAIL_BURST.BURST_HI n : Rat) * 65536 / 10000
  if p.rst n == .burst && !(p.rail n).pbOwns && (p.rail n).curHold.isNone && decide (hi ≤ p.sensedOf n vsp w.e) then
    let end_ := maxN ((p.rail n).lastSt :: (p.active n).map fun q => (p.ph q).next)
    p.modRail n fun r => { r with gap := true, gapStart := (end_ + 31) / 32 }
  else p

/-- A due class B soft stop starts at a sample (R420); it waits for the end of a current-hold (R452). -/
def Part.startSoft (p : Part) (n : Nat) : Part :=
  match (p.rail n).pendSoft with
  | some x => if (p.rst n).stoppable && (p.rail n).curHold.isNone then p.enterRampDown n (some x) else p
  | none => p

/-- The control grid takes the new divisor once its start has passed; the change squashes run-ahead (R138, R260, R300). -/
def Part.gridMove (p : Part) (n : Nat) : Part :=
  match (p.rail n).pendM with
  | some (m, b) =>
    let r := p.rail n
    if b ≤ r.lastSt then
      let k := ((List.range (m + 2)).find? fun k => decide (r.lastSt < p.gridAt n b m k)).getD 0
      ((p.modRail n fun r => { r with
        divM := m, baseSt := b, kIdx := k, pendM := none, windowN := p.windowOf n m }).showDEff n).squash n .other
    else p
  | none => p

/-- d_ch after a sample (R451). -/
def Part.holdSample (p : Part) (n : Nat) (iFast : Int) : Part :=
  let s := p.get RAIL_ENGINE.SLICE n
  let law := p.lawOf s
  p.modRail n fun r => { r with curHold := r.curHold.map fun h =>
    let d := h.dCh + (p.get PR_CH.CH_GAIN n : Rat) * ((h.iHold - iFast : Int) : Rat) / 256
    { h with dCh := if d < (law.dmin : Rat) then (law.dmin : Rat) else if (law.dmax : Rat) < d then (law.dmax : Rat) else d } }

/-- Sample k_h of the hand-over from the parked-burst generator (R397): H from d_PB, held in the generators since the
trip. -/
def Part.pbHandover (p : Part) (n s vsp : Nat) (xc : Int) : Part :=
  let sl := p.slice s
  let i := p.lawInput s vsp xc
  let law := p.lawOf s
  let o := law.step i sl.x sl.y
  let lim : Int := p.get RAIL_HANDOVER.HANDOVER_MAX n * 128
  let h := clampI (-lim) lim ((p.rail n).dutyCom.getD 0 - o.d)
  let dc := lawDc { i with h := h } o.yNow o.uls
  let d := clampI law.dmin law.dmax dc
  ((p.modSlice s fun c => { c with x := o.x, y := o.y, h := h, g := i.g, dff := i.dff }).showLaw s o.yNow o.uls dc d).modRail n
    fun r => { r with
    dutyShadow := some d, hUsed := h, checkpoint := ⟨o.x, o.y, h⟩, sinceCk := 0, pbStage := 2 }

/-- The commit of k_h completes the hand-over from the parked-burst generator (R397). -/
def Part.pbCommit (p : Part) (n : Nat) : Part :=
  if (p.rail n).pbStage = 2 then
    let p := (p.modRail n fun r => { r with pbStage := 0 }).pbRelease n
    match p.servingOf n with
    | some s => (((p.setSlice s SliceState.drive).keepSet n s).bump RAIL_ENGINE.HO_CNT n).xresult 5 n s 1
    | none => p
  else p

/-- The slices at a sample: validation, the native computation, the hand-over, run-ahead (R185, R198, R219, R248,
R256). DESIGN CHOICE (assumption log 49): the input history keeps a sample that the serving slice computes with x = 0 (R361,
R374) as (0, 0), so that a replay of R219 takes x = 0 too. -/
def Part.slicesAt (p : Part) (n vsp : Nat) (w : Window) (iFast : Int) (checks : Checks) (spec : List Bool) : Part :=
  let r := p.rail n
  let ll := p.llTerm n
  let zero := p.xZero n
  let xc := if zero then 0 else satS 16 (-(w.e + ll))
  let p := ((p.reachKh n).validate n w.e (w.hi || w.lo)).raObserve n r.ifPrev iFast r.ePrev w.e
  let p := p.modRail n fun r => { r with
    inHist := ((if zero then (0, 0, vsp) else (w.e, ll, vsp)) :: r.inHist).take 4, sinceCk := r.sinceCk + 1 }
  match p.servingOf n with
  | some s =>
    if !checks.native then ((p.lockstepFault s 1).incoming n vsp xc 0 checks.incoming).set RA_STAT.ARMED 0 n
    else
      let p := if r.pbStage = 1 then p.pbHandover n s vsp xc else p.compute n s vsp xc
      let d := (p.rail n).dutyShadow.getD 0
      let p := p.incoming n vsp xc d checks.incoming
      if zero then p
      else
        let x := p.raBuild n s r.ifPrev iFast xc w.e d spec
        x.1.when x.2 fun q => q.lockstepFault s 1
  | none => (p.incoming n vsp xc 0 checks.incoming).set RA_STAT.ARMED 0 n

/-- CONTROL_SAMPLE: everything at t_k of a rail whose converters run; `spec` has the compare of each speculative computation (R135 to R154, R366 to R377, R431 to R451). -/
def Part.controlSample (p : Part) (n : Nat) (uv : List Int) (checks : Checks) (spec : List Bool) : Part :=
  if !(p.live && p.convRun n) then p
  else
    let r := p.rail n
    let t := p.gridAt n r.baseSt r.divM r.kIdx
    let p := (p.advanceSt t).modRail n fun r => { r with
      lastSt := t, samples := r.samples + 1, kIdx := r.kIdx + 1, dacOfs := r.dacNext }
    let w := p.window n uv
    let floor := p.rst n == .delayOff && (p.rail n).dac == 1600
    let vsp := (p.rail n).vspWin
    let iFast := p.iFastAt n t
    let iM := p.iMAt n t
    let p := (((p.showWindow n w).probeStat n w).startSoft n).openSegment n vsp w
    let p := (p.setSat SEN_ISUM.I_FAST iFast n).loadLine n iM
    let closed := p.sigState n
    let sig := closed && p.signature n w
    let p := (p.holdSample n iFast).reefCurrent n iM
    let p := p.modRail n fun r => { r with
      vHist := (p.sensedOf n vsp w.e :: r.vHist).take 64, iHist := (iFast :: r.iHist).take 32 }
    let p := ((p.voltageRuns n w sig vsp).frozenRun n w).tracking n w vsp iFast
    let p := (((p.overload n iM).senseLine n w closed sig).pgSample n w vsp).burstSample n w vsp
    let p := if floor && w.lo then p.enterOff n else p
    if p.rst n == .off then p
    else
      let p := (p.modRail n fun r => { r with dOpen := p.dutyOf (p.get RAIL_ENGINE.SLICE n) vsp }).moveTested n
      let p := p.slicesAt n vsp w iFast checks spec
      let p := (p.dwells n iFast).modRail n fun r => { r with
        ePrev2 := r.ePrev, ePrev := w.e, ifPrev2 := r.ifPrev, ifPrev := iFast }
      (p.gridMove n).nextDac n

/-! The commit. -/


/-- Whether every commit places d_open (R374, R419). -/
def Part.openCommit (p : Part) (n : Nat) : Bool :=
  p.flag RAIL_STATUS.OPEN_SEG n ||
    (match (p.rail n).softStop with | some x => x.openLoop && p.rst n == .rampDown | none => false)

/-- The instant of a commit in 25 ps steps: the update instant of the grid in native timing, else now (R190, R302). -/
def Part.commitAt (p : Part) (n : Nat) : Nat :=
  let r := p.rail n
  if p.native n then max p.nowSt (p.gridAt n r.baseSt r.divM r.kIdx) else p.nowSt

/-- Place a duty in the generators of a rail (R187, R302), with the pair sums of R658. -/
def Part.placeDuty (p : Part) (n : Nat) (d : Int) : Part :=
  let at_ := p.commitAt n
  let p := p.pairRoll.modRail n fun r => { r with
    dutyOld := r.dutyCom, uPrev := r.dutyCom.getD 0, dutyCom := some d, comSt := at_, burstFirst := false
    entries := r.entries.filter fun e => decide (r.samples + 1 < e.slot) }
  (p.showEntries n).modPair fun x => { x with dsum := upd x.dsum n (· + d), dcnt := upd x.dcnt n (· + 1) }

/-- The value of the commit (R201, R257, R374, R386, R451), with its effects on run-ahead and the reef level. DESIGN CHOICE
(assumption log 52): in the open segment of a rail whose slice has failed, R201 repeats the last duty and R374 places d_open;
d_open comes first, with VIN_FLOOR of the failed slice. -/
def Part.commitValue (p : Part) (n : Nat) : Part :=
  let r := p.rail n
  let takeover := match p.eng.cur with | some x => x.rail == n && x.resid | none => false
  match r.curHold with
  | some h => p.placeDuty n (roundQ h.dCh)
  | none =>
    if p.openCommit n then p.placeDuty n r.dOpen
    else if (r.repeatLast && !takeover) || r.burstFirst || r.pbStage == 1 then p.placeDuty n (r.dutyCom.getD 0)
    else
      match r.entries.find? fun e => e.slot == r.samples + 1 && e.valid with
      | some e =>
        let p := (p.bumpWrap RA_COMMITS.SPEC_CNT n).placeDuty n e.duty
        if e.plan < p.get FAB_STAT.LEVEL n then p.commitLevel n e.plan else p
      | none =>
        let p := p.when (p.flag RA_STAT.ARMED n) fun q => q.bumpWrap RA_COMMITS.NATIVE_CNT n
        p.placeDuty n (r.dutyShadow.getD 0)

/-- A rail leaves BURST at an update instant for a cause of R387. -/
def Part.leaveBurst (p : Part) (n : Nat) : Part :=
  if p.rst n == .burst && (p.rail n).pendBurst then p.enterRegulate n else p

/-- COMMIT at the update instant of a rail (R257, R387, R798): nothing is committed before the rail's first RAMP_UP, and in a
gap the instant only lets the rail leave BURST. -/
def Part.commit (p : Part) (n : Nat) : Part :=
  let r := p.rail n
  if !p.live || p.rst n == .off || r.samples == 0 then p
  else if p.convRun n then
    let p := if p.native n then p.advanceSt (p.gridAt n r.baseSt r.divM r.kIdx) else p
    let p := if r.dutyCom.isNone && p.rst n != .rampUp then p else p.commitValue n
    ((p.handoverCommit n).pbCommit n).leaveBurst n
  else if r.gap && !r.pbOwns && r.pendBurst then ((p.advanceSt (p.nextTk n)).leaveBurst n).nextDac n
  else p

/-! The faults that samples count towards. -/

/-- OV_EC (R434). -/
def Part.ovEc (p : Part) (n : Nat) : Part :=
  if orDefault (p.get PR_VLIM.OV_N n) 1 ≤ (p.rail n).ovRun then
    (p.modRail n fun r => { r with ovRun := 0 }).fault n 3
  else p

/-- UV_EC (R434). -/
def Part.uvEc (p : Part) (n : Nat) : Part :=
  if orDefault (p.get PR_VLIM.UV_N n) 1 ≤ (p.rail n).uvRun then
    (p.modRail n fun r => { r with uvRun := 0 }).fault n 4
  else p

/-- SHORT_AT_START (R446): the tracking count has run for TRACK_T. -/
def Part.shortAtStart (p : Part) (n : Nat) : Part :=
  match (p.rail n).trkSinceSt with
  | some t =>
    if p.rst n == .rampUp && decide (t + clampN 2 64 (p.get PR_TRK.TRACK_T n) * 40000 ≤ (p.rail n).lastSt) then
      (p.modRail n fun r => { r with trkSinceSt := none }).fault n 7
    else p
  | none => p

/-- The largest difference between two entries of a list. -/
def spanI : List Int → Int
  | [] => 0
  | a :: l => l.foldl max a - l.foldl min a

/-- FROZEN (R450, R451). -/
def Part.frozen (p : Part) (n : Nat) : Part :=
  let r := p.rail n
  let still := decide (32 ≤ r.frozenRun) && decide ((p.get PR_CH.FRZ_DMOVE n * 128 : Nat) ≤ spanI r.frozenDs)
  if p.sigState n && (p.flag SEN_STAT.PROBE_ABSENT n || still) then p.fault n 9 none r.ifPrev2 else p

/-- TELLTALE_FILTER (R149, R166). -/
def Part.telltale (p : Part) (n : Nat) (side : SenseSide) (present : Bool) : Part :=
  let f := match side with
    | .pos => SEN_STAT.TT_P
    | .neg => SEN_STAT.TT_N
  if p.pwmRuns then
    (p.put f present n).when (present && !p.flag f n) fun q => q.event SEN_STAT.TT_EV SEN_EVCNT.TT_CNT n
  else p

/-! Meanings. -/

/-- CONTROL_SAMPLE (R135). -/
def execControlSample (rail : Rail) (uv : List Int) (checks : Checks) (spec : List Bool) (s : State) :
    Host.Outcome State Fault Refusal :=
  .next { s with part := s.part.controlSample rail uv checks spec }

/-- TELLTALE_FILTER (R149). -/
def execTelltaleFilter (rail : Rail) (side : SenseSide) (present : Bool) (s : State) : Host.Outcome State Fault Refusal :=
  .next { s with part := s.part.telltale rail side present }

/-- COMMIT (R257). -/
def execCommit (rail : Rail) (s : State) : Host.Outcome State Fault Refusal :=
  .next { s with part := s.part.commit rail }

/-- OV_EC (R434). -/
def execOvEc (rail : Rail) (s : State) : Host.Outcome State Fault Refusal :=
  .next { s with part := s.part.ovEc rail }

/-- UV_EC (R434). -/
def execUvEc (rail : Rail) (s : State) : Host.Outcome State Fault Refusal :=
  .next { s with part := s.part.uvEc rail }

/-- SHORT_AT_START (R446). -/
def execShortAtStart (rail : Rail) (s : State) : Host.Outcome State Fault Refusal :=
  .next { s with part := s.part.shortAtStart rail }

/-- FROZEN (R450). -/
def execFrozen (rail : Rail) (s : State) : Host.Outcome State Fault Refusal :=
  .next { s with part := s.part.frozen rail }

end Sys2Proof.Machine
end

