-- ==== Sys2Proof/Machine/RailCmds.lean ====
section
/-!
DEFINITION. The commands of rail control (R358, R360, R371 to R387): debounced pins, delays, the pre-bias search, power
good, throttle release, burst entry and burst trips, with their meanings.
-/

namespace Sys2Proof.Machine

open Reg

/-- A rail that has just left OFF while an input fault or its overvoltage monitor stands takes the response on entry to
DELAY_ON (R436, R442). -/
def Part.entryTests (p : Part) (n : Nat) : Part :=
  let p := p.when (p.flag PROT_VIN.VIN_OV_ACT) fun q => q.fault n 11
  let p := p.when (p.flag PROT_VIN.VIN_UV_ACT) fun q => q.fault n 12
  p.ovLevel n

/-- The on request of a rail is evaluated, with the tests that apply where it leads (R360, R436, R442). -/
def Part.reqEval (p : Part) (n : Nat) : Part :=
  let q := p.onEval n
  let q := q.when (p.rst n == .off && q.rst n == .delayOn) fun x => x.entryTests n
  q.when (p.flag RAIL_STATUS.OFF_PEND n && !q.flag RAIL_STATUS.OFF_PEND n) fun x => x.uvLevel n

/-- Evaluate the on request of every rail. -/
def Part.reqEvalAll (p : Part) : Part := p.forN 8 fun n q => q.reqEval n

/-- The on request after a change of one of its inputs: evaluated in READY and RUN, shown in SAFE, where no rail is
eligible (R104, R359). -/
def Part.reqChanged (p : Part) (n : Nat) : Part :=
  if p.live then p.reqEval n else p.put RAIL_STATUS.ON_REQ (p.onReq n) n

/-- Whether a level of ENn or CONTROL that has held for a time in nanoseconds passes the debounce of a rail (R358, R400). -/
def Part.debounced (p : Part) (n heldNs : Nat) : Bool := p.hostActive && decide (p.get RAIL_CFG.EN_DEB n * 1000 ≤ heldNs)

/-- EN_DEBOUNCE (R358): ENn has held a level for a time; a rising edge is a wake source to a park entry (R107, R110). -/
def Part.enDebounce (p : Part) (n : Nat) (level : Bool) (heldNs : Nat) : Part :=
  let p := p.when (level && !(p.rail n).enPin && p.flag SYS_WAKE.EN_WAKE) Part.abortPark
  if p.debounced n heldNs then (p.modRail n fun r => { r with enPin := level }).reqChanged n else p

/-- CONTROL_DEBOUNCE (R358): CONTROL has held a level for a time, which each rail holds to its own EN_DEB; an edge is a wake
source to a park entry (R107, R110). -/
def Part.controlDebounce (p : Part) (level : Bool) (heldNs : Nat) : Part :=
  let edge := (List.range 8).any fun n => level != (p.rail n).ctlPin
  let p := p.when (edge && p.flag SYS_WAKE.CTRL_WAKE) Part.abortPark
  let l := (List.range 8).filter fun n => p.debounced n heldNs
  (p.forL l fun n q => q.modRail n fun r => { r with ctlPin := level }).forL l fun n q => q.reqChanged n

/-- DELAY_ON_END (R360): max(TON_DELAY, 15 µs) after the entry to DELAY_ON. -/
def Part.delayOnEnd (p : Part) (n : Nat) : Part :=
  let r := p.rail n
  if p.rst n == .delayOn && r.prebiasDone then
    let p := p.advanceSt (r.entrySt + p.tonDelay n)
    p.enterRampUp n (p.vStart n)
  else p

/-- The pre-bias search ends with a V_pre (R371, R412). -/
def Part.prebiasEnd (p : Part) (n v : Nat) : Part :=
  ((p.set RAIL_VPRE.VALUE v n).put RAIL_STATUS.PREBIAS_FOUND (v != 0) n).modRail n fun r => { r with prebiasDone := true }

/-- V_pre for a step and a code in 0.1 mV units at the pins, UQ8.16 (R371). -/
def Part.prebiasV (p : Part) (n : Nat) (tenths : Int) : Nat :=
  satU 24 (roundDiv (p.divK n * tenths * 65536) (4096 * 10000))

/-- PREBIAS_STEP (R371): step j of the search ends, in the last 15 µs of the wait, with a voltage at the sense pins in
microvolts; a HICCUP wait has begun once nothing that it counts from persists (R423). No rule states V_pre for a window that
saturates low at j = 11: a free value (assumption log 6). -/
def Part.prebiasStep (p : Part) (n : Nat) (uv : Int) : Part :=
  if !p.searching n then p
  else
    let j := (p.rail n).prebiasJ
    let c := clampI (-1024) 1023 (roundDiv (uv - (200000 * (j + 1) : Nat)) 100)
    let p := p.advanceSt (p.searchFrom n + (j + 1) * 40000)
    if c = -1024 ∧ j = 0 then p.prebiasEnd n 0
    else if c = 1023 ∧ j = 11 then p.prebiasEnd n (p.prebiasV n 25000)
    else if c = -1024 ∧ j = 11 then (p.prebiasEnd n (Config.unstated p.free % 2 ^ 24)).tick
    else if c = -1024 ∨ c = 1023 then p.modRail n fun r => { r with prebiasJ := j + 1, dac := 1600 * (j + 2) }
    else p.prebiasEnd n (p.prebiasV n ((2000 * (j + 1) : Nat) + c))

/-- TOFF_DELAY_END (R360, R451): TOFF_DELAY after OFF_PEND; a soft stop that is due takes over (R399). -/
def Part.toffDelayEnd (p : Part) (n : Nat) : Part :=
  let r := p.rail n
  if p.rst n == .regulate && p.flag RAIL_STATUS.OFF_PEND n && r.curHold.isNone then
    (p.advanceSt (r.pendSt + min 1000000 (p.get RAIL_TOFFDLY.TIME n) * 40000)).enterRampDown n r.pendSoft
  else p

/-- OFF_WAIT_EXPIRY (R360, R405): OFF_WAIT after the entry to DELAY_OFF. -/
def Part.offWaitExpiry (p : Part) (n : Nat) : Part :=
  if p.rst n == .delayOff then
    ((p.advanceSt ((p.rail n).entrySt + orDefault (p.get RAIL_STOPCFG.OFF_WAIT n) 1 * 400000)).enterOff n).reqChanged n
  else p

/-- PG_RELEASE (R376, R407, R451): the conditions have held for PG_DLY. -/
def Part.pgRelease (p : Part) (n : Nat) : Part :=
  match (p.rail n).pgSt with
  | some t =>
    if (p.rst n == .regulate || p.rst n == .burst) && !p.flag RAIL_STATUS.OFF_PEND n && (p.rail n).curHold.isNone then
      (p.advanceSt (t + p.get RAIL_PGDLY.PG_DLY n * 40000)).set RAIL_STATUS.PG 1 n
    else p
  | none => p

/-- THR_HOLD_END (R380): THR_HOLD after the last request of the output. -/
def Part.thrHoldEnd (p : Part) (k : Nat) : Part :=
  match nth p.thrHold k none with
  | some t =>
    if (p.thrAsking k).isEmpty then
      { ((p.advanceSt t).clearBit THR_STAT.THR k) with thrHold := upd p.thrHold k fun _ => none }
    else p
  | none => p

/-- BURST_ENTRY (R360, R382, R451): BURST_DWELL has passed at every sample; the rail enters BURST at the next update instant. -/
def Part.burstEntry (p : Part) (n : Nat) : Part :=
  let r := p.rail n
  match r.burstDwellSt with
  | some t =>
    if p.rst n == .regulate && !p.flag RAIL_STATUS.OFF_PEND n && r.curHold.isNone &&
        decide (t + orDefault (p.get RAIL_BURST2.BURST_DWELL n) 1 * 40000 ≤ r.lastSt) then
      (((p.advanceSt (p.nextTk n)).setRst n .burst).event RAIL_STATUS.BURST_EV RAIL_EVCNT.BURST_CNT n).modRail n fun r =>
        { r with shortGaps := 0 }
    else p
  | none => p

/-- BURST_TRIP in a gap (R386, R387, R396, R397). -/
def Part.burstTrip (p : Part) (n : Nat) : Part :=
  let r := p.rail n
  if !p.live || p.rst n != .burst then p
  else if r.pbOwns then
    let loaded := match p.servingOf n with | some s => p.sst s == SliceState.track | none => false
    if loaded && !r.pbStopped && r.pbStage == 0 then (p.pbHandOn n).nextDac n else p
  else if r.gap then
    let short := decide (p.tb - r.gapStart < orDefault (p.get RAIL_BURST2.BURST_MINGAP n) 1 * 125)
    (p.modRail n fun r => { r with
      gap := false, burstFirst := true, kIdx := p.nextSlot n, shortGaps := if short then r.shortGaps + 1 else 0
      pendBurst := r.pendBurst || (short && decide (1 ≤ r.shortGaps)) }).nextDac n
  else p

/-! Meanings. -/

/-- EN_DEBOUNCE (R358). -/
def execEnDebounce (rail : Rail) (pin : HeldLevel) (s : State) : Host.Outcome State Fault Refusal :=
  .next { s with part := s.part.enDebounce rail pin.level pin.heldNs }

/-- CONTROL_DEBOUNCE (R358). -/
def execControlDebounce (pin : HeldLevel) (s : State) : Host.Outcome State Fault Refusal :=
  .next { s with part := s.part.controlDebounce pin.level pin.heldNs }

/-- DELAY_ON_END (R360). -/
def execDelayOnEnd (rail : Rail) (s : State) : Host.Outcome State Fault Refusal :=
  .next { s with part := s.part.delayOnEnd rail }

/-- PREBIAS_STEP (R371). -/
def execPrebiasStep (rail : Rail) (uv : Int) (s : State) : Host.Outcome State Fault Refusal :=
  .next { s with part := s.part.prebiasStep rail uv }

/-- TOFF_DELAY_END (R360). -/
def execToffDelayEnd (rail : Rail) (s : State) : Host.Outcome State Fault Refusal :=
  .next { s with part := s.part.toffDelayEnd rail }

/-- OFF_WAIT_EXPIRY (R360). -/
def execOffWaitExpiry (rail : Rail) (s : State) : Host.Outcome State Fault Refusal :=
  .next { s with part := s.part.offWaitExpiry rail }

/-- PG_RELEASE (R376). -/
def execPgRelease (rail : Rail) (s : State) : Host.Outcome State Fault Refusal :=
  .next { s with part := s.part.pgRelease rail }

/-- THR_HOLD_END (R380). -/
def execThrHoldEnd (thr : Fin 4) (s : State) : Host.Outcome State Fault Refusal :=
  .next { s with part := s.part.thrHoldEnd thr }

/-- BURST_ENTRY (R382). -/
def execBurstEntry (rail : Rail) (s : State) : Host.Outcome State Fault Refusal :=
  .next { s with part := s.part.burstEntry rail }

/-- BURST_TRIP (R386). -/
def execBurstTrip (rail : Rail) (s : State) : Host.Outcome State Fault Refusal :=
  .next { s with part := s.part.burstTrip rail }

end Sys2Proof.Machine
end

