-- ==== Sys2Proof/Machine/Thermal.lean ====
section
/-!
DEFINITION. Thermal sensing (R534 to R550) and the entry to HOTLATCH (R551 to R554), with the meanings of THERM_SAMPLE,
THERMAL_LEVEL_ENTER, THERMAL_LEVEL_EXIT, SENSOR_BROKEN, THERM_CHECK, FE_FAIL and FIXED_DIE_SHUTDOWN.
-/

namespace Sys2Proof.Machine

open Reg

/-! Readings. -/

/-- The reading of a diode in 0.125 °C (R536, R558): ΔVbe in nV. -/
def Part.diodeTemp (p : Part) (s : Nat) (dvbeNv : Int) : Int :=
  let nf : Rat := (orDefault (p.get TS_DIODE.NF s) 16384 : Nat) / (16384 : Rat)
  let v : Rat := ((dvbeNv - 15000 * (p.get TS_DIODE.RS_COMP s : Int) : Int) : Rat)
  roundQ (8 * (v / (nf * 86173 * lnQ 16) - 27315 / 100))

/-- The reading of an NTC in 0.125 °C (R537, R559), none where the formula gives no positive temperature. -/
def Part.ntcTemp (p : Part) (s rMohm : Nat) : Option Int :=
  let r0 : Rat := (p.get TS_NTC.R0 s * 10000 : Nat)
  let inv : Rat := 100 / 29815 + lnQ ((rMohm : Rat) / r0) / (p.get TS_NTC.BETA s : Rat)
  if inv ≤ 0 then none else some (roundQ (8 * (1 / inv - 27315 / 100)))

/-- Whether a reading is implausible (R540). -/
def implausible (t : Int) : Bool := decide (t < -440) || decide (1600 < t)

/-- Put a number into a rising list. -/
def insertUp (x : Int) : List Int → List Int
  | [] => [x]
  | y :: l => if x ≤ y then x :: y :: l else y :: insertUp x l

/-- The middle of a sorted list, doubled: twice the middle element, or the sum of the two middle ones. -/
def twiceMedian (l : List Int) : Int :=
  let s := l.foldr insertUp []
  let k := s.length / 2
  if s.length % 2 = 1 then 2 * nth s k 0 else nth s (k - 1) 0 + nth s k 0

/-- Whether a die reading is more than 8 °C from the median of the other valid die sensors (R540). -/
def Part.dieOff (p : Part) (s : Nat) (t : Int) : Bool :=
  match ([16, 17, 18, 19].filter fun o => o != s && p.flag TS_READ.VALID o && !p.tsBroken o).map fun o =>
      p.getS TS_READ.TEMP o with
  | [] => false
  | l => decide (128 < (2 * t - twiceMedian l).natAbs)

/-- What a measurement gives: a valid reading, or the cause of its broken condition (R536, R537, R540); none where the
measurement is not of the sensor's mode. -/
def Part.thermRead (p : Part) (s : Nat) : ThermMeas → Option (Sum Int Nat)
  | .diode dv uv =>
    if 16 ≤ s ∨ p.tsMode s ≠ 1 then none
    else if 1000000 < uv then some (.inr 1)
    else if uv < 200000 then some (.inr 2)
    else
      let t := p.diodeTemp s dv
      some (if implausible t then .inr 3 else .inl t)
  | .ntc a b r =>
    if 16 ≤ s ∨ p.tsMode s ≠ 2 then none
    else if 2000000 < a ∨ 400000000 < r then some (.inr 1)
    else if (a < 100000 ∧ b < 2000) ∨ r < 20000 then some (.inr 2)
    else
      match p.ntcTemp s r with
      | some t => some (if implausible t then .inr 3 else .inl t)
      | none => some (.inr 3)
  | .die t => if s < 16 then none else some (if p.dieOff s t then .inr 3 else .inl t)

/-- Whether a sensor is scanned (R535, R539): the die sensors from a cold WAKE on, the remote ones with the image. -/
def Part.scanned (p : Part) (s : Nat) : Bool :=
  if s < 16 then p.thermImage && p.tsMode s != 0
  else match p.dev with
    | .wakeCold | .wakeResume | .startbist | .load | .ready | .run | .safe => true
    | _ => false

/-! Levels. -/

/-- The index of a level in the counts of a sensor. -/
def levelIx : ThermLevel → Nat
  | .warn => 0
  | .throttle => 1
  | .shutdown => 2

/-- The ACT flag of a level (R563). -/
def levelAct : ThermLevel → Fld
  | .warn => TS_STAT.WARN_ACT
  | .throttle => TS_STAT.THR_ACT
  | .shutdown => TS_STAT.SHUT_ACT

/-- The counts of a sensor. -/
def Part.thermC (p : Part) (s : Nat) : ThermCore := nth p.therm s {}
/-- Change the counts of a sensor. -/
def Part.modTherm (p : Part) (s : Nat) (f : ThermCore → ThermCore) : Part := { p with therm := upd p.therm s f }

/-- The counts of one level after a valid sample (R546). -/
def Part.levelCount (p : Part) (s : Nat) (t : Int) (l : ThermLevel) : Part :=
  let thr : Int := (p.tsThr s l : Int) * 8
  let line : Int := thr - (p.tsHys s l : Int) * 8
  let i := levelIx l
  if p.flag (levelAct l) s then
    p.modTherm s fun c => { c with leave := upd c.leave i fun k => if t ≤ line then min (p.tsExit s) (k + 1) else 0 }
  else p.modTherm s fun c => { c with enter := upd c.enter i fun k => if thr ≤ t then min (p.tsEnter s l) (k + 1) else 0 }

/-- The end of slot `k` of a frame (R535): slots of 48 µs for the sensors 0 to 19, then the check slots, which end the frame
of 1 ms. The first slot fixes where the frames begin; while the PWM clock stands a slot ends with its command. -/
def Part.thermSlot (p : Part) (k : Nat) : Part :=
  if !p.pwmRuns then p
  else
    let off := (if k < 20 then 48 * (k + 1) else 1000) * tickUs
    let frame := p.thermAt.getD ((p.tb + tickMs - off) % tickMs)
    let lo := match (p.thermC k).lastAt with | some t => max p.tb (t + 1) | none => p.tb
    let at_ := lo + (frame + off + tickMs - lo % tickMs) % tickMs
    { (p.advance at_).modTherm k fun x => { x with lastAt := some at_ } with thermAt := some frame }

/-- THERM_SAMPLE (R535 to R546). -/
def Part.thermSample (p : Part) (s : Nat) (m : ThermMeas) : Part :=
  if !p.scanned s || p.tsBroken s then p
  else
    let p := p.thermSlot s
    match p.thermRead s m with
    | none => p
    | some (.inr c) =>
      (p.set TS_READ.VALID 0 s).modTherm s fun x => { x with brokenRun := min 3 (x.brokenRun + 1), cause := c }
    | some (.inl t) =>
      let p := ((p.setSat TS_READ.TEMP t s).set TS_READ.VALID 1 s).modTherm s fun x => { x with brokenRun := 0 }
      ((p.levelCount s t .warn).levelCount s t .throttle).levelCount s t .shutdown

/-! HOTLATCH. -/

/-- Every in-field test stops without a verdict (R602). -/
def Part.stopTests (p : Part) : Part :=
  (p.forN 9 fun s q => if q.sst s == .test then q.setSlice s .open_ else q).modEng fun e => { e with rotSlice := none }

/-- Entry to HOTLATCH (R69, R360, R552 to R554, R602, R643): the latch, the record formed at detection from READY, RUN or
SAFE, the queued NVM writes cancelled, the rails to OFF. From another state there is no record, and the clocks stop at
once. `code` and `unit` name the cause (R744). -/
def Part.enterHot (p : Part) (code : Nat) (unit : Option Nat) : Part :=
  match p.dev with
  | .off | .hotlatch | .test => p
  | _ =>
    let rec_ := p.hostActive
    let hot : Option RecCap := if rec_ then some ⟨4, p.recBody p 0 0x06 code 4 none unit 0⟩ else none
    let p := p.stopTests
    let p := if rec_ then p.sendFault 17 4 none else p
    let p := { p.set PAIR_STAT.ARMED 0 with dev := .hotlatch, hotLatch := true, parkReq := false, clocksStopped := !rec_ }
    let p := (p.forN 8 fun n q => q.enterOff n).forN 8 fun n q => q.set RAIL_STATUS.ON_REQ 0 n
    (p.modNvm fun m => { m with hot := hot, recs := [], logs := [], counters := [] }).nvmKick

/-- Whether a scanned SHUTDOWN of a sensor with SHUT_EN = 1 is due (R546). -/
def Part.shutDue (p : Part) (s : Nat) : Bool :=
  p.tsShutEn s && !p.tsBroken s && decide (p.tsEnter s .shutdown ≤ nth (p.thermC s).enter 2 0)

/-- FIXED_DIE_SHUTDOWN (R551, R552, R555): one entry, whose record names both causes when a scanned SHUTDOWN is due. -/
def Part.fixedShutdown (p : Part) : Part :=
  match (List.range 20).find? p.shutDue with
  | some s => ((p.event TS_STAT.SHUT_EV TS_EVCNT.SHUT_CNT s).latchTherm s .shutdown).enterHot 3 (some s)
  | none => p.enterHot 2 none

/-! Entry and exit of a level. -/

/-- The counts of a level return to 0. -/
def Part.levelClear (p : Part) (s : Nat) (l : ThermLevel) : Part :=
  p.modTherm s fun c => { c with enter := upd c.enter (levelIx l) fun _ => 0, leave := upd c.leave (levelIx l) fun _ => 0 }

/-- THERMAL_LEVEL_ENTER (R260, R546, R549, R552). -/
def Part.levelEnter (p : Part) (s : Nat) (l : ThermLevel) : Part :=
  if !p.scanned s || p.tsBroken s || p.flag (levelAct l) s || decide (nth (p.thermC s).enter (levelIx l) 0 < p.tsEnter s l)
  then p
  else
    let p := p.levelClear s l
    match l with
    | .warn =>
      (((p.set TS_STAT.WARN_ACT 1 s).event TS_STAT.WARN_EV TS_EVCNT.WARN_CNT s).latchTherm s .warn).record 0x04 1 .d none (some s)
    | .throttle =>
      let pre := p
      let p := ((p.set TS_STAT.THR_ACT 1 s).event TS_STAT.THR_EV TS_EVCNT.THR_CNT s).latchTherm s .throttle
      let p := p.forL (maskList 8 (p.tsRails s)) fun n q => q.protEvent n
      (p.record 0x04 2 .d none (some s) 0 false (some pre)).thrUpdate
    | .shutdown =>
      if p.tsShutEn s then ((p.event TS_STAT.SHUT_EV TS_EVCNT.SHUT_CNT s).latchTherm s .shutdown).enterHot 1 (some s)
      else
        let pre := p
        let p := ((p.set TS_STAT.SHUT_ACT 1 s).event TS_STAT.SHUT_EV TS_EVCNT.SHUT_CNT s).latchTherm s .shutdown
        (p.forL (maskList 8 (p.tsRails s)) fun n q => q.protEvent n).record 0x04 3 .d none (some s) 0 false (some pre)

/-- THERMAL_LEVEL_EXIT (R546). -/
def Part.levelExit (p : Part) (s : Nat) (l : ThermLevel) : Part :=
  if p.scanned s && p.flag (levelAct l) s && decide (p.tsExit s ≤ nth (p.thermC s).leave (levelIx l) 0) then
    ((p.levelClear s l).set (levelAct l) 0 s).thrUpdate
  else p

/-! Broken sensors. -/

/-- A sensor is broken from now on (R541): its flags, its levels and counts, the service cause, a record. -/
def Part.breakSensor (p : Part) (s cause : Nat) : Part :=
  let p := ((p.set TS_READ.BROKEN 1 s).set TS_READ.BRK_CAUSE cause s).event TS_STAT.BRK_EV TS_EVCNT.BRK_CNT s
  let p := ((p.set TS_STAT.WARN_ACT 0 s).set TS_STAT.THR_ACT 0 s).set TS_STAT.SHUT_ACT 0 s
  let p := (p.modTherm s fun _ => {}).thrUpdate

  (p.raiseCause 1 s).record 0x04 4 .c none (some s)

/-- SENSOR_BROKEN (R541). -/
def Part.sensorBroken (p : Part) (s : Nat) : Part :=
  if p.scanned s && !p.tsBroken s && decide (3 ≤ (p.thermC s).brokenRun) then p.breakSensor s (p.thermC s).cause else p

/-- THERM_CHECK (R544): the frames in a row in which each check lay more than 0.5 mV off. -/
def Part.thermCheck (p : Part) (zeroUv refUv : Int) : Part :=
  if !p.scanned 16 then p
  else
    let p := p.thermSlot 20
    let run := fun (bad : Bool) (k : Nat) => if bad then min 3 (k + 1) else 0
    { p with feBad := [run (decide (500 < zeroUv.natAbs)) (nth p.feBad 0 0),
                       run (decide (500 < (refUv - 80000).natAbs)) (nth p.feBad 1 0)] }

/-- FE_FAIL (R544, R600). No rule states the BRK_CAUSE of a sensor that the part treats as broken: a free value
(assumption log 6). -/
def Part.feFail (p : Part) : Part :=
  if p.flag THERM_STAT.FE_FAIL || !(p.feBad.any fun k => decide (3 ≤ k)) then p
  else
    let p := p.set THERM_STAT.FE_FAIL 1
    let p := p.forN 16 fun s q => if q.tsBroken s then q else (q.breakSensor s (Config.unstated q.free % 4)).tick
    let p := p.record 0x04 5 .c none none
    p.when (p.flag THERM_CFG.FE_SAFE) fun q => q.safeReaction 3

/-! Meanings. -/

/-- THERM_SAMPLE (R535). -/
def execThermSample (sensor : Fin 20) (meas : ThermMeas) (s : State) : Host.Outcome State Fault Refusal :=
  .next { s with part := s.part.thermSample sensor meas }

/-- THERMAL_LEVEL_ENTER (R546). -/
def execThermalLevelEnter (sensor : Fin 20) (level : ThermLevel) (s : State) : Host.Outcome State Fault Refusal :=
  .next { s with part := s.part.levelEnter sensor level }

/-- THERMAL_LEVEL_EXIT (R546). -/
def execThermalLevelExit (sensor : Fin 20) (level : ThermLevel) (s : State) : Host.Outcome State Fault Refusal :=
  .next { s with part := s.part.levelExit sensor level }

/-- SENSOR_BROKEN (R541). -/
def execSensorBroken (sensor : Fin 20) (s : State) : Host.Outcome State Fault Refusal :=
  .next { s with part := s.part.sensorBroken sensor }

/-- THERM_CHECK (R544). -/
def execThermCheck (zeroUv refUv : Int) (s : State) : Host.Outcome State Fault Refusal :=
  .next { s with part := s.part.thermCheck zeroUv refUv }

/-- FE_FAIL (R544). -/
def execFeFail (s : State) : Host.Outcome State Fault Refusal := .next { s with part := s.part.feFail }

/-- FIXED_DIE_SHUTDOWN (R551). -/
def execFixedDieShutdown (s : State) : Host.Outcome State Fault Refusal := .next { s with part := s.part.fixedShutdown }

end Sys2Proof.Machine
end

