-- ==== Sys2Proof/Machine/Debug.lean ====
section
/-!
DEFINITION. Debug sessions (R589 to R592, R614 to R616), with the meanings of REQUEST_CHALLENGE, SUBMIT_RESPONSE,
CLOSE_SESSION and SESSION_TIMEOUT. A row's request comes over REGACC, so JTAG is the source of its refusals.
-/

namespace Sys2Proof.Machine

open Reg

/-- The address of DBG_CTRL (R614). -/
def addrDbg : Nat := 0xA0100

/-- A key-checked operation of DBG_CTRL (R614). -/
def Part.dbgKeyed (p : Part) (src : HostSrc) (key : Nat) (f : Part → Part) : Part :=
  if key ≠ 0xA5 then p.refuse src addrDbg else f p

/-- The session closes (R589). -/
def Part.closeSession (p : Part) : Part := p.set DBG_STAT.SESSION 0

/-- The nonce of a challenge in the bytes of DBG_CHAL0 to DBG_CHAL3 (R589, R616). -/
def Part.fillNonce (p : Part) : Part :=
  (p.forN 4 fun i q => q.set DBG_CHAL.CHAL
    (ofLe ((List.range 4).map fun b => BitVec.ofNat 8 (Config.nonceByte p.free (4 * i + b)))) 0 i).tick

/-- REQUEST_CHALLENGE (R589): in READY or SAFE a session opens. -/
def Part.requestChallenge (p : Part) (src : HostSrc) : Part :=
  if (p.dev == .ready || p.dev == .safe) && !p.flag DBG_STAT.DBG_LOCK then
    (p.fillNonce.set DBG_STAT.SESSION 1).modTest fun t => { t with sessionAt := p.tb }
  else (p.set DBG_STAT.LAST 3).refuse src addrDbg

/-- The bytes of the words of DBG_CHAL or of DBG_RESP (R616). -/
def Part.dbgBytes (p : Part) (f : Fld) : List Byte := (List.range 4).flatMap fun i => leBytes 4 (p.get f 0 i)

/-- SYS_ID as a word (R114). -/
def Part.sysId (p : Part) : Nat := p.get SYS_ID.ID + Config.siliconRev % 16 * 65536

/-- Whether the response is the CMAC of R590. -/
def Part.responseOk (p : Part) : Bool :=
  (cmac Config.debugKey (p.dbgBytes DBG_CHAL.CHAL ++ leBytes 4 p.sysId)).map (BitVec.ofNat 8) == p.dbgBytes DBG_RESP.RESP

/-- A wrong response (R591). -/
def Part.wrongResponse (p : Part) : Part :=
  let p := (p.set DBG_STAT.LAST 2).bump DBG_STAT.DBG_FAIL_CNT
  if p.get DBG_STAT.DBG_FAIL_CNT = 3 then p.set DBG_STAT.DBG_LOCK 1 else p

/-- The device enters TEST (R69, R592): from READY and SAFE alone. -/
def Part.enterTest (p : Part) : Part :=
  if p.dev = .ready ∨ p.dev = .safe then { p.stopTests with dev := .test, parkReq := false } else p

/-- The steps of a correct response (R592): `zeroised` says that every key register reads zero. -/
def Part.unlock (p : Part) (zeroised : Bool) : Part :=
  let p := p.set DBG_STAT.LAST 1
  if zeroised then (((p.set DBG_STAT.ZERO_OK 1).set DBG_STAT.OTP_KEY_BLOCK 1).set DBG_STAT.UNLOCKED 1).enterTest
  else p.safeReaction 4

/-- SUBMIT_RESPONSE (R590 to R592); without a session it has no effect. -/
def Part.submitResponse (p : Part) (zeroised : Bool) : Part :=
  if p.flag DBG_STAT.SESSION then
    let q := p.closeSession
    if p.responseOk then q.unlock zeroised else q.wrongResponse
  else p

/-- A write of DBG_CTRL (R614). -/
def Part.dbgWrite (p : Part) (src : HostSrc) (v : Nat) : Part :=
  p.dbgKeyed src (bitsOf v 0 8) fun p =>
    match bitsOf v 8 2 with
    | 1 => p.requestChallenge src
    | 2 => (p.submitResponse (!Config.zeroFails p.free)).tick
    | 3 => p.closeSession
    | _ => p

/-! Meanings. -/

/-- REQUEST_CHALLENGE (R589). -/
def execRequestChallenge (key : Nat) (s : State) : Host.Outcome State Fault Refusal :=
  .next { s with part := s.part.dbgKeyed .jtag key fun p => p.requestChallenge .jtag }

/-- SUBMIT_RESPONSE (R592). -/
def execSubmitResponse (key : Nat) (zeroised : Bool) (s : State) : Host.Outcome State Fault Refusal :=
  .next { s with part := s.part.dbgKeyed .jtag key fun p => p.submitResponse zeroised }

/-- CLOSE_SESSION (R589). -/
def execCloseSession (key : Nat) (s : State) : Host.Outcome State Fault Refusal :=
  .next { s with part := s.part.dbgKeyed .jtag key Part.closeSession }

/-- SESSION_TIMEOUT (R589): 1 s after the session opened. -/
def Part.sessionTimeout (p : Part) : Part :=
  if p.flag DBG_STAT.SESSION then (p.advance (p.test.sessionAt + tickSecond)).closeSession else p

/-- SESSION_TIMEOUT (R589). -/
def execSessionTimeout (s : State) : Host.Outcome State Fault Refusal :=
  .next { s with part := s.part.sessionTimeout }

end Sys2Proof.Machine
end

