-- ==== Sys2Proof/Machine/Cycles.lean ====
section
/-!
DEFINITION. The cycles of the in-field tests (R574, R575): a late cycle and its end. Tests are numbered 0 transparent
MBIST, 1 error converter injection, 2 phase converter injection, 3 threshold DAC readback, 4 HALYARD loopback.
-/

namespace Sys2Proof.Machine

open Reg

/-- The LATE bit of a test (R607). -/
def lateFld : Nat → Fld
  | 0 => IF_STAT.LATE_MBIST
  | 1 => IF_STAT.LATE_EINJ
  | 2 => IF_STAT.LATE_PINJ
  | 3 => IF_STAT.LATE_DACRB
  | _ => IF_STAT.LATE_HAL

/-- Every cycle is counted afresh (R574, R575, R583). -/
def Part.cyclesBegin (p : Part) : Part := p.modTest fun t => { t with cycleAt := List.replicate 5 p.tb }

/-- A cycle of a test completes (R575). -/
def Part.cycleEnd (p : Part) (i : Nat) : Part :=
  ((p.modTest fun t => { t with cycleAt := upd t.cycleAt i fun _ => p.tb }).set (lateFld i) 0).overdueCause

/-- A cycle of a test has counted 1 s without completing (R575): no sooner than 1 s after it began. -/
def Part.cycleLate (p : Part) (i : Nat) : Part :=
  if p.hostActive && !p.flag (lateFld i) then
    (((p.advance (nth p.test.cycleAt i 0 + tickSecond)).set (lateFld i) 1).event IF_STAT.LATE_EV
      IF_EVCNT.LATE_CNT).overdueCause
  else p

/-- An in-field test gives FAIL or FAIL_TRUNCATED, or an injection fails (R607). -/
def Part.inFieldFail (p : Part) : Part := p.event IF_STAT.IFFAIL_EV IF_EVCNT.IFFAIL_CNT

/-- TEST_LATE (R575). -/
def execTestLate (cycle : Fin 5) (s : State) : Host.Outcome State Fault Refusal :=
  .next { s with part := s.part.cycleLate cycle }

end Sys2Proof.Machine
end

