-- ==== Sys2Proof/Machine/Hk.lean ====
section
/-!
DEFINITION. The housekeeping converters (R474 to R499, R507 to R510): the choice of work, regular sequences, injected
requests, the result queue, calibration and the slots of the threshold DAC readback, with
the meanings of their commands.
Converters are numbered 0 for A and 1 for B.
-/

namespace Sys2Proof.Machine

open Reg

/-- The number of a converter. -/
def convIx : HkConv → Nat
  | .a => 0
  | .b => 1

/-- The work item of a converter. -/
def Part.job (p : Part) (c : Nat) : Option HkJob := if c = 0 then p.hk.jobA else p.hk.jobB

/-- When the conversion of a converter began, in ticks. -/
def Part.began (p : Part) (c : Nat) : Nat := if c = 0 then p.hk.beganA else p.hk.beganB

/-- Give a converter a work item, or none. -/
def Part.setJob (p : Part) (c : Nat) (j : Option HkJob) : Part :=
  p.modHk fun h => if c = 0 then { h with jobA := j, beganA := p.tb } else { h with jobB := j, beganB := p.tb }

/-! Conversions. -/

/-- The voltage that a code names, in microvolts (R474): code 59 is the threshold DAC `dac`. -/
def hkInput (x : HkInputs) (ch dac : Nat) : Int :=
  if ch = 57 then 0 else if ch = 58 then 1250000 else if ch = 59 then nth x.dacUv dac 0 else nth x.uv ch 0

/-- V_REF of a conversion, in microvolts (R474, R475). -/
def Part.hkRef (p : Part) (x : HkInputs) (ch : Nat) : Nat :=
  if p.flag HK_CFG.REF_SEL && decide (ch < 24) then x.auxRefUv else 2500000

/-- The raw code of a conversion (R475). The spec states none for a reference of 0, which R476 forbids: a free value
(assumption log 6). -/
def Part.rawCode (p : Part) (x : HkInputs) (ch dac : Nat) : Nat :=
  let ref := p.hkRef x ch
  if ref = 0 then Config.unstated p.free % 65536 else satU 16 (roundDiv (hkInput x ch dac * 65536) ref)

/-! The queue. -/

/-- A queue entry of R489. -/
structure HkEntry where
  result : Nat
  ch : Nat
  src : Nat
  entry : Nat
  conv : Nat
  calset : Option Nat
  refused : Bool
  lost : Bool
  sat : Bool
  preempt : Bool
  stamp : Nat
deriving DecidableEq, Repr

/-- The 64 bits of a queue entry (R489). -/
def HkEntry.bits (e : HkEntry) (lost : Bool) : Nat :=
  e.result % 65536 + e.ch % 64 * 2 ^ 16 + e.src % 16 * 2 ^ 22 + e.entry % 16 * 2 ^ 26 + e.conv % 2 * 2 ^ 30 +
    (e.calset.getD 0) % 16 * 2 ^ 31 + b2n e.calset.isNone * 2 ^ 35 + b2n e.refused * 2 ^ 36 +
    b2n (e.lost || lost) * 2 ^ 37 + b2n e.sat * 2 ^ 38 + b2n e.preempt * 2 ^ 39 + e.stamp % 2 ^ 24 * 2 ^ 40

/-- The watermark (R513). -/
def Part.qwm (p : Part) : Nat := orDefault (p.get HK_CFG.QWM) 1

/-- Place an entry at the tail, or discard it (R491, R514, R578). -/
def Part.pushEntry (p : Part) (e : HkEntry) : Part :=
  if p.flag IF_STAT.QUEUE_OFF || decide (256 ≤ p.hk.queue.length) then
    (p.event HK_STAT.QOVF_EV HK_EVCNT0.QOVF_CNT).modHk fun h => { h with lost := true }
  else
    let p := p.modHk fun h => { h with queue := h.queue ++ [e.bits h.lost], lost := false }
    p.when (p.hk.queue.length == p.qwm) fun q => q.event HK_STAT.QWM_EV HK_EVCNT0.QWM_CNT

/-! Calibration values. -/

/-- Whether a set applies to a code on a converter (R493). -/
def Part.setFor (p : Part) (ch conv c : Nat) : Bool :=
  p.flag CAL_BIND.VALID c && p.get CAL_BIND.CH c == ch && p.get CAL_BIND.CONV c == conv

/-- The lowest-numbered set that applies (R493). -/
def Part.calSetOf (p : Part) (ch conv : Nat) : Option Nat := (List.range 16).find? (p.setFor ch conv)

/-- The calibrated value of a raw code (R493). -/
def Part.calValue (p : Part) (c raw : Nat) : Int :=
  satS 16 (roundDiv (((raw * 256 : Nat) - (p.get CAL_OFS.OFFSET c : Nat) : Int) * p.getS CAL_GAIN.GAIN c) (2 ^ 38))

/-- The code that a running capture calibrates (R498). -/
def Part.calCode (p : Part) : Option Nat :=
  match p.hk.cal with
  | some k => if k.running then some (p.get CAL_BIND.CH k.set) else none
  | none => none

/-! Sequences. -/

/-- The input code of an entry of a sequence (R525). -/
def Part.entryCh (p : Part) (s e : Nat) : Nat :=
  if e % 2 = 0 then p.get SEQ_ENT.CH s (e / 2) else p.get SEQ_ENT.CH1 s (e / 2)

/-- The DAC index of an entry of a sequence (R525). -/
def Part.entryDac (p : Part) (s e : Nat) : Nat :=
  if e % 2 = 0 then p.get SEQ_ENT.DACIDX s (e / 2) else p.get SEQ_ENT.DACIDX1 s (e / 2)

/-- A sequence run ends; a held trigger makes it pending again (R480, R484). -/
def Part.seqEnd (p : Part) (s : Nat) : Part :=
  let p := ((p.set SEQ_STAT.RUNNING 0 s).set SEQ_STAT.NEXT_ENT 0 s).set SEQ_STAT.SUSPENDED 0 s
  let p := p.modSeq s fun q => { q with stopAtBoundary := false, preempt := false }
  if p.flag SEQ_STAT.HELD s then (p.set SEQ_STAT.HELD 0 s).set SEQ_STAT.PENDING 1 s else p

/-- An entry of a sequence is done (R480, R486). -/
def Part.seqAdvance (p : Part) (s : Nat) : Part :=
  let e := p.get SEQ_STAT.NEXT_ENT s
  if (p.seqC s).stopAtBoundary || e == p.get SEQ_CFG.LEN s then p.seqEnd s else p.set SEQ_STAT.NEXT_ENT (e + 1) s

/-- The entry that a sequence's conversion leaves (R485, R488, R489). -/
def Part.seqResult (p : Part) (s e : Nat) (conv ch : Nat) (raw : Option Nat) (stamp : Nat) : Part :=
  let q := p.seqC s
  let cs := match raw with | some _ => p.calSetOf ch conv | none => none
  let r := match raw, cs with
    | some v, some c => ofS 16 (p.calValue c v)
    | some v, none => v
    | none, _ => 0
  (p.pushEntry { result := r, ch := ch, src := s, entry := e, conv := conv, calset := cs, refused := raw.isNone,
                 lost := q.runLost, sat := raw == some 0 || raw == some 65535, preempt := q.preempt, stamp := stamp }).modSeq s
    fun q => { q with runLost := false, preempt := false }

/-- The entry that an injected request leaves (R488, R489). -/
def Part.injResult (p : Part) (slot conv ch : Nat) (raw : Option Nat) (stamp : Nat) : Part :=
  let cs := match raw with | some _ => p.calSetOf ch conv | none => none
  let r := match raw, cs with
    | some v, some c => ofS 16 (p.calValue c v)
    | some v, none => v
    | none, _ => 0
  (p.pushEntry { result := r, ch := ch, src := 8 + slot, entry := 0, conv := conv, calset := cs, refused := raw.isNone,
                 lost := false, sat := raw == some 0 || raw == some 65535, preempt := false, stamp := stamp }).modHk
    fun h => { h with store := upd h.store slot fun _ => none }

/-- TSTAMP of an instant in ticks (R489). -/
def stampOf (t : Nat) : Nat := t / 16 % 2 ^ 24

/-- The running sequence of a converter. -/
def Part.runningOn (p : Part) (c : Nat) : Option Nat :=
  (List.range 8).find? fun s => p.flag SEQ_STAT.RUNNING s && p.get SEQ_CFG.CONV s == c

/-- The pending sequence of a converter with the lowest number. -/
def Part.pendingOn (p : Part) (c : Nat) : Option Nat :=
  (List.range 8).find? fun s => p.flag SEQ_STAT.PENDING s && p.get SEQ_CFG.CONV s == c

/-- The running sequence of a converter is interrupted: its next result carries PREEMPT (R488, R498). -/
def Part.interrupt (p : Part) (c : Nat) : Part :=
  match p.runningOn c with
  | some s => p.modSeq s fun q => { q with preempt := true }
  | none => p

/-! The choice of work. -/

/-- The slots of the store whose request no converter serves yet. -/
def Part.freeSlots (p : Part) : List (Nat × InjReq) :=
  (p.hk.store.zipIdx).filterMap fun x =>
    match x.1 with
    | some r => if p.hk.jobA == some (.inj x.2) || p.hk.jobB == some (.inj x.2) then none else some (x.2, r)
    | none => none

/-- The oldest of some requests. -/
def oldestReq : List (Nat × InjReq) → Option (Nat × InjReq)
  | [] => none
  | x :: l =>
    match oldestReq l with
    | some y => if y.2.order < x.2.order then some y else some x
    | none => some x

/-- The converter of the set of the calibration command in service. -/
def Part.calConv (p : Part) (k : Capture) : Nat := p.get CAL_BIND.CONV k.set

/-- The oldest injected request that a converter may serve (R488, R498). -/
def Part.injFor (p : Part) (c : Nat) : Option (Nat × InjReq) :=
  let other := match p.hk.cal with
    | some k => k.running && p.calConv k != c
    | none => false
  oldestReq (p.freeSlots.filter fun x => other || x.2.conv == c || x.2.conv == 2)

/-- Whether a readback may begin or go on at a converter (R478, R479, R507); `old` says that it has waited 10 µs. -/
def Part.readbackFor (p : Part) (c : Nat) (old : Bool) : Bool :=
  match p.hk.rb with
  | some r => (match r.conv with | some k => k == c | none => decide (r.due + 12500 ≤ p.tb) == old)
  | none => false

/-- Begin a readback conversion. -/
def Part.takeReadback (p : Part) (c : Nat) : Part :=
  (p.modHk fun h => { h with rb := h.rb.map fun r => { r with conv := some c } }).setJob c (some .readback)

/-- Whether a readback has begun at a converter (R479). -/
def Part.readbackOn (p : Part) (c : Nat) : Bool :=
  match p.hk.rb with
  | some r => r.conv == some c
  | none => false

/-- An accepted calibration command at the converter of its set (R497): its conversions of the code first, then the
capture. -/
def Part.takeCal (p : Part) (c : Nat) (k : Capture) : Part :=
  let ch := p.get CAL_BIND.CH k.set
  match oldestReq (p.freeSlots.filter fun x => x.2.ch == ch && (x.2.conv == c || x.2.conv == 2)) with
  | some x => (p.interrupt c).setJob c (some (.inj x.1))
  | none =>
    if p.hk.store.any fun r => match r with | some q => q.ch == ch | none => false then p
    else
      let p := (p.interrupt c).modHk fun h => { h with cal := some { k with running := true } }
      let p : Part := match p.runningOn c with
        | some s => p.set SEQ_STAT.SUSPENDED 1 s
        | none => p
      (p.set HK_CALSTAT.PHASE (if k.full then 4 else 2)).setJob c (some .capture)

/-- The first entry of a sequence that has just started for a trigger of this instant samples at the trigger (R490):
its acquisition ends there. -/
def Part.timedStart (p : Part) (c s : Nat) : Part :=
  let now := (p.seqC s).timedAt == some p.tb && p.job c == some (.seq s 0)
  let p := p.modSeq s fun q => { q with timedAt := none }
  if now then p.modHk fun h => if c = 0 then { h with beganA := p.tb - 312 } else { h with beganB := p.tb - 312 } else p

/-- The next work of an idle converter in the order of R478; refused conversions leave their entries on the way. -/
def Part.takeWork (p : Part) : Nat → Nat → Part
  | 0, _ => p
  | fuel + 1, c =>
    if (p.job c).isSome then p
    else if p.readbackOn c then p.takeReadback c
    else
      match (match p.hk.cal with | some k => if !k.running && p.calConv k == c then some k else none | none => none) with
      | some k => p.takeCal c k
      | none =>
        if p.readbackFor c true then p.takeReadback c
        else
          match p.injFor c with
          | some x =>
            if p.calCode = some x.2.ch then
              ((p.event HK_STAT.REFCAL_EV HK_EVCNT1.REFCAL_CNT).injResult x.1 c x.2.ch none (stampOf p.tb)).takeWork fuel c
            else (p.interrupt c).setJob c (some (.inj x.1))
          | none =>
            if p.readbackFor c false then p.takeReadback c
            else
              match p.runningOn c with
              | some s =>
                let e := p.get SEQ_STAT.NEXT_ENT s
                if (p.seqC s).stopAtBoundary then (p.seqEnd s).takeWork fuel c
                else if p.calCode = some (p.entryCh s e) then
                  (((p.event HK_STAT.REFCAL_EV HK_EVCNT1.REFCAL_CNT).seqResult s e c (p.entryCh s e) none
                    (stampOf p.tb)).seqAdvance s).takeWork fuel c
                else p.setJob c (some (.seq s e))
              | none =>
                match p.pendingOn c with
                | some s =>
                  (((((p.set SEQ_STAT.PENDING 0 s).set SEQ_STAT.RUNNING 1 s).set SEQ_STAT.NEXT_ENT 0 s).modSeq s fun q =>
                    { q with runLost := q.lostNext, lostNext := false, preempt := false }).takeWork fuel c).timedStart c s
                | none => p

/-- Give every idle converter its next work (R478); the converters run in READY, RUN and SAFE (R477). -/
def Part.hkKick (p : Part) : Part := if p.hostActive then (p.takeWork 400 0).takeWork 400 1 else p

/-! Triggers. -/

/-- A trigger of a sequence is dropped (R484, R485). -/
def Part.dropTrigger (p : Part) (s : Nat) : Part :=
  (p.event SEQ_STAT.OVR_EV SEQ_STAT.OVR_CNT s).modSeq s fun q => { q with lostNext := true }

/-- A trigger of a sequence arrives (R483, R484, R486). -/
def Part.seqTrigger (p : Part) (s : Nat) : Part :=
  if !p.hostActive || !p.flag SEQ_CFG.EN s then p
  else if p.flag SEQ_STAT.PENDING s then p.dropTrigger s
  else if p.flag SEQ_STAT.RUNNING s then
    (if p.flag SEQ_CFG.POLICY s && !p.flag SEQ_STAT.HELD s then p.set SEQ_STAT.HELD 1 s else p.dropTrigger s)
  else (p.set SEQ_STAT.PENDING 1 s).hkKick

/-- Trigger some sequences in ascending order. -/
def Part.seqTriggers (p : Part) (l : List Nat) : Part := p.forL l fun s q => q.seqTrigger s

/-- SOFTWARE_TRIGGER (R481, R516). -/
def Part.softTrigger (p : Part) (mask : Nat) : Part :=
  p.seqTriggers ((List.range 8).filter fun s => bitOf mask s == 1 && p.get SEQ_CFG.TRIG s == 1)

/-- The next PWM-synchronous instant of a sequence, in 25 ps steps (R481). -/
def Part.pwmInstant (p : Part) (n s : Nat) : Nat :=
  let step := orDefault (p.get SEQ_TRIG.DIV s) 1 * p.per n
  let o := (p.rail n).originSt + p.get SEQ_TOFS.TRG_OFS s * 32
  let lo := max p.nowSt ((p.seqC s).pwmNext)
  if lo ≤ o then o else if step = 0 then lo else o + (lo - o + step - 1) / step * step

/-- PWM_TRIGGER: the earliest trigger instant of a rail's sequences (R481). -/
def Part.pwmTrigger (p : Part) (n : Nat) : Part :=
  let l := (List.range 8).filter fun s => p.get SEQ_CFG.TRIG s == 2 && p.get SEQ_TRIG.RAIL s == n && p.flag SEQ_CFG.EN s
  if !p.live || p.rst n == .off || l.isEmpty then p
  else
    let t := minN (l.map (p.pwmInstant n))
    let now := l.filter fun s => p.pwmInstant n s == t
    let p := p.advanceSt t
    (p.forL now fun s q => q.modSeq s fun x => { x with pwmNext := t + 1, timedAt := some p.tb }).seqTriggers now

/-- TB0 of a sequence (R523). -/
def Part.tb0 (p : Part) (s : Nat) : Nat := p.get SEQ_TBLO.TB0_LO s + 2 ^ 32 * p.get SEQ_TBHI.TB0_HI s

/-- The period of a TB-scheduled trigger in ticks (R481, R523). -/
def Part.seqPeriod (p : Part) (s : Nat) : Nat := p.get SEQ_PERIOD.PERIOD s * 1250

/-- TB_TRIGGER: the armed instant of a sequence (R481). -/
def Part.tbTrigger (p : Part) (s : Nat) : Part :=
  let q := p.seqC s
  if !p.hostActive || !q.tbArmed || p.get SEQ_CFG.TRIG s != 3 then p
  else
    let per := p.seqPeriod s
    let p := p.advance q.tbNext
    (p.modSeq s fun x => { x with tbArmed := per != 0, tbNext := x.tbNext + per, timedAt := some p.tb }).seqTrigger s

/-- SEQ_TBHI_WRITE: arm a sequence; every instant in the past fires at once (R482). More than 300 past instants do as
much as 300: the count of dropped triggers saturates at 255. -/
def Part.tbhiWrite (p : Part) (s v : Nat) : Part :=
  let p := p.set SEQ_TBHI.TB0_HI v s
  let t0 := p.tb0 s
  let per := p.seqPeriod s
  let past := if p.tb ≤ t0 then 0 else if per = 0 then 1 else (p.tb - t0 - 1) / per + 1
  let p := p.modSeq s fun x => { x with tbArmed := past = 0 || per != 0, tbNext := t0 + past * per }
  if p.get SEQ_CFG.TRIG s = 3 then p.forN (min past 300) fun _ q => q.seqTrigger s else p

/-- SEQ_DISABLE: EN = 0 (R486). A running sequence ends at the next boundary of its converter, whatever converts there. -/
def Part.seqDisable (p : Part) (s : Nat) : Part :=
  let p := ((p.set SEQ_CFG.EN 0 s).set SEQ_STAT.PENDING 0 s).set SEQ_STAT.HELD 0 s
  if !p.flag SEQ_STAT.RUNNING s then p
  else if (p.job (p.get SEQ_CFG.CONV s)).isSome then p.modSeq s fun q => { q with stopAtBoundary := true }
  else p.seqEnd s

/-- A boundary of a converter ends the sequence that a write of EN = 0 has stopped (R486). -/
def Part.boundary (p : Part) (c : Nat) : Part :=
  match p.runningOn c with
  | some s => if (p.seqC s).stopAtBoundary then p.seqEnd s else p
  | none => p

/-! Injected requests. -/

/-- Whether the part refuses an injected request (R487). -/
def Part.injRefused (p : Part) (ch conv dac : Nat) : Bool :=
  p.hk.store.all Option.isSome || (p.hk.store.any fun r => match r with | some q => q.ch == ch | none => false) ||
    decide (60 ≤ ch) || conv == 3 || (ch == 59 && decide (47 < dac))

/-- HK_INJ (R487). -/
def Part.inject (p : Part) (src : HostSrc) (v : Nat) : Part :=
  let ch := bitsOf v 0 6
  let conv := bitsOf v 6 2
  let dac := bitsOf v 8 6
  if p.injRefused ch conv dac then (p.event HK_STAT.INJREF_EV HK_EVCNT0.INJREF_CNT).refuse src 0x70014
  else
    let slot := (p.hk.store.findIdx? Option.isNone).getD 0
    (p.modHk fun h => { h with
      store := upd h.store slot fun _ => some { ch := ch, conv := conv, dac := dac, order := h.injOrder }
      injOrder := h.injOrder + 1 }).hkKick

/-! Calibration commands. -/

/-- A calibration command ends with a result (R519). -/
def Part.calLast (p : Part) (phase last : Nat) : Part := (p.set HK_CALSTAT.PHASE phase).set HK_CALSTAT.LAST last

/-- CAL_ZERO and CAL_FULL (R494 to R497). -/
def Part.calBegin (p : Part) (src : HostSrc) (full : Bool) (set refVal : Nat) : Part :=
  if p.hk.cal.isSome then (p.set HK_CALSTAT.LAST 5).refuse src 0x70018
  else if full && (nth p.hk.zeros set none).isNone then
    ((p.set HK_CALSTAT.SET set).set HK_CALSTAT.LAST 6).refuse src 0x70018
  else
    (((p.modHk fun h => { h with cal := some { set := set, full := full, refVal := refVal, running := false } }).set
      HK_CALSTAT.SET set).set HK_CALSTAT.PHASE 1).hkKick

/-- The converter of the capture resumes its sequence (R498). -/
def Part.freeCapture (p : Part) (k : Capture) : Part :=
  let c := p.calConv k
  let p := p.modHk fun h => { h with cal := none }
  let p := if p.job c == some .capture then p.setJob c none else p
  let p : Part := match p.runningOn c with
    | some s => p.set SEQ_STAT.SUSPENDED 0 s
    | none => p
  (p.boundary c).hkKick

/-- An aborted command ends: its set and a zero that it held stay (R512). -/
def Part.calAborted (p : Part) (k : Capture) : Part :=
  (p.calLast (if (nth p.hk.zeros k.set none).isSome then 3 else 0) 7).freeCapture k

/-- CAL_ABORT (R512): a running capture stops at the next boundary, which CAPTURE_END brings; a command that still waits
ends at once. -/
def Part.calAbort (p : Part) : Part :=
  match p.hk.cal with
  | some k =>
    let began := p.began (p.calConv k)
    if !k.running then p.calAborted k
    else p.modHk fun h => { h with cal := some { k with
      stopAt := some (k.stopAt.getD (began + ((p.tb - began) / tickUs + 1) * tickUs)) } }
  | none => p

/-- A capture fails (R496). -/
def Part.calFail (p : Part) (k : Capture) (last : Nat) : Part :=
  (((p.modHk fun h => { h with zeros := upd h.zeros k.set fun _ => none }).calLast 0 last).event HK_STAT.CALFAIL_EV
    HK_EVCNT1.CALFAIL_CNT).freeCapture k

/-- The raw codes of the 256 conversions of a capture (R494): `uv` holds what the input of the set carries at each of them,
`auxRefUv` the external reference. -/
def Part.captured (p : Part) (k : Capture) (uv : List Int) (auxRefUv : Nat) : List Nat :=
  (List.range 256).map fun i =>
    p.rawCode ⟨List.replicate 64 (nth uv i 0), auxRefUv, [nth uv i 0]⟩ (p.get CAL_BIND.CH k.set) 0

/-- CAPTURE_END: 256 conversions of 1 µs have been captured (R479, R494 to R496), or an abort stops the capture at a
boundary (R512). -/
def Part.captureEnd (p : Part) (uv : List Int) (auxRefUv : Nat) : Part :=
  match p.hk.cal with
  | some k =>
    let raws := p.captured k uv auxRefUv
    let sum := sumN raws
    let live := p.hostActive && k.running
    let p := if live then p.advance (k.stopAt.getD (p.began (p.calConv k) + 256 * tickUs)) else p
    if !live then p
    else if k.stopAt.isSome then p.calAborted k
    else if raws.any fun r => r == 0 || r == 65535 then p.calFail k 4
    else if !k.full then
      ((p.modHk fun h => { h with zeros := upd h.zeros k.set fun _ => some sum }).calLast 3 1).freeCapture k
    else
      let z := (nth p.hk.zeros k.set none).getD 0
      let span : Int := (sum : Int) - z
      let ref := toS 16 k.refVal
      if span.natAbs < 65536 then p.calFail k 2
      else if 2 * span.natAbs ≤ ref.natAbs * 256 then p.calFail k 3
      else
        let gain := span.sign * roundDiv (ref * 2 ^ 38) span.natAbs
        let p := ((p.setS CAL_GAIN.GAIN gain k.set).set CAL_OFS.OFFSET z k.set).set CAL_BIND.VALID 1 k.set
        let p := p.modHk fun h => { h with zeros := upd h.zeros k.set fun _ => none }
        ((p.calLast 0 1).event HK_STAT.CALDONE_EV HK_EVCNT1.CALDONE_CNT).freeCapture k
  | none => p

/-- HK_CALCMD (R518). -/
def Part.calCmd (p : Part) (src : HostSrc) (v : Nat) : Part :=
  match bitsOf v 0 2 with
  | 1 => p.calBegin src false (bitsOf v 4 4) (bitsOf v 16 16)
  | 2 => p.calBegin src true (bitsOf v 4 4) (bitsOf v 16 16)
  | 3 => p.calAbort
  | _ => p

/-- Whether a set is under capture: a write of its registers is refused (R512). -/
def Part.setBusy (p : Part) (c : Nat) : Bool :=
  match p.hk.cal with
  | some k => k.set == c
  | none => false


/-! Threshold DAC readback. -/

/-- DAC_READBACK: the readback slot of every 208 µs, counted from the first (R507). -/
def Part.dacReadback (p : Part) : Part :=
  if !p.hostActive || p.hk.rb.isSome then p
  else
    let at_ := nextOn p.hk.rbAt (208 * tickUs) p.tb
    ((p.advance at_).modHk fun h => { h with
      rbAt := some at_
      rb := some { dac := p.get MON_RBCFG.RB_NEXT, due := at_, conv := none, sum := 0, count := 0 } }).hkKick

/-- A write of threshold DACs: a readback of one of them is void, without a verdict, and that DAC comes again in the next
slot (R508). -/
def Part.voidReadback (p : Part) (written : Nat → Bool) : Part :=
  p.modHk fun h => { h with rb := h.rb.filter fun r => !written (r.dac / 2) }

/-! Queue reads. -/

/-- HK_QLO_READ (R492). -/
def Part.qloRead (p : Part) : Part :=
  match p.hk.queue with
  | [] => (p.event HK_STAT.QUNDER_EV HK_EVCNT0.QUNDER_CNT).set HK_QLO.ENTRY_LO 0
  | e :: _ => (p.set HK_QLO.ENTRY_LO (e % 2 ^ 32)).set HK_QHI.ENTRY_HI (e / 2 ^ 32)

/-- HK_QHI_READ (R492). -/
def Part.qhiRead (p : Part) : Part := p.modHk fun h => { h with queue := h.queue.drop 1 }

/-! Meanings. -/

/-- SOFTWARE_TRIGGER (R481). -/
def execSoftwareTrigger (mask : Nat) (s : State) : Host.Outcome State Fault Refusal :=
  .next { s with part := s.part.byHost fun p => p.softTrigger mask }

/-- PWM_TRIGGER (R481). -/
def execPwmTrigger (rail : Rail) (s : State) : Host.Outcome State Fault Refusal :=
  .next { s with part := s.part.pwmTrigger rail }

/-- TB_TRIGGER (R481). -/
def execTbTrigger (seq : Fin 8) (s : State) : Host.Outcome State Fault Refusal :=
  .next { s with part := s.part.tbTrigger seq }

/-- SEQ_TBHI_WRITE (R482). -/
def execSeqTbhiWrite (seq : Fin 8) (value : Nat) (s : State) : Host.Outcome State Fault Refusal :=
  .next { s with part := s.part.byHost fun p => p.tbhiWrite seq value }

/-- SEQ_DISABLE (R486). -/
def execSeqDisable (seq : Fin 8) (s : State) : Host.Outcome State Fault Refusal :=
  .next { s with part := s.part.byHost fun p => p.seqDisable seq }

/-- INJECTED_REQUEST (R487). -/
def execInjectedRequest (value : Nat) (s : State) : Host.Outcome State Fault Refusal :=
  .next { s with part := s.part.byHost fun p => p.inject .pmbus value }

/-- HK_QLO_READ (R492). -/
def execHkQloRead (s : State) : Host.Outcome State Fault Refusal :=
  .next { s with part := s.part.byHost Part.qloRead }

/-- HK_QHI_READ (R492). -/
def execHkQhiRead (s : State) : Host.Outcome State Fault Refusal :=
  .next { s with part := s.part.byHost Part.qhiRead }

/-- CAL_ZERO (R494). -/
def execCalZero (set refVal : Nat) (s : State) : Host.Outcome State Fault Refusal :=
  .next { s with part := s.part.byHost fun p => p.calBegin .pmbus false set refVal }

/-- CAL_FULL (R495). -/
def execCalFull (set refVal : Nat) (s : State) : Host.Outcome State Fault Refusal :=
  .next { s with part := s.part.byHost fun p => p.calBegin .pmbus true set refVal }

/-- CAL_ABORT (R512). -/
def execCalAbort (s : State) : Host.Outcome State Fault Refusal := .next { s with part := s.part.byHost Part.calAbort }

/-- CAPTURE_END (R496). -/
def execCaptureEnd (uv : List Int) (auxRefUv : Nat) (s : State) : Host.Outcome State Fault Refusal :=
  .next { s with part := s.part.captureEnd uv auxRefUv }

/-- DAC_READBACK (R507). -/
def execDacReadback (s : State) : Host.Outcome State Fault Refusal := .next { s with part := s.part.dacReadback }

end Sys2Proof.Machine
end

