-- ==== Sys2Proof/Machine/Mon.lean ====
section
/-!
DEFINITION. The window monitors (R500 to R506), what their outputs drive (R391, R392, R436, R481, R505), and the
parked-burst generator (R388 to R395), with the meanings of MON_SAMPLE, MON_CROSSING and PB_BURST_END. Output states are
numbered as in MONm_STAT: 0 IN, 1 ABOVE, 2 BELOW.
-/

namespace Sys2Proof.Machine

open Reg

/-! The thresholds, in units of 10^-5 µV. -/

/-- The input in units of 10^-5 µV. -/
def monScale (uv : Nat) : Int := (uv * 100000 : Nat)
/-- UPPER of a monitor (R529). -/
def Part.monUpper (p : Part) (m : Nat) : Int := (p.get MON_THR.UPPER m * 244140625 : Nat)
/-- LOWER of a monitor (R529). -/
def Part.monLower (p : Part) (m : Nat) : Int := (p.get MON_THR.LOWER m * 244140625 : Nat)
/-- h of a monitor (R500). -/
def Part.monHys (p : Part) (m : Nat) : Int := (p.get MON_CFG.HYS m * 200000000 : Nat)

/-- The level state of an input (R501). -/
def Part.monLevel (p : Part) (m uv : Nat) : Nat :=
  if p.monUpper m < monScale uv then 1 else if monScale uv < p.monLower m then 2 else 0

/-- Whether an input lies inside either band (R500). -/
def Part.inBand (p : Part) (m uv : Nat) : Bool :=
  let v := monScale uv
  (decide (p.monUpper m - p.monHys m ≤ v) && decide (v ≤ p.monUpper m)) ||
    (decide (p.monLower m ≤ v) && decide (v ≤ p.monLower m + p.monHys m))

/-- The next output state by the table of R500. -/
def Part.monTable (p : Part) (m uv : Nat) : Nat :=
  let v := monScale uv
  match p.get MON_STAT.STATE m with
  | 1 => if v < p.monLower m then 2 else if v < p.monUpper m - p.monHys m then 0 else 1
  | 2 => if p.monUpper m < v then 1 else if p.monLower m + p.monHys m < v then 0 else 2
  | _ => if p.monUpper m < v then 1 else if v < p.monLower m then 2 else 0

/-! What an output drives. -/

/-- A wake source is detected (R69, R107, R110): PARKED ends for the WAKE of a resume; a source that comes before SYS runs is
kept with the others (R122); one that comes during the park entry abandons it. -/
def Part.addWake (p : Part) (w : WakeSource) : Part :=
  match p.dev with
  | .parked | .wakeResume =>
    { p with dev := .wakeResume, wakes := if p.wakes.contains w then p.wakes else p.wakes ++ [w] }
  | _ => p.abortPark

/-- The faults of the rails that name a monitor whose output has entered a state (R436), and the end of the waits that
count from the clear of an overvoltage (R423). -/
def Part.monFaults (p : Part) (m st : Nat) : Part :=
  p.forN 8 fun n q =>
    let q := q.when (st != 1 && q.get PR_MON.MON_OV n == m) fun x => x.waitCleared n 5
    let q := q.when (st == 1 && q.get PR_MON.MON_OV n == m) fun x => x.ovLevel n
    q.when (st == 2 && q.get PR_MON.MON_UV n == m) fun x => x.uvLevel n

/-- The sequences that an output entering a state triggers (R481, R522). -/
def Part.monTriggers (p : Part) (m st : Nat) : Part :=
  p.seqTriggers ((List.range 8).filter fun s =>
    p.get SEQ_CFG.TRIG s == 4 && p.get SEQ_TRIG.MON s == m &&
      match p.get SEQ_TRIG.EDGE s with
      | 0 => st == 1
      | 1 => st == 2
      | 2 => st == 0
      | _ => true)

/-- The flag and the counter of a state (R530, R531). -/
def Part.monEvent (p : Part) (m st : Nat) : Part :=
  match st with
  | 1 => p.event MON_STAT.ABOVE_EV MON_EVCNT.ABOVE_CNT m
  | 2 => p.event MON_STAT.BELOW_EV MON_EVCNT.BELOW_CNT m
  | _ => p.event MON_STAT.IN_EV MON_EVCNT.IN_CNT m

/-- A monitor's output goes to a state: nothing when it is there already; its event, triggers, faults and wake
otherwise (R481, R500, R505, R512). -/
def Part.monTo (p : Part) (m st : Nat) : Part :=
  if p.get MON_STAT.STATE m = st then p
  else
    let p := (((p.set MON_STAT.STATE st m).monEvent m st).monTriggers m st).monFaults m st
    p.when (st != 0 && p.flag MON_CFG.WAKE m && p.flag SYS_WAKE.MON_WAKE) fun q => q.addWake .monitor

/-- A monitor starts: its level state, or SAFE_STATE with START_HOLD inside a band (R501); the start is no event. -/
def Part.monStart (p : Part) (m uv : Nat) : Part :=
  let p := { p with mons := upd p.mons m fun x => { x with started := true } }
  if p.flag MON_STAT.FORCED m then p
  else if p.inBand m uv then (p.set MON_STAT.STATE (p.get MON_CFG.SAFE_STATE m) m).set MON_STAT.START_HOLD 1 m
  else (p.set MON_STAT.STATE (p.monLevel m uv) m).set MON_STAT.START_HOLD 0 m

/-- A monitor that runs evaluates its input (R500, R501, R509). -/
def Part.monEval (p : Part) (m uv : Nat) : Part :=
  if p.flag MON_STAT.FORCED m then p
  else if p.flag MON_STAT.START_HOLD m then
    (if p.inBand m uv then p else (p.set MON_STAT.START_HOLD 0 m).monTo m (p.monLevel m uv))
  else p.monTo m (p.monTable m uv)


/-- The interval at which a monitor samples now: that of PB_TICK while it serves the parked-burst generator (R388, R504). -/
def Part.winLen (p : Part) (m : Nat) : Nat :=
  match p.pbRailOf m with
  | some n =>
    if p.dev == .parked || p.dev == .wakeResume || (p.rail n).pbOwns then winSteps (p.get RAIL_PBMON.PB_TICK n) else p.winLenOwn m
  | none => p.winLenOwn m


/-- A window of a sampled monitor ends, 2 µs after it opened (R503). -/
def Part.window2us (p : Part) (m : Nat) : Part :=
  let c := p.mon m
  let p := p.advanceClock (c.begSt + c.count * p.winLen m + 80000)
  { p with mons := upd p.mons m fun x => { x with count := x.count + 1 } }

/-- The straps that a WAKE senses: it begins with the command (R40, R41, R69, R77). -/
def Part.wakeSenses (p old : Part) (x : Straps) : Part :=
  if old.dev = .parked ∧ p.dev = .wakeResume then p.senseStraps x else p

/-! The parked-burst generator. -/


/-- Start one burst of the generator (R389). -/
def Part.pbBurst (p : Part) (n : Nat) : Part :=
  p.modRail n fun r => { r with pbBursting := true, pbSeen := [], pbFirst := false, pbStartSt := p.clockSt, pbTrunc := none }

/-- Act on a sample below the lower threshold (R390, R391); no burst starts from the trip on that hands the rail over
(R396). -/
def Part.pbLow (p : Part) (n : Nat) : Part :=
  let r := p.rail n
  let fails := if r.pbFirst then r.pbFails + 1 else r.pbFails
  ((p.modRail n fun r => { r with pbFails := fails }).when (r.pbFirst && decide (max 1 (p.get RAIL_PB.PB_DEMAND_N n) ≤ fails))
    fun q => q.addWake .demand).when (r.pbStage == 0) fun q => q.pbBurst n

/-- A rail whose parked burst an overvoltage has stopped enters LATCHED, recorded as an overvoltage (R392). -/
def Part.pbLatch (p : Part) (n : Nat) : Part :=
  let q := p.faultEvent n 5
  (q.modRail n fun r => { r with pbStopped := false }).endNow p n .latched
    (some false) 0x01 5 .a (some (p.get RAIL_PBMON.PB_MON n))

/-- Act on a sample of PB_MON outside a burst (R389, R391, R392). -/
def Part.pbAct (p : Part) (n st : Nat) : Part :=
  match st with
  | 1 =>
    if p.live then p.pbLatch n
    else (p.modRail n fun r => { r with pbStopped := true, pbBursting := false, pbSeen := [] }).addWake .demand
  | 2 => p.pbLow n
  | _ => p.modRail n fun r => { r with pbFails := if r.pbFirst then 0 else r.pbFails, pbFirst := false }

/-- A sample of PB_MON of a rail that the generator owns (R389 to R392): one that comes during a burst waits for its end. -/
def Part.pbSample (p : Part) (n : Nat) : Part :=
  let r := p.rail n
  let st := p.get MON_STAT.STATE (p.get RAIL_PBMON.PB_MON n)
  if !r.pbOwns || r.pbStopped then p
  else if r.pbBursting then p.modRail n fun r => { r with pbSeen := r.pbSeen ++ [st] }
  else p.pbAct n st

/-- The samples of the rails that a monitor watches in parked burst. -/
def Part.pbSamples (p : Part) (m : Nat) : Part :=
  p.forN 8 fun n q => if q.get RAIL_PBMON.PB_MON n = m then q.pbSample n else q

/-- A sample that came during a burst is acted on at its end; where an earlier one has started a burst, one above the upper
threshold alone still acts (R390, R392). -/
def Part.pbLate (p : Part) (n st : Nat) : Part :=
  let r := p.rail n
  if !r.pbOwns || r.pbStopped || (r.pbBursting && st != 1) then p else p.pbAct n st

/-- PB_BURST_END: a burst of the generator ends; the samples that came during it are acted on now, in their order (R389 to
R391). -/
def Part.pbEnd (p : Part) (n : Nat) : Part :=
  let r := p.rail n
  if r.pbOwns && r.pbBursting then
    let p := (p.advanceClock (r.pbStartSt + p.pbPulses n * p.pbPer n)).modRail n fun r => { r with
      pbBursting := false, pbFirst := true, pbSeen := [] }
    r.pbSeen.foldl (fun q st => q.pbLate n st) p
  else p

/-- MON_SAMPLE (R501, R503). -/
def Part.monSample (p : Part) (m uv : Nat) : Part :=
  let c := p.mon m
  if c.runs ≠ 2 then p
  else
    let p := p.window2us m
    if !c.started then ((p.monStart m uv).monFaults m ((p.monStart m uv).get MON_STAT.STATE m)).pbSamples m
    else (p.monEval m uv).pbSamples m

/-- MON_CROSSING (R500, R502). -/
def Part.monCrossing (p : Part) (m uv : Nat) : Part := if (p.mon m).runs = 1 then p.monEval m uv else p

/-! Meanings. -/

/-- MON_SAMPLE (R503). -/
def execMonSample (mon : Fin 24) (seen : MonSeen) (s : State) : Host.Outcome State Fault Refusal :=
  .next { s with part := (s.part.monSample mon seen.uv).wakeSenses s.part seen.straps }

/-- MON_CROSSING (R502). -/
def execMonCrossing (mon : Fin 24) (uv : Nat) (s : State) : Host.Outcome State Fault Refusal :=
  .next { s with part := s.part.monCrossing mon uv }

/-- PB_BURST_END (R390). -/
def execPbBurstEnd (burst : ParkedBurst) (s : State) : Host.Outcome State Fault Refusal :=
  .next { s with part := (s.part.pbEnd burst.rail).wakeSenses s.part burst.straps }

end Sys2Proof.Machine
end

