-- ==== Sys2Proof/Machine/Check.lean ====
section
/-!
DEFINITION. The rules of the configuration check: R99, R222, R398, R453, R511, R556, R662 and R796. LOAD judges them all
together; a write at run time is judged by the rules of the register that it names.
-/

namespace Sys2Proof.Machine

open Reg

/-- The responses that R427 allows a fault code: pairs of CLASS and ACTION; ACTION counts in class A alone. -/
def allowedResp (f cls act : Nat) : Bool :=
  let tri := cls == 0 && act == 0
  let low := cls == 0 && act == 1
  let soft := cls == 0 && act == 2
  let b := cls == 1 && act != 3
  let d := cls == 3 && act != 3
  match f with
  | 2 => tri || soft || b
  | 3 => tri || low || d
  | 4 | 6 => tri || soft || b || d
  | 5 => tri || low
  | 8 | 9 => tri || soft
  | 10 | 12 => tri || b
  | _ => tri

/-- The rules of R398 and R453 on one rail, whether or not it is enabled. -/
def Part.railAny (p : Part) (n : Nat) : Bool :=
  decide (p.get RAIL_PG.PG_ON n ≤ p.get RAIL_PG.PG_OFF n) &&
  (!p.flag RAIL_BURST.BURST_EN n || decide (p.get RAIL_BURST.BURST_LO n < 5 * p.get RAIL_PG.PG_OFF n)) &&
  (!p.flag RAIL_CFG.PB_RAIL n ||
    decide (p.get RAIL_PB.PB_TON n + p.get RAIL_PB.PB_TLOW n ≤ p.get RAIL_PB.PB_PER n)) &&
  ((List.range 12).all fun i => allowedResp (i + 1) (p.get PR_RESP.CLASS n i) (p.get PR_RESP.ACTION n i)) &&
  (!p.flag PR_SL.INDEP n || (p.role != .solo && decide (13 ≤ p.get PR_SL.CH_TIME n)))

/-- The rules of R99, R222, R299, R398 and R453 on an enabled rail; `fore` says that it runs in forerunner timing. -/
def Part.railOn (p : Part) (n : Nat) (fore : Bool) : Bool :=
  let per := p.per n
  let most := p.mOf n (min (p.get RAIL_CFG.PH_COUNT n) 16)
  decide (1 ≤ p.get RAIL_CFG.PH_COUNT n) && decide (p.get RAIL_CFG.PH_FIRST n + p.get RAIL_CFG.PH_COUNT n ≤ 64) &&
  decide (10000 ≤ per) && decide (per ≤ 200000) && decide (p.get FAB_CFG.MSEL n ≤ 5) &&
  decide (2500 * most ≤ per) && decide (64 * per ≤ 1600000 * p.mOf n 1) &&
  (!fore || (p.get RA_CFG.DEPTH n == 0 && p.forerunnerOk n)) &&
  decide (p.get RAIL_HANDOVER.HANDOVER_MAX n ≤ 16 * p.get RAIL_HANDOVER.HANDOVER_SLEW n) &&
  decide (p.get RAIL_LL.R_LL n * p.get RAIL_LLIMAX.LL_IMAX n * 4096 ≤ 90000 * p.divK n) &&
  decide (p.get PR_OCLIM.OC_WARN n ≤ p.get PR_OCCFG.OC_THR n) &&
  decide (p.get PR_OCCFG.OC_THR n ≤ p.get PR_OCLIM.OC_FAULT n)

/-- The run-ahead rule of R796. -/
def Part.depthOk (p : Part) (n : Nat) : Bool :=
  p.get RA_CFG.DEPTH n == 0 ||
    (decide (p.get RA_CFG.DEPTH n ≤ 4) && p.get RA_MODEL.KC n != 0 && p.get RA_MODEL.KL_PH n != 0)

/-- The rules between rails (R13, R99, R398, R453). -/
def Part.railsOk (p : Part) : Bool :=
  let on := (List.range 8).filter p.railEn
  let parked := (List.range 8).filter fun n => p.flag RAIL_CFG.PB_RAIL n
  let apart := fun a b => decide (p.get RAIL_CFG.PH_FIRST a + p.get RAIL_CFG.PH_COUNT a ≤ p.get RAIL_CFG.PH_FIRST b) ||
    decide (p.get RAIL_CFG.PH_FIRST b + p.get RAIL_CFG.PH_COUNT b ≤ p.get RAIL_CFG.PH_FIRST a)
  let names := fun n m => p.get PR_MON.MON_OV n == m || p.get PR_MON.MON_UV n == m || p.get PR_MON.SL_MON n == m
  (on.all fun a => on.all fun b => a == b || apart a b) && decide (parked.length ≤ 2) &&
  (parked.all fun n => decide (p.get RAIL_CFG.PH_COUNT n ≤ 2)) &&
  (parked.all fun a => (List.range 8).all fun b => a == b ||
    (!(p.flag RAIL_CFG.PB_RAIL b && p.get RAIL_PBMON.PB_MON a == p.get RAIL_PBMON.PB_MON b) &&
      !names b (p.get RAIL_PBMON.PB_MON a)))

/-- The pair rules of R99 and R662. -/
def Part.pairOk (p : Part) : Bool :=
  let on := (List.range 8).filter p.railEn
  let asym := fun (f : Fld) => decide ((p.getS f).natAbs ≤ 2000)
  asym HAL_ASYM.ASYM_E && asym HAL_ASYM.ASYM_W &&
  ((p.role != .main && p.role != .mizzen) ||
    (p.get PAIR_CFG.STG_SEL != 0 && p.portEn p.pairPort && (on.all fun n => p.flag FAB_CFG.ALIGN n) &&
      decide (p.get PAIR_CFG.STG_SEL * 4000 + 20000 + maxN (on.map p.per) ≤ 480000)))

/-- The input order of R453. -/
def Part.vinOrder (p : Part) : Bool :=
  decide (p.get PROT_VINLIM.VIN_UV < p.get PROT_VINLIM.VIN_ON) &&
    decide (p.get PROT_VINLIM.VIN_ON + p.get PROT_VINCFG.VIN_HYS < p.get PROT_VINLIM.VIN_OV)

/-- The monitor rules of R511. -/
def Part.monOk (p : Part) (m : Nat) : Bool :=
  decide (p.get MON_CFG.SRC m ≤ 56) && p.get MON_CFG.MODE m != 3 && p.get MON_CFG.SAFE_STATE m != 3 &&
  p.get MON_CFG.DACERR_ACT m != 3 &&
  (p.get MON_CFG.MODE m == 0 || decide (p.monLower m + p.monHys m < p.monUpper m - p.monHys m))


/-- The sequence rules of R511. -/
def Part.seqOk (p : Part) (s : Nat) : Bool :=
  decide (p.get SEQ_CFG.TRIG s ≤ 4) && (List.range (p.get SEQ_CFG.LEN s + 1)).all fun e =>
    decide (p.entryCh s e ≤ 58) || (p.entryCh s e == 59 && decide (p.entryDac s e ≤ 47))

/-- The calibration binding of R511. -/
def Part.calOk (p : Part) (c : Nat) : Bool := !p.flag CAL_BIND.VALID c || decide (p.get CAL_BIND.CH c ≤ 56)

/-- The thermal rules of R556 on one sensor. -/
def Part.thermOk (p : Part) (s : Nat) : Bool :=
  let w := orDefault (p.get TS_THR.WARN_T s) 115
  let t := orDefault (p.get TS_THR.THROT_T s) 125
  let x := orDefault (p.get TS_THR.SHUT_T s) 140
  (p.tsMode s == 0 || (decide (w < t) && decide (t < x))) &&
  decide (orDefault (p.get TS_HYS.WARN_H s) 3 < w) && decide (orDefault (p.get TS_HYS.THROT_H s) 3 < t) &&
  decide (orDefault (p.get TS_HYS.SHUT_H s) 5 < x) && p.tsMode s != 3 &&
  (p.tsMode s != 2 || (p.get TS_NTC.R0 s != 0 && p.get TS_NTC.BETA s != 0))

/-- Whether a write has changed a field. -/
def Part.changed (p old : Part) (f : Fld) (i : Nat) : Bool := p.get f i != old.get f i

/-- The run-ahead rules on a write of a rail (R192, R283, R796): a new DEPTH of 5 to 7 or in forerunner timing, a new DEPTH of 1
or more with KC or KL_PH 0, a new 0 in KC or KL_PH while DEPTH is 1 or more. What the image of a disabled rail left is not
judged. -/
def Part.depthWrite (p old : Part) (n : Nat) : Bool :=
  p.get RA_CFG.DEPTH n == 0 ||
    ((!p.changed old RA_CFG.DEPTH n || (p.depthOk n && !p.flag RAIL_ENGINE.TIMING n)) &&
      !(p.changed old RA_MODEL.KC n && p.get RA_MODEL.KC n == 0) &&
      !(p.changed old RA_MODEL.KL_PH n && p.get RA_MODEL.KL_PH n == 0))

/-- The configuration check of LOAD (check 11 of R96): slice n serves rail n from leaving LOAD on (R16). -/
def Part.configOk (p : Part) : Bool :=
  ((List.range 8).all fun n => p.railAny n && (!p.railEn n ||
    (p.railOn n (p.flag RAIL_ENGINE.TMODE_INIT n) && p.depthOk n && p.lawOk n))) &&
  p.railsOk && p.pairOk && p.vinOrder && decide (10 ≤ p.get ENG_ROT.ROT_INT) && decide (p.get ENG_ROT.ROT_INT ≤ 100) &&
  ((List.range 24).all p.monOk) && ((List.range 8).all p.seqOk) && ((List.range 16).all p.calOk) &&
  (List.range 20).all p.thermOk

/-- Whether the register at an address breaks no rule with the values that a write to a part `old` has given it (R196, R296, R398,
R453, R511, R556, R796). -/
def Part.regOk (p old : Part) (addr : Nat) : Bool :=
  if addr < 0x10000 then true
  else if addr < 0x12000 then
    let n := (addr - 0x10000) / 0x400
    p.railAny n && (!p.railEn n || p.railOn n (p.flag RAIL_ENGINE.TIMING n))
  else if addr < 0x22400 then
    let s := (addr - 0x20000) / 0x400
    (!p.changed old SLICE_FF.VIN_FLOOR s ||
      (decide (1 ≤ p.get SLICE_FF.VIN_FLOOR s) && decide (p.get SLICE_FF.VIN_FLOOR s ≤ 80))) &&
      match p.servedBy s with
      | some n => !p.railEn n || p.lawOk s
      | none => true
  else if addr < 0x30000 then true
  else if addr < 0x30800 then
    p.depthWrite old ((addr - 0x30000) / 0x100)
  else if addr < 0x41000 then true
  else if addr < 0x41400 then
    let n := (addr - 0x41000) / 0x80
    !p.railEn n || p.railOn n (p.flag RAIL_ENGINE.TIMING n)
  else if addr < 0x60000 then true
  else if addr < 0x60800 then
    let n := (addr - 0x60000) / 0x100
    !p.railEn n || p.railOn n (p.flag RAIL_ENGINE.TIMING n)
  else if addr = 0x60804 then p.vinOrder
  else if addr < 0x70100 then true
  else if addr < 0x70300 then p.seqOk ((addr - 0x70100) / 0x40)
  else if addr < 0x70400 then true
  else if addr < 0x70500 then p.calOk ((addr - 0x70400) / 0x10)
  else if 0x90000 ≤ addr ∧ addr < 0x90280 then p.thermOk ((addr - 0x90000) / 0x20)
  else true

end Sys2Proof.Machine
end

