-- ==== Sys2Proof/Machine/NvmArray.lean ====
section
/-!
DEFINITION. The embedded NVM (R735): reading and writing its array in canonical form, the bytes of its units (R743, R749,
R752), the completion and the abort of an operation (R737 to R740, R746), and the scan of LOAD (R748, R750).
-/

namespace Sys2Proof.Machine

open Reg

/-! The array. -/

/-- One byte of the array; an unlisted cell reads as erased (assumption log 7). -/
def nvmRead : List Host.Cell → Nat → Byte
  | [], _ => 0xFF#8
  | (k, b) :: r, a => if a = k then b else if a < k then 0xFF#8 else nvmRead r a

/-- Write one byte in canonical form. -/
def nvmInsert : List Host.Cell → Nat → Byte → List Host.Cell
  | [], a, b => if b = 0xFF#8 then [] else [(a, b)]
  | (k, c) :: r, a, b =>
    if a < k then (if b = 0xFF#8 then (k, c) :: r else (a, b) :: (k, c) :: r)
    else if a = k then (if b = 0xFF#8 then r else (a, b) :: r)
    else (k, c) :: nvmInsert r a b

/-- Write one byte; nothing lies outside the 64 KB. -/
def nvmWrite (m : List Host.Cell) (a : Nat) (b : Byte) : List Host.Cell := if a < 65536 then nvmInsert m a b else m

/-- Write some bytes from an address on. -/
def nvmWriteBytes (m : List Host.Cell) (a : Nat) : List Byte → List Host.Cell
  | [] => m
  | b :: bs => nvmWriteBytes (nvmWrite m a b) (a + 1) bs

/-- Erase a page. -/
def nvmErase (m : List Host.Cell) (page : Nat) : List Host.Cell :=
  m.filter fun c => !(decide (page * 512 ≤ c.1) && decide (c.1 < page * 512 + 512))

/-- Some bytes of the array. -/
def nvmBytes (m : List Host.Cell) (a n : Nat) : List Byte := (List.range n).map fun i => nvmRead m (a + i)

/-- A little-endian number in the array. -/
def nvmNat (m : List Host.Cell) (a n : Nat) : Nat := ofLe (nvmBytes m a n)

/-! Units. -/

/-- Bytes of a unit. -/
def unitSize : NvmUnit → Nat
  | .hot _ | .record _ => 512
  | .log _ => 16
  | .counter _ => 32

/-- Bytes of a unit's seal. -/
def sealSize : NvmUnit → Nat
  | .log _ => 1
  | _ => 4

/-- The address of an operation's unit. -/
def NvmOp.addr (o : NvmOp) : Nat := o.page * 512 + o.index * unitSize o.unit

/-- The bytes of a unit whose write failed or was aborted: no rule names them, so each is a free value, and the seal
stays erased (R748, R754). -/
def Part.tornBytes (p : Part) (u : NvmUnit) : List Byte :=
  ((List.range (unitSize u - sealSize u)).map fun i => BitVec.ofNat 8 (Config.tornByte p.free i)) ++
    List.replicate (sealSize u) 0xFF#8

/-! Validity (R747, R749, R752). -/

/-- The address of record slot `i`. -/
def recAddr (i : Nat) : Nat := i * 512
/-- The address of counter unit `i`. -/
def ctrAddr (i : Nat) : Nat := 96 * 512 + i * 32
/-- The address of log unit `i`. -/
def logAddr (i : Nat) : Nat := 104 * 512 + i * 16

/-- What a record slot holds. -/
inductive SlotKind where
  | valid | unsealed | corrupt
deriving DecidableEq, Repr

/-- What a record slot holds (R747). -/
def recKind (m : List Host.Cell) (i : Nat) : SlotKind :=
  let a := recAddr i
  if nvmNat m (a + 508) 4 ≠ sealWord then .unsealed
  else if nvmNat m (a + 504) 4 = crc32c (nvmBytes m a 504) then .valid
  else .corrupt

/-- Whether a counter unit is valid (R749). -/
def ctrValid (m : List Host.Cell) (i : Nat) : Bool :=
  let a := ctrAddr i
  decide (nvmNat m (a + 28) 4 = sealWord) && decide (nvmNat m (a + 24) 4 = crc32c (nvmBytes m a 24))

/-- Whether a log unit is valid (R752). -/
def logValid (m : List Host.Cell) (i : Nat) : Bool :=
  let a := logAddr i
  decide (nvmNat m (a + 15) 1 = 0x5A) && decide (nvmNat m (a + 12) 3 = crc32c (nvmBytes m a 12) % 2 ^ 24)

/-- The number with the highest value of a function, none of an empty list. -/
def bestBy (f : Nat → Nat) : List Nat → Option Nat
  | [] => none
  | i :: l =>
    match bestBy f l with
    | some j => if f i < f j then some j else some i
    | none => some i

/-- The valid record slots. -/
def recSlots (m : List Host.Cell) : List Nat := (List.range 96).filter fun i => decide (recKind m i = .valid)
/-- The valid log units. -/
def logUnits (m : List Host.Cell) : List Nat := (List.range 512).filter (logValid m)
/-- The valid counter units. -/
def ctrUnits (m : List Host.Cell) : List Nat := (List.range 128).filter (ctrValid m)

/-- Put a number before the first of a list whose value of a function is not above its own. -/
def insertByAge (f : Nat → Nat) (i : Nat) : List Nat → List Nat
  | [] => [i]
  | j :: l => if f j ≤ f i then i :: j :: l else j :: insertByAge f i l

/-- The slots or units of a list by age, newest first (R705, R753). -/
def byAge (f : Nat → Nat) (l : List Nat) : List Nat := l.foldr (insertByAge f) []

/-! Operations. -/

/-- The held counts after a change of the array (R757). -/
def Part.showHeld (p : Part) (m : List Host.Cell) : Part :=
  (p.set NVM_INFO.REC_HELD (recSlots m).length).set NVM_INFO.SLOG_HELD (logUnits m).length

/-- The array with a page erased when an operation calls for it. -/
def NvmOp.prepare (o : NvmOp) (m : List Host.Cell) : List Host.Cell := if o.erase then nvmErase m o.page else m

/-- The positions and sequence numbers after a sealed unit (R743, R748, R749, R752). -/
def Part.unitSealed (p : Part) (o : NvmOp) : Part :=
  match o.unit with
  | .hot _ | .record _ =>
    (p.set NVM_RECSEQ.RECSEQ (p.get NVM_RECSEQ.RECSEQ + 1)).modNvm fun n => { n with recSlot := (o.page + 1) % 96 }
  | .log _ => p.modNvm fun n => { n with logSeq := n.logSeq + 1, logUnit := ((o.page - 104) * 32 + o.index + 1) % 512 }
  | .counter _ => p.modNvm fun n => { n with ctrSeq := n.ctrSeq + 1, ctrUnit := ((o.page - 96) * 16 + o.index + 1) % 128 }

/-- A page is bad from now on (R738, R740, R750). -/
def Part.markBad (p : Part) (page : Nat) : Part :=
  let p := (p.modNvm fun n => { n with bad := withBit n.bad page, counters := n.counters ++ [true] }).event NVM_STAT.BAD_EV
    NVM_EVCNT0.BADEV_CNT
  (p.set NVM_INFO.BAD_PAGES (popcount 128 p.nvm.bad)).evalWear

/-- The unit of an operation goes to the first unit of the next good page of its region (R738). -/
def Part.retryUnit (p : Part) (o : NvmOp) : Part :=
  match o.unit with
  | .hot _ | .record _ => (p.modNvm fun n => { n with recSlot := (o.page + 1) % 96 }).beginUnit o.unit
  | .log _ => (p.modNvm fun n => { n with logUnit := (o.page - 104 + 1) % 16 * 32 }).beginUnit o.unit
  | .counter _ => (p.modNvm fun n => { n with ctrUnit := (o.page - 96 + 1) % 8 * 16 }).beginUnit o.unit

/-- A latched selection of R705 is void once its slot or unit has been written, or its page erased. -/
def Part.slotWritten (p : Part) (o : NvmOp) : Part :=
  p.modPmb fun x =>
    match o.unit with
    | .hot _ | .record _ => { x with bitSlot := x.bitSlot.filter fun k => k != o.page }
    | .log _ => { x with slogUnit := x.slogUnit.filter fun k =>
        if o.erase then k / 32 != o.page - 104 else k != (o.page - 104) * 32 + o.index }
    | .counter _ => x

/-- The array and the part after an operation (R737, R738, R740, R746). Outside the states in which the NVM block works,
the operation in progress completes and the block enters reset after it (R553, R754). -/
def Part.opDone (p : Part) (m : List Host.Cell) (verifyOk : Bool) : List Host.Cell × Part :=
  match p.nvm.op with
  | none => (m, p)
  | some o =>
    if !p.nvmRuns && (p.dev != .hotlatch || p.clocksStopped) then
      (nvmWriteBytes (o.prepare m) o.addr (if verifyOk then o.bytes else p.tornBytes o.unit), { p.tick with nvm := {} })
    else if verifyOk then
      let m' := nvmWriteBytes (o.prepare m) o.addr o.bytes
      let p := ((p.modNvm fun n => { n with op := none }).unitSealed o).slotWritten o
      (m', ((p.when o.erase Part.evalWear).showHeld m').nvmKick)
    else
      let m' := nvmWriteBytes (o.prepare m) o.addr (p.tornBytes o.unit)
      let p := ((p.modNvm fun n => { n with op := none }).tick).slotWritten o
      (m', (((p.markBad o.page).retryUnit o).showHeld m').nvmKick)

/-- The array after an aborted operation (R754). -/
def Part.opAbort (p : Part) (m : List Host.Cell) : List Host.Cell :=
  match p.nvm.op with
  | none => m
  | some o => nvmWriteBytes (o.prepare m) o.addr (p.tornBytes o.unit)

/-- The operation in progress aborts (R60, R553, R754); the unit that it wrote is lost. -/
def State.nvmAbort (s : State) : State :=
  { s with array := s.part.opAbort s.array, part := (s.part.modNvm fun n => { n with op := none, hot := none }).tick }

/-! The scan of LOAD. -/

/-- The scan of the three regions (R748 to R750, R753), with the wear of R740. Outside a power-cycle start, PCYC is that of
the newest valid entry (assumption log 16). -/
def Part.scanNvm (p : Part) (m : List Host.Cell) : Part :=
  let kinds := (List.range 96).map (recKind m)
  let seqOf := fun i => nvmNat m (recAddr i) 4
  let newest := bestBy seqOf (recSlots m)
  let ctr := bestBy (fun i => nvmNat m (ctrAddr i) 4) (ctrUnits m)
  let log := bestBy (fun i => nvmNat m (logAddr i + 6) 4) (logUnits m)
  let bad := match ctr with | some i => nvmNat m (ctrAddr i + 8) 16 | none => 0
  let base := match ctr with | some i => nvmNat m (ctrAddr i + 4) 4 | none => 0
  let cold := p.get SYS_RESET.LAST_RESET == 0
  let p := p.modNvm fun n => { n with
    bad := bad
    recSlot := match newest with | some i => (i + 1) % 96 | none => 0
    ctrSeq := match ctr with | some i => nvmNat m (ctrAddr i) 4 | none => 0
    ctrUnit := match ctr with | some i => (i + 1) % 128 | none => 0
    logSeq := match log with | some i => nvmNat m (logAddr i + 6) 4 | none => 0
    logUnit := match log with | some i => (i + 1) % 512 | none => 0 }
  let p := p.set NVM_RECSEQ.RECSEQ (match newest with | some i => seqOf i | none => 0)
  let p := (p.set NVM_PCYC.PCYC (if cold then base + 1 else base)).set NVM_INFO.BAD_PAGES (popcount 128 bad)
  let p := p.set NVM_WEAR.UNSEALED (kinds.filter fun k => decide (k = .unsealed)).length
  let p := p.forN (kinds.filter fun k => decide (k = .corrupt)).length fun _ q =>
    q.event NVM_STAT.CORRUPT_EV NVM_EVCNT0.CORRUPT_CNT
  (p.showHeld m).evalWear

/-! Meaning. -/

/-- NVM_OP_DONE (R737, R738). -/
def execNvmOpDone (verifyOk : Bool) (s : State) : Host.Outcome State Fault Refusal :=
  let r := s.part.opDone s.array verifyOk
  .next { s with array := r.1, part := r.2 }

end Sys2Proof.Machine
end

