-- ==== Sys2Proof/Machine/Image.lean ====
section
/-!
DEFINITION. The Lumum image (R89 to R95), the discovery of the flash (R81 to R88), and the acceptance of a slot (R92 to R98),
with the meaning of SLOT_CHECK.
-/

namespace Sys2Proof.Machine

open Reg

/-! Configuration registers. -/

/-- Whether a field belongs to the image: type IMG, RW or RWL (R93). -/
def FieldDef.config (f : FieldDef) : Bool := f.kind == .img || f.kind == .rw || f.kind == .rwl

/-- Whether a cell of the register file belongs to a configuration field. -/
def configKey (k : Nat) : Bool :=
  match findReg registerMap (k / 32 / 4 * 4) with
  | some (d, i, j) => d.fields.any fun f => f.config && decide (f.fld.at i j = k)
  | none => false

/-- The bits of a register value that no configuration field takes. -/
def RegDef.offConfig (d : RegDef) (v : Nat) : Nat :=
  (d.fields.filter FieldDef.config).foldl (fun acc f => acc - bitsOf v f.lsb f.fld.width * 2 ^ f.lsb) v

/-- One image write (R91, R93): none where it breaks a rule. -/
def Part.imageWrite (p : Part) (type addr v : Nat) : Option Part :=
  if 14 < type ∨ addr / 0x10000 ≠ type then none
  else
    match findReg registerMap addr with
    | some (d, i, j) =>
      if d.offConfig v = 0 then
        some ((d.fields.filter FieldDef.config).foldl (fun q f => q.set f.fld (bitsOf v f.lsb f.fld.width) i j) p)
      else none
    | none => none

/-- The writes of a section body (R92). -/
def Part.bodyWrites (p : Part) (type : Nat) : Nat → List Byte → Option Part
  | 0, _ => some p
  | n + 1, bs =>
    match p.imageWrite type (leAt bs 0 4) (leAt bs 4 4) with
    | some q => q.bodyWrites type n (bs.drop 8)
    | none => none

/-! The image. -/

/-- A section table entry (R90). -/
structure Section where
  type : Nat
  offset : Nat
  length : Nat
deriving DecidableEq, Repr

/-- The section table of an image (R90). -/
def sectionsOf (b : List Byte) : List Section :=
  (List.range (leAt b 20 2)).map fun i => ⟨leAt b (64 + 12 * i) 2, leAt b (68 + 12 * i) 4, leAt b (72 + 12 * i) 4⟩

/-- IMAGE_LEN (R89). -/
def imageLen (b : List Byte) : Nat := leAt b 8 4

/-- The bytes of a slot: what the flash does not hold reads as erased. -/
def slotBytes (b : List Byte) (n : Nat) : List Byte := b.take n ++ List.replicate (n - b.length) 0xFF#8

/-- Check 12 (R96): the header of an erased or absent flash. -/
def headErased (b : List Byte) : Bool := (slotBytes b 64).all (· == 0xFF#8)

/-- Check 1 (R89). -/
def headMagic (b : List Byte) : Bool :=
  decide (leAt b 0 4 = 0x4D4D554C) && decide (leAt b 4 2 = 1) && decide (leAt b 6 2 = 64)

/-- Check 2 (R89). -/
def headCrc (b : List Byte) : Bool := decide (leAt b 60 4 = crc32c (slotBytes b 60))

/-- Check 3 (R89, R90). -/
def layoutOk (b : List Byte) : Bool :=
  let n := imageLen b
  let l := sectionsOf b
  let first := 64 + 12 * leAt b 20 2
  let apart := fun (x y : Section) => decide (x.offset + x.length ≤ y.offset) || decide (y.offset + y.length ≤ x.offset)
  decide (n % 16 = 0) && decide (128 ≤ n) && decide (n ≤ 262144) && decide (1 ≤ leAt b 20 2) && decide (leAt b 20 2 ≤ 32) &&
  decide (first ≤ n - 16) &&
  (l.all fun x => decide (x.offset % 16 = 0) && decide (x.length % 8 = 0) && decide (first ≤ x.offset) &&
    decide (x.offset + x.length ≤ n - 16)) &&
  l.zipIdx.all fun x => l.zipIdx.all fun y => x.2 == y.2 || apart x.1 y.1

/-- Apply the sections in table order (R92). -/
def Part.imageWrites (p : Part) (b : List Byte) : List Section → Option Part
  | [] => some p
  | x :: l =>
    match p.bodyWrites x.type (x.length / 8) (b.drop x.offset) with
    | some q => q.imageWrites b l
    | none => none

/-- What an accepted image leaves beside the registers. -/
def infoOf (b : List Byte) (slot : Nat) : ImageInfo :=
  { slot := slot, seq := leAt b 12 4, rollback := leAt b 16 1, keyId := leAt b 17 1
    tag := ((b.drop (imageLen b - 16)).take 16).map BitVec.toNat }

/-- The bytes that the part reads of a slot: IMAGE_LEN, inside the slot and not less than the header. -/
def readLen (slot : List Byte) : Nat := min 262144 (max 64 (imageLen slot))

/-- The verdict on a slot (R96): the error code of the first check to fail, or the part with the configuration. -/
inductive SlotVerdict where
  | fails (code : Nat)
  | accepted (p : Part)

/-- Judge a slot on a part whose configuration registers are at reset (R96, R97). -/
def Part.judgeSlot (p : Part) (o : Otp) (slot : List Byte) : SlotVerdict :=
  let b := slotBytes slot (readLen slot)
  let key := leAt b 17 1
  if headErased b then .fails 12
  else if !headMagic b then .fails 1
  else if !headCrc b then .fails 2
  else if !layoutOk b then .fails 3
  else if leAt b 24 4 ≠ 0x6408 then .fails 4
  else if bitOf (leAt b 18 1) (Config.siliconRev - 1) = 0 then .fails 5
  else if p.role == .reserved || bitOf (leAt b 19 1) (p.get SYS_STATE.ROLE) == 0 then .fails 6
  else if 64 < leAt b 16 1 ∨ leAt b 16 1 < o.count then .fails 7
  else if 1 < key ∨ !Config.keyPresent key ∨ (key = 0 ∧ o.revoked0) ∨ (key = 1 ∧ o.revoked1) then .fails 8
  else
    match p.imageWrites b (sectionsOf b) with
    | none => .fails 9
    | some q =>
      let n := imageLen b - 16
      if (cmac (Config.imageKey key) (b.take n)).map (BitVec.ofNat 8) ≠ (b.drop n).take 16 then .fails 10
      else if !q.configOk then .fails 11
      else .accepted q

/-! The flash. -/

/-- Whether a flash answers a quad read (R85): the bit that its quad-enable method names is set; a method without a bit
needs none. -/
def quadBit (f : Flash) : Bool :=
  match f.sfdp.quadEnable with
  | some (reg, k) => bitOf (nth f.status reg 0) k == 1
  | none => true

/-- Whether the flash answers a valid SFDP header (R82). -/
def sfdpOk (f : Sfdp) : Bool := f.signature == [0x53#8, 0x46#8, 0x44#8, 0x50#8] && f.majorRev == 1

/-- The quad mode that the part selects, with its command, before the quad-enable bit counts (R83). -/
def quadMode (f : Sfdp) : Option (Nat × ReadMode) :=
  match f.adv144, f.adv114 with
  | some m, _ => some (0xEB, m)
  | none, some m => some (0x6B, m)
  | none, none => none

/-- The 1-1-1 fast read of a valid header: the counts of the table, or 8 dummy clocks and no mode bits (R83). -/
def singleMode (f : Sfdp) : Nat × ReadMode := (0x0B, f.adv111.getD ⟨0, 8⟩)

/-- The read command of the image, its mode bits and dummy clocks (R83, R85, R86). -/
def flashMode (f : Flash) : Nat × ReadMode :=
  if sfdpOk f.sfdp then
    match quadMode f.sfdp with
    | some m => if quadBit f then m else singleMode f.sfdp
    | none => singleMode f.sfdp
  else (0x0B, ⟨0, 8⟩)

/-- Whether a valid header leads to 1-1-1 fast read (R83, R85). -/
def flashSingle (f : Flash) : Bool := sfdpOk f.sfdp && (flashMode f).1 == 0x0B

/-- The count of address bytes (R84, R86). -/
def flashAddrBytes (f : Flash) : Nat := if sfdpOk f.sfdp && f.sfdp.only4Byte then 4 else 3

/-- The read of the SFDP header (R81): command 0x5A, a 3-byte address, 8 dummy clocks, on QIO0 and QIO1. -/
def sfdpRead : FlashRead := .data 0x5A 0 3 0 8 1 16

/-- A read of image bytes (R83 to R88). -/
def imageRead (f : Flash) (addr len : Nat) : FlashRead :=
  let m := flashMode f
  .data m.1 addr (flashAddrBytes f) m.2.modeBits m.2.dummy (if m.1 = 0x0B then 1 else 4) len

/-- The flash address of a slot (R88). -/
def slotAddr (b : Bool) : Nat := if b then 0x40000 else 0

/-- The reads of the discovery (R81, R85): the header, and before a quad read the status register that the method names. -/
def discovery (f : Flash) : List FlashRead :=
  let status := match quadMode f.sfdp, f.sfdp.quadEnable with
    | some _, some (reg, _) => [FlashRead.status reg]
    | _, _ => []
  sfdpRead :: (if sfdpOk f.sfdp then status else [])

/-- QSPI_SINGLE and QSPI_NO_SFDP (R83, R85, R86). -/
def Part.showSfdp (p : Part) (f : Flash) : Part :=
  (p.put SYS_IMAGE.QSPI_SINGLE (flashSingle f)).put SYS_IMAGE.QSPI_NO_SFDP (!sfdpOk f.sfdp)

/-- Whether slot B goes first (R98): its header passes checks 1 and 2, and that of A does not or has the lower SEQ. -/
def bFirst (f : Flash) : Bool :=
  let good := fun b => !headErased b && headMagic b && headCrc b
  good f.slotB && (!good f.slotA || decide (leAt f.slotA 12 4 < leAt f.slotB 12 4))

/-- Show what the accepted image says of itself (R119, R120). -/
def Part.showImage (p : Part) (i : ImageInfo) : Part :=
  (((p.set SYS_IMAGE.SLOT i.slot).set SYS_IMAGE.ROLLBACK i.rollback).set SYS_IMAGE.KEY_ID i.keyId).set SYS_SEQ.SEQ i.seq

/-- What the part reads of the flash for a slot (R80, R98): with the first slot the discovery and both headers, then the
image. -/
def slotReads (f : Flash) (first b : Bool) : List FlashRead :=
  (if first then discovery f ++ [imageRead f (slotAddr false) 64, imageRead f (slotAddr true) 64] else []) ++
    [imageRead f (slotAddr b) (readLen (if b then f.slotB else f.slotA))]

/-- Judge the next slot in the order of R98; a slot that fails leaves the configuration registers at reset (R96, R97). -/
def Part.judgeNext (p : Part) (o : Otp) (f : Flash) : Part :=
  let p := p.showSfdp f
  let first := !p.load.judgedA && !p.load.judgedB
  let b := if p.load.judgedA then true else if p.load.judgedB then false else bFirst f
  let bytes := if b then f.slotB else f.slotA
  let load := { p.load with reads := slotReads f first b }
  let q := { p with load := if b then { load with judgedB := true } else { load with judgedA := true } }
  match q.judgeSlot o bytes with
  | .fails c => q.set (if b then SYS_IMAGE.ERR_B else SYS_IMAGE.ERR_A) c
  | .accepted r =>
    let i := infoOf bytes (b2n b)
    { r.showImage i with load := { r.load with image := some i } }

/-- Whether the slots have been judged as far as R98 asks: one is accepted, or both have failed. -/
def Part.judged (p : Part) : Bool := p.load.image.isSome || (p.load.judgedA && p.load.judgedB)

/-- The record of the supply loss that waits for this LOAD (R63, R743). -/
def Part.lossRecord (p : Part) : Part :=
  if p.load.lossDue then
    { p with load := { p.load with lossOpen := true } }.record 0x05 (p.get PWR_STATUS.FIRST_LOSS) .none_ none none
  else p

/-- The work of LOAD on the NVM (R63, R80, R748): the scan, then the record of a supply loss begins. -/
def Part.loadNvm (p : Part) (m : List Host.Cell) : Part :=
  let p := p.scanNvm m
  { p with load := { p.load with scanned := true } }.nvmKick.lossRecord

/-- SLOT_CHECK (R80, R96 to R98): the next slot is judged; with the last of them the work on the NVM begins. -/
def Part.slotCheck (p : Part) (o : Otp) (m : List Host.Cell) (f : Flash) : Part :=
  if p.dev ≠ .load ∨ p.judged then p
  else
    let q := p.judgeNext o f
    if q.judged then q.loadNvm m else q

/-- SLOT_CHECK (R96). -/
def execSlotCheck (flash : Flash) (s : State) : Host.Outcome State Fault Refusal :=
  .next { s with part := s.part.slotCheck s.otp s.array flash }

end Sys2Proof.Machine
end

