-- ==== Sys2Proof/Machine/Halyard.lean ====
section
/-!
DEFINITION. The ring (R617 to R646, R663 to R677): received frames and their forwarding, the link delay, the time base,
discovery, barriers, snapshots and the requests of HAL_OPREQ, with the meanings of their commands. The reset operations
stand with the device states.
-/

namespace Sys2Proof.Machine

open Reg

/-- The address of HAL_OPREQ (R670). -/
def addrOpreq : Nat := 0xB0030

/-- A command of the ring begins: what was sent before it is gone. -/
def Part.hal0 (p : Part) : Part := p.modHal fun h => { h with sent := [] }

/-- This node's number. -/
def Part.nodeId (p : Part) : Nat := p.get HAL_CFG.NODE_ID

/-- The node of an address (R623). -/
def nodeOf (a : Nat) : Nat := a / 64 % 2048

/-- Whether a frame is a broadcast (R623). -/
def frameBcast (f : Frame) : Bool := bitOf f.flags 0 == 1

/-- The frame types that never leave their link (R626). -/
def linkLocal (type : Nat) : Bool := type == 0x02 || type == 0x03 || type == 0x60

/-- The frame types of R626. -/
def knownTypes : List Nat := [0x01, 0x02, 0x03, 0x04, 0x10, 0x20, 0x21, 0x30, 0x31, 0x32, 0x40, 0x60]

/-- Count a failed CRC at a port (R624). -/
def Part.crcBad (p : Part) : HalPort → Part
  | .east => p.bump HAL_ERRCNT.CRC_E_CNT
  | .west => p.bump HAL_ERRCNT.CRC_W_CNT

/-- Forward a frame out of the other port (R624). -/
def Part.forward (p : Part) (from_ : HalPort) (f : Frame) (bad : Bool) : Part :=
  let out := otherPort from_
  if p.portIsUp out then p.modHal fun h => { h with sent := h.sent ++ [.frame out f bad] } else p

/-- Whether a copy of a broadcast came within the last 1 ms (R625). -/
def Part.seenCopy (p : Part) (f : Frame) : Bool :=
  p.hal.seen.any fun x => x.1 == nodeOf f.src && x.2.1 == f.type && x.2.2.1 == f.id && decide (p.tb < x.2.2.2 + tickMs)

/-- Remember a copy of a broadcast. -/
def Part.noteCopy (p : Part) (f : Frame) : Part :=
  p.modHal fun h => { h with
    seen := (nodeOf f.src, f.type, f.id, p.tb) :: (h.seen.filter fun x => decide (p.tb < x.2.2.2 + tickMs)) }

/-- A frame of a type is received (R624, R625): forwarded as `fwd` makes it, its CRC failure counted; the answer holds the
frame, HOPS raised, when it is delivered. -/
def Part.receive (p : Part) (r : HalRx) (type : Nat) (fwd : Frame → Frame := id) : Part × Option Frame :=
  let p := p.hal0
  if !(p.hostActive && p.portIsUp r.port) then (p, none)
  else
    let f := { r.frame with type := type, hops := r.frame.hops + 1 }
    let mine := !frameBcast f && nodeOf f.dest == p.nodeId
    let p := if !linkLocal type && decide (f.hops < f.hopLim) && !mine then p.forward r.port (fwd f) (!r.crcOk) else p
    if !r.crcOk then (p.crcBad r.port, none)
    else if linkLocal type then (p, some f)
    else if frameBcast f then (if p.seenCopy f then (p, none) else (p.noteCopy f, some f))
    else if mine then (p, some f)
    else (p, none)

/-! Ports. -/

/-- The UP bit of a port (R666). -/
def upFld : HalPort → Fld
  | .east => HAL_STAT.UP_E
  | .west => HAL_STAT.UP_W

/-- Evaluate the service cause "ring broken" (R645): both ports enabled, and a port down or INTACT = 0 in the latest SYNC. -/
def Part.ringEval (p : Part) (unit : Nat := 0xFF) : Part :=
  if !(p.portEn .east && p.portEn .west) then p
  else if !(p.portIsUp .east && p.portIsUp .west && p.hal.seenIntact) then
    let q := p.modHal fun h => { h with intactSince := none }
    if q.bit SVC_STATUS.CAUSE 7 then q else (q.event HAL_STAT.RINGBRK_EV HAL_EVCNT.RINGBRK_CNT).raiseCause 7 unit
  else p.modHal fun h => { h with intactSince := some (h.intactSince.getD p.tb) }

/-- RING_BROKEN_CLEAR (R645): 10 ms have passed with both ports up and INTACT = 1. -/
def Part.ringClear (p : Part) : Part :=
  match p.hal.intactSince with
  | some t => if p.hostActive && p.bit SVC_STATUS.CAUSE 7 then (p.advance (t + 10 * tickMs)).clearCause 7 else p
  | none => p

/-- Whether a port is out of service (R581). -/
def Part.outOf (p : Part) (port : HalPort) : Bool := nth p.hal.out_ (portIx port) false

/-- PORT_UP (R620): the port has completed a delay exchange. -/
def Part.portUp (p : Part) (port : HalPort) : Part :=
  let p := p.hal0
  if p.hostActive && p.portEn port && !p.outOf port && !p.portIsUp port && nth p.hal.delayDone (portIx port) false then
    ((p.set (upFld port) 1).event HAL_STAT.LINK_EV HAL_EVCNT.LINK_CNT).ringEval
  else p

/-- A port goes down (R620, R645). -/
def Part.dropPort (p : Part) (port : HalPort) : Part :=
  if p.portIsUp port then
    ((p.set (upFld port) 0).event HAL_STAT.LINK_EV HAL_EVCNT.LINK_CNT).ringEval (portIx port)
  else p

/-- A port goes out of service until reset (R578, R581); the service cause follows R581 and R645. -/
def Part.retirePort (p : Part) (port : HalPort) : Part :=
  let p := (p.modHal fun h => { h with out_ := upd h.out_ (portIx port) fun _ => true }).dropPort port
  if p.bit SVC_STATUS.CAUSE 7 then p else p.raiseCause 7 (portIx port)

/-- PORT_DOWN (R620). -/
def Part.portDown (p : Part) (port : HalPort) (why : PortDownWhy) : Part :=
  let p := p.hal0
  match why with
  | .loopback => if p.hostActive then p.retirePort port else p
  | _ => if p.hostActive then p.dropPort port else p

/-! Link delay (R631). -/

/-- A link-local frame of this node. -/
def Part.linkFrame (p : Part) (type : Nat) (payload : List Byte) : Frame :=
  ⟨type, p.brokenBit, p.ownSrc, 0, 0, 0, 0, payload⟩

/-- Send a link-local frame out of an enabled port; the exchange of R631 is part of bringing the port up. -/
def Part.sendLink (p : Part) (port : HalPort) (f : Frame) : Part :=
  if p.portEn port && !p.outOf port then p.modHal fun h => { h with sent := h.sent ++ [.frame port f false] } else p

/-- DELAY_EXCHANGE (R631): every 1 ms at each port. -/
def Part.delayExchange (p : Part) (port : HalPort) : Part :=
  let p := p.hal0
  if p.hostActive && p.portEn port && !p.outOf port then
    let at_ := nextOn (nth p.hal.exchAt (portIx port) none) tickMs p.tb
    let p := p.advance at_
    (p.modHal fun h => { h with
      exchAt := upd h.exchAt (portIx port) fun _ => some at_
      delayAt := upd h.delayAt (portIx port) fun _ => some p.nowSt }).sendLink port (p.linkFrame 0x02 [])
  else p

/-- DELAY_REQ (R631): the turnaround is a measured time that no rule states, a free value (assumption log 6). -/
def Part.delayReq (p : Part) (r : HalRx) : Part :=
  let p := p.hal0
  if !p.hostActive || !p.portEn r.port then p
  else if !r.crcOk then p.crcBad r.port
  else (p.sendLink r.port (p.linkFrame 0x03 (leBytes 4 (Config.unstated p.free)))).tick

/-- ASYM of a port in ps (R665). -/
def Part.asym (p : Part) : HalPort → Int
  | .east => p.getS HAL_ASYM.ASYM_E
  | .west => p.getS HAL_ASYM.ASYM_W

/-- The link delay register of a port (R668). -/
def dlyFld : HalPort → Fld
  | .east => HAL_LINKDLY.DLY_E
  | .west => HAL_LINKDLY.DLY_W

/-- DELAY_RESP (R631). -/
def Part.delayResp (p : Part) (r : HalRx) : Part :=
  let p := p.hal0
  if !p.hostActive || !p.portEn r.port then p
  else if !r.crcOk then p.crcBad r.port
  else
    match nth p.hal.delayAt (portIx r.port) none with
    | some t =>
      let trip : Rat := (p.nowSt - t : Nat)
      let one := (trip - (leAt r.frame.payload 0 4 : Rat)) / 2 + (p.asym r.port : Rat) / 25
      (p.set (dlyFld r.port) (satU 16 (roundQ one))).modHal fun h => { h with
        delayAt := upd h.delayAt (portIx r.port) fun _ => none, delayDone := upd h.delayDone (portIx r.port) fun _ => true }
    | none => p

/-! The time base (R629 to R636). -/

/-- The payload of SYNC (R626). -/
def syncPayload (tb : Nat) (corr : Int) (ringN intact : Nat) : List Byte :=
  leBytes 8 tb ++ leBytesS 4 corr ++ leBytes 2 ringN ++ leBytes 1 intact ++ leBytes 1 0

/-- CORR of a SYNC payload. -/
def corrOf (pl : List Byte) : Int := toS 32 (leAt pl 8 4)

/-- SYNC as it is forwarded (R632): CORR raised by the ingress delay and the residence, a measured time of at most 40 ns
(R622) that no rule states, a free value (assumption log 6). -/
def Part.syncForward (p : Part) (port : HalPort) (f : Frame) : Frame :=
  let corr := corrOf f.payload + p.get (dlyFld port) + (Config.unstated p.free % 1601 : Nat)
  { f with payload := f.payload.take 8 ++ leBytesS 4 corr ++ f.payload.drop 12 }

/-- 100 ns in 25 ps steps. -/
def ns100 : Int := 4000

/-- Whether a node of a TB ranks above another (R630), TBs in 25 ps steps. -/
def outranks (tbX : Int) (idX : Nat) (tbY : Int) (idY : Nat) : Bool :=
  if ns100 < tbX - tbY then true else if ns100 < tbY - tbX then false else decide (idX < idY)

/-- TB of the time master now, in 25 ps steps, from its last SYNC: the node's own ticks since then less what it has steered
(R633). -/
def Part.masterNow (p : Part) : Int :=
  let since : Int := ((p.tb - p.hal.masterAt) * 32 : Nat)
  p.hal.masterTb + since * 1000000 / (1000000 + p.hal.steer)

/-- The steering for an offset (R633): TB is slowed while it is ahead and sped up while it is behind, by at most 300 ppm; the
rule fixes no amount, a free value (assumption log 4). -/
def steerFor (ofs : Int) (x : Nat) : Int := if ofs = 0 then 0 else if 0 < ofs then -((x % 300 : Nat) + 1) else (x % 300 : Nat) + 1

/-- Whether this node follows the SYNC of a node (R630). -/
def Part.follows (p : Part) (id : Nat) (est : Int) : Bool :=
  let own := p.flag HAL_CFG.MASTER_ELIG && outranks p.nowSt p.nodeId est id
  let cur := p.get HAL_RING.MASTER_ID
  let stale := match p.hal.lastSync with
    | some t => decide (t + 30 * tickUs < p.tb)
    | none => true
  !own && (id == cur || stale || outranks est id p.masterNow cur)

/-- TB_LOCK is lost (R634, R651). -/
def Part.loseLock (p : Part) : Part :=
  let p := p.modHal fun h => { h with goodSyncs := 0 }
  if p.flag HAL_STAT.TB_LOCK then
    ((p.set HAL_STAT.TB_LOCK 0).event HAL_STAT.LOCKLOST_EV HAL_EVCNT.LOCKLOST_CNT).set PAIR_STAT.ARMED 0
  else p

/-- The lock counts after a SYNC (R634, R636). -/
def Part.lockCount (p : Part) (ofs : Int) : Part :=
  let good := decide (ofs.natAbs ≤ 80)
  let bad := decide (120 < ofs.natAbs)
  let p := p.modHal fun h => { h with
    goodSyncs := if good then h.goodSyncs + 1 else 0, badSyncs := if bad then h.badSyncs + 1 else 0 }
  if 8 ≤ p.hal.goodSyncs ∧ !p.flag HAL_STAT.TB_LOCK then (p.set HAL_STAT.TB_LOCK 1).set HAL_STAT.TB_COARSE 0
  else if 4 ≤ p.hal.badSyncs then p.loseLock
  else p

/-- Each armed instant of the TB-scheduled sequences that lies in the past fires once (R663). -/
def Part.tbCatchUp (p : Part) : Part :=
  p.forN 8 fun s q =>
    let c := q.seqC s
    if c.tbArmed && q.get SEQ_CFG.TRIG s == 3 && decide (c.tbNext < q.tb) then
      let per := q.seqPeriod s
      let past := if per = 0 then 1 else (q.tb - c.tbNext - 1) / per + 1
      (q.modSeq s fun x => { x with tbArmed := per != 0, tbNext := x.tbNext + past * per }).forN (min past 300) fun _ x =>
        x.seqTrigger s
    else q

/-- The correction of an offset (R23, R633): TB steps forward by the whole offset while every rail is in OFF and the node is
behind by more than 100 ns; else the node steers. -/
def Part.tbCorrect (p : Part) (ofs : Int) : Part :=
  if !p.anyRailOn && decide (ofs < -ns100) then
    let q := p.advanceSt (p.nowSt + (-ofs).toNat)
    let q := q.modHal fun h => { h with lastSync := some q.tb, masterAt := q.tb, steer := 0 }
    (q.event HAL_STAT.STEP_EV HAL_ERRCNT.STEP_CNT).tbCatchUp
  else (p.modHal fun h => { h with steer := steerFor ofs (Config.steering p.free) }).tick

/-- OFFSET and HOPS_M of a SYNC copy (R632, R668). -/
def Part.showOffset (p : Part) (ofs : Int) (hops : Nat) : Part :=
  (p.setSat HAL_TIME.OFFSET ofs).set HAL_TIME.HOPS_M hops

/-- SYNC (R628, R630, R632 to R634): a later copy that has crossed fewer hops replaces the offset of the first. -/
def Part.sync (p : Part) (r : HalRx) : Part :=
  let x := p.receive r 0x01 (p.syncForward r.port)
  let p := x.1.tick
  let pl := r.frame.payload
  let id := nodeOf r.frame.src
  let est : Int := (leAt pl 0 8 * 32 : Nat) + corrOf pl + p.get (dlyFld r.port)
  let ofs : Int := (p.nowSt : Int) - est
  match x.2 with
  | some f =>
    if !p.follows id est then p
    else
      let intact := bitOf (leAt pl 14 1) 0
      let p := p.modHal fun h => { h with
        lastSync := some p.tb, masterTb := est, masterAt := p.tb, seenIntact := intact == 1 }
      let p := ((((p.set HAL_STAT.IS_MASTER 0).set HAL_RING.MASTER_ID id).set HAL_RING.RING_N (leAt pl 12 2)).set
        HAL_STAT.INTACT intact).set HAL_STAT.HOLDOVER 0
      (((p.showOffset ofs f.hops).lockCount ofs).tbCorrect ofs).ringEval
  | none =>
    if p.hostActive && p.portIsUp r.port && r.crcOk && id == p.get HAL_RING.MASTER_ID && !p.flag HAL_STAT.IS_MASTER &&
        decide (r.frame.hops + 1 < p.get HAL_TIME.HOPS_M) then (p.showOffset ofs (r.frame.hops + 1)).tbCorrect ofs
    else p

/-- SYNC_SEND (R630): every 10 µs an eligible node that nobody outranks. -/
def Part.syncSend (p : Part) : Part :=
  let p := p.hal0
  let at_ := nextOn p.hal.syncAt (10 * tickUs) p.tb
  let heard := match p.hal.lastSync with
    | some t => decide (max p.tb at_ ≤ t + 30 * tickUs)
    | none => false
  if !p.hostActive || !p.flag HAL_CFG.MASTER_ELIG || heard then p
  else
    let p := (p.advance at_).modHal fun h => { h with syncAt := some at_ }
    let p := ((p.set HAL_STAT.IS_MASTER 1).set HAL_RING.MASTER_ID p.nodeId).set HAL_STAT.HOLDOVER 0
    p.broadcastNext 0x01 (syncPayload p.tb 0 (p.get HAL_RING.RING_N) (p.get HAL_STAT.INTACT))

/-- TB_LOCK_TIMEOUT (R634): 100 µs without a SYNC. -/
def Part.lockTimeout (p : Part) : Part :=
  if !p.hostActive || p.flag HAL_STAT.IS_MASTER then p
  else
    let p := match p.hal.lastSync with
      | some t => p.advance (t + 100 * tickUs)
      | none => p
    p.loseLock.set HAL_STAT.HOLDOVER 1

/-! Discovery (R628). -/

/-- DISCOVER_SEND: every 1 ms. -/
def Part.discoverSend (p : Part) : Part :=
  let p := p.hal0
  if p.hostActive && p.flag HAL_STAT.IS_MASTER then
    let at_ := nextOn p.hal.discAt tickMs p.tb
    let p := p.advance at_
    ((p.modHal fun h => { h with
      discAt := some at_, discoverAt := some p.tb, nextId := (h.nextId + 1) % 65536 })).send .east
      ⟨0x04, 1 + p.brokenBit, p.ownSrc, 0, p.hal.nextId, 0, 2048, []⟩
  else p

/-- The master's own view of the ring (R628, R645). -/
def Part.showIntact (p : Part) (intact : Bool) : Part :=
  ((p.put HAL_STAT.INTACT intact).modHal fun h => { h with seenIntact := intact, discoverAt := none }).ringEval

/-- DISCOVER. -/
def Part.discover (p : Part) (r : HalRx) : Part :=
  if nodeOf r.frame.src == p.nodeId && p.flag HAL_STAT.IS_MASTER then
    let p := p.hal0
    if !(p.hostActive && p.portIsUp r.port) then p
    else if !r.crcOk then p.crcBad r.port
    else
      match p.hal.discoverAt, r.port with
      | some t, .west =>
        if p.tb ≤ t + 100 * tickUs then (p.set HAL_RING.RING_N (r.frame.hops + 1)).showIntact true else p
      | _, _ => p
  else (p.receive r 0x04).1

/-- DISCOVER_TIMEOUT: DISCOVER has not returned within 100 µs. -/
def Part.discoverTimeout (p : Part) : Part :=
  match p.hal.discoverAt with
  | some t => if p.hostActive && p.flag HAL_STAT.IS_MASTER then (p.advance (t + 100 * tickUs)).showIntact false else p
  | none => p

/-! Faults. -/

/-- FAULT (R643, R674). -/
def Part.faultRx (p : Part) (r : HalRx) : Part :=
  let x := p.receive r 0x10
  match x.2 with
  | some f =>
    let p := ((x.1.set HAL_RXFAULT.SRC f.src).set HAL_RXFAULT.CODE (leAt f.payload 0 1)).set HAL_RXFAULT.CLASS
      (leAt f.payload 1 1)
    (p.set HAL_RXFAULT.RAIL (leAt f.payload 2 1)).event HAL_STAT.RXFAULT_EV HAL_EVCNT.RXFAULT_CNT
  | none => x.1

/-- UNKNOWN_TYPE_FRAME (R625). -/
def Part.unknownFrame (p : Part) (r : HalRx) : Part :=
  if knownTypes.contains r.frame.type then p.hal0
  else
    let q := (p.receive r r.frame.type).1
    if p.hostActive && p.portIsUp r.port && r.crcOk then q.event HAL_STAT.UNK_EV HAL_ERRCNT.UNK_CNT else q

/-! Requests (R670 to R672). -/

/-- An operation of this node ends (R672). -/
def Part.opEnd (p : Part) (result : Nat) : Part :=
  (((p.modHal fun h => { h with runOp := 0 }).set HAL_OPSTAT.BUSY 0).set HAL_OPSTAT.RESULT result).event
    HAL_OPSTAT.OPDONE_EV HAL_OPSTAT.OPDONE_CNT

/-- An operation of this node begins. -/
def Part.opStart (p : Part) (op : Nat) : Part :=
  ((((p.modHal fun h => { h with runOp := op }).set HAL_OPSTAT.BUSY 1).set HAL_OPSTAT.OP op).set HAL_OPSTAT.RESULT 0).set
    HAL_OPSTAT.MISSING 0

/-- A refused request: its result and one refusal. -/
def Part.opRefuse (p : Part) (op result : Nat) : Part :=
  ((p.set HAL_OPSTAT.OP op).set HAL_OPSTAT.RESULT result).refuse .pmbus addrOpreq

/-- What every request checks first. -/
def Part.opReq (p : Part) (key op : Nat) (f : Part → Part) : Part :=
  let p := p.hal0
  if key ≠ 0xA5 || p.flag HAL_OPSTAT.BUSY then p.opRefuse op 2 else f p

/-! Barriers (R638, R646, R673). -/

/-- The state of a barrier slot (R673). -/
def Part.barState (p : Part) (n : Nat) : Nat := p.get HAL_BAR.STATE 0 n

/-- The slot of a barrier. -/
def Part.barOf (p : Part) (bid : Nat) : Option Nat :=
  (List.range 4).find? fun n => p.barState n != 0 && p.get HAL_BAR.BID 0 n == bid

/-- The first free slot. -/
def Part.barFree (p : Part) : Option Nat := (List.range 4).find? fun n => p.barState n == 0

/-- Give a slot to a barrier in a state. -/
def Part.barTake (p : Part) (n bid st : Nat) : Part :=
  ((p.set HAL_BAR.BID bid 0 n).set HAL_BAR.STATE st 0 n).set HAL_BAR.ORIG 0 0 n

/-- Forward a token on, or back out of its arrival port at a line end (R638). -/
def Part.tokenOn (p : Part) (port : HalPort) (f : Frame) : Part :=
  if f.hops < f.hopLim then p.send (if p.portIsUp (otherPort port) then otherPort port else port) f else p

/-- Forward the tokens of a barrier that this node holds. -/
def Part.tokensOn (p : Part) (bid : Nat) : Part :=
  let mine := p.hal.tokens.filter fun t => t.2.id == bid
  mine.foldl (fun q t => q.tokenOn t.1 t.2)
    (p.modHal fun h => { h with tokens := h.tokens.filter fun t => !(t.2.id == bid) })

/-- This node arrives at a barrier (R638, R646); none when every slot is taken. -/
def Part.arrive (p : Part) (bid : Nat) : Option Part :=
  match p.barOf bid with
  | some n => some (if p.barState n = 1 then (p.set HAL_BAR.STATE 2 0 n).tokensOn bid else p)
  | none => p.barFree.map fun n => (p.barTake n bid 2).tokensOn bid

/-- This node releases a barrier (R638). -/
def Part.barRel (p : Part) (bid : Nat) : Part :=
  let p := p.modHal fun h => { h with
    released := (bid, p.tb) :: h.released.filter fun x => decide (p.tb < x.2 + tickMs) }
  let p : Part := match p.barOf bid with
    | some n =>
      if p.barState n = 3 then p
      else
        let p := (((p.set HAL_BAR.STATE 3 0 n).set HAL_BAR.REL_EV 1 0 n).bump HAL_BARCNT.REL_CNT n).modHal fun h => { h with
          relAt := upd h.relAt n fun _ => p.tb }
        if p.flag HAL_BAR.ORIG 0 n && p.hal.runOp == 2 then p.opEnd 1 else p
    | none => p
  p.tokensOn bid

/-- BARRIER_ARRIVE (R638). -/
def Part.barArrive (p : Part) (key bid : Nat) : Part :=
  p.opReq key 1 fun p =>
    match p.arrive (bid % 65536) with
    | some q => (q.opStart 1).opEnd 1
    | none => p.opRefuse 1 2

/-- N of the ring, 2,048 for an unknown one (R627). -/
def Part.ringNodes (p : Part) : Nat := p.ringSpan + 1

/-- BARRIER_LAUNCH (R638). -/
def Part.barLaunch (p : Part) (key bid : Nat) : Part :=
  p.opReq key 2 fun p =>
    let b := bid % 65536
    match p.arrive b with
    | some q =>
      match q.barOf b with
      | some n =>
        let lim := if q.flag HAL_STAT.INTACT then q.ringNodes else 2 * (q.ringNodes - 1)
        let q := ((q.set HAL_BAR.STATE 2 0 n).set HAL_BAR.ORIG 1 0 n).modHal fun h => { h with
          returns := upd h.returns n fun _ => 0, launchAt := upd h.launchAt n fun _ => p.tb }
        (q.opStart 2).send (if q.portIsUp .east then .east else .west)
          ⟨0x20, q.brokenBit, q.ownSrc, q.ownSrc, b, 0, lim, []⟩
      | none => q
    | none => p.opRefuse 2 2

/-- A token of this node's own barrier returns (R638). -/
def Part.tokenHome (p : Part) (n : Nat) (port : HalPort) (f : Frame) : Part :=
  let k := nth p.hal.returns n 0 + 1
  let p := p.modHal fun h => { h with returns := upd h.returns n fun _ => k }
  if p.barState n = 3 then p
  else if p.flag HAL_STAT.INTACT || !p.flag HAL_STAT.UP_E || !p.flag HAL_STAT.UP_W || decide (2 ≤ k) then
    (p.broadcast 0x21 f.id []).barRel f.id
  else p.tokenOn port f

/-- BAR_TOKEN (R638, R646). -/
def Part.barToken (p : Part) (r : HalRx) : Part :=
  let p := p.hal0
  if !(p.hostActive && p.portIsUp r.port) then p
  else if !r.crcOk then p.crcBad r.port
  else
    let f := { r.frame with type := 0x20, hops := r.frame.hops + 1 }
    let passed := p.hal.released.any fun x => x.1 == f.id && decide (p.tb < x.2 + tickMs)
    let hold := fun (q : Part) => q.modHal fun h => { h with tokens := h.tokens ++ [(r.port, f)] }
    match p.barOf f.id with
    | some n =>
      if nodeOf f.src == p.nodeId && p.flag HAL_BAR.ORIG 0 n then p.tokenHome n r.port f
      else if p.barState n = 1 then hold p
      else p.tokenOn r.port f
    | none =>
      if passed then p.tokenOn r.port f
      else
        match p.barFree with
        | some n => hold (p.barTake n f.id 1)
        | none => hold p

/-- BAR_RELEASE (R638). -/
def Part.barRelease (p : Part) (r : HalRx) : Part :=
  let x := p.receive r 0x21
  match x.2 with
  | some f => x.1.barRel f.id
  | none => x.1

/-- BARRIER_SLOT_FREE (R638, R646): a token that waits for a slot takes the one that frees. -/
def Part.barSlotFree (p : Part) (n : Nat) : Part :=
  if p.hostActive && p.barState n == 3 then
    let p := (p.advance (nth p.hal.relAt n 0 + tickMs)).barTake n 0 0
    match p.hal.tokens.find? fun t => (p.barOf t.2.id).isNone with
    | some t => p.barTake n t.2.id 1
    | none => p
  else p

/-- BARRIER_TIMEOUT (R638): the token has not returned within 10 ms. -/
def Part.barTimeout (p : Part) (n : Nat) : Part :=
  if p.hostActive && p.barState n == 2 && p.flag HAL_BAR.ORIG 0 n && p.hal.runOp == 2 then
    (p.advance (nth p.hal.launchAt n 0 + 10 * tickMs)).opEnd 4
  else p

/-! Snapshots (R640, R641, R676, R677). -/

/-- T_bcast in ticks (R637). -/
def Part.tBcast (p : Part) : Nat :=
  375 + 50 * (if p.flag HAL_STAT.INTACT && p.get HAL_RING.RING_N != 0 then (p.ringSpan + 1) / 2 else p.ringSpan)

/-- The two values of entry `i` of a snapshot (R641). -/
def Part.snapPair (p : Part) (scope group i : Nat) : Int × Int :=
  if scope = 0 then (p.getS SEN_ERR.ECODE i, satS 16 (roundDiv (p.getS SEN_ISUM.I_FAST i) 128))
  else
    let q := 8 * group + i
    (match (p.ph q).samples with | x :: _ => x.cur | [] => 0, p.getS PCS_AVG.MEAN q)

/-- Latch the values of a snapshot (R640, R676). -/
def Part.latch (p : Part) (s : Snap) (ids : List Nat) (late : Bool) : Part :=
  let p := p.forN 8 fun i q =>
    let v := q.snapPair s.scope s.group i
    (q.setS HAL_SNAP.V0 v.1 0 i).setS HAL_SNAP.V1 v.2 0 i
  let p := (((p.set HAL_SNAPSTAT.ID s.id).put HAL_SNAPSTAT.LATE late).put HAL_SNAPSTAT.UNLOCKED
    (!p.flag HAL_STAT.TB_LOCK)).set HAL_SNAPSTAT.SCOPE s.scope
  (p.set HAL_SNAPSTAT.GROUP s.group).modHal fun h => { h with latched := ids }

/-- SNAPSHOT_SCHEDULE (R640). DESIGN CHOICE (assumption log 53): the rule gives a request that comes too soon RESULT = 3 and
one without TB_LOCK RESULT = 2, and no order; RESULT = 3 where both hold. -/
def Part.snapSchedule (p : Part) (key id : Nat) : Part :=
  p.opReq key 3 fun p =>
    let ts := p.get HAL_OPT_LO.T_LO + 2 ^ 32 * p.get HAL_OPT_HI.T_HI
    if ts < p.tb + p.tBcast then p.opRefuse 3 3
    else if !p.flag HAL_STAT.TB_LOCK then p.opRefuse 3 2
    else
      let s : Snap := ⟨id % 65536, ts, p.get HAL_OPARG.SCOPE, p.get HAL_OPARG.GROUP⟩
      let p := (p.opStart 3).broadcast 0x30 s.id
        (leBytes 8 ts ++ leBytes 1 s.scope ++ leBytes 1 s.group ++ leBytes 2 0)
      (p.modHal fun h => { h with snaps := h.snaps ++ [s] }).opEnd 1

/-- SNAP_SCHED (R640). -/
def Part.snapSched (p : Part) (r : HalRx) : Part :=
  let x := p.receive r 0x30
  match x.2 with
  | some f =>
    let p := x.1
    let s : Snap := ⟨f.id, leAt f.payload 0 8, bitOf (leAt f.payload 8 1) 0, leAt f.payload 9 1 % 8⟩
    if s.ts < p.tb then p.latch s [s.id] true else p.modHal fun h => { h with snaps := h.snaps ++ [s] }
  | none => x.1

/-- SNAP_LATCH (R640, R646): the earliest scheduled instant; snapshots of one instant latch once. -/
def Part.snapLatch (p : Part) : Part :=
  if !p.hostActive then p
  else
    let ts := minN (p.hal.snaps.map Snap.ts)
    let due := p.hal.snaps.filter fun s => s.ts == ts
    match due with
    | s :: _ =>
      (p.advance ts).latch s (due.map Snap.id) false |>.modHal fun h => { h with snaps := h.snaps.filter fun x => !(x.ts == ts) }
    | [] => p

/-- The payload of SNAP_RESP for a snapshot (R641). -/
def Part.snapPayload (p : Part) (id : Nat) : List Byte :=
  let known := p.hal.latched.contains id
  leBytes 1 (p.get HAL_SNAPSTAT.LATE + 2 * p.get HAL_SNAPSTAT.UNLOCKED + 4 * b2n !known) ++
  leBytes 1 (p.get HAL_SNAPSTAT.SCOPE + 2 * p.get HAL_SNAPSTAT.GROUP) ++ leBytes 2 0 ++
  leBytes 4 (sumN ((List.range 8).map fun n => p.get RAIL_STATUS.STATE n * 16 ^ n)) ++
  ((List.range 8).map fun i => leBytes 2 (p.get HAL_SNAP.V0 0 i) ++ leBytes 2 (p.get HAL_SNAP.V1 0 i)).flatten

/-- Whether this node answers a collection (R641). -/
def Part.named (p : Part) (first count : Nat) : Bool := decide (first ≤ p.nodeId) && decide (p.nodeId < first + count)

/-- The collector stores a response (R641, R677). -/
def Part.storeResp (p : Part) (src : Nat) (payload : List Byte) : Part :=
  match p.hal.collect with
  | some c =>
    let i := c.got
    let p := (p.set HAL_COLL_SRC.SRC src i).forN 10 fun w q => q.set HAL_COLL.DATA (leAt payload (4 * w) 4) i w
    let p := (p.modHal fun h => { h with collect := some { c with got := i + 1 } }).set HAL_OPSTAT.RCVD (i + 1)
    if c.count ≤ i + 1 then (p.modHal fun h => { h with collect := none }).opEnd 1 else p
  | none => p

/-- T_coll in ticks (R641): 0.6 µs, T_bcast, 40 ns a link and 0.512 µs a response. -/
def Part.tColl (p : Part) (count : Nat) : Nat := 750 + p.tBcast + p.ringSpan * 50 + count * 640

/-- SNAPSHOT_COLLECT (R641): a collector that is itself named stores its own response first. -/
def Part.snapshotCollect (p : Part) (key id : Nat) : Part :=
  p.opReq key 4 fun p =>
    let n := id % 65536
    let first := nodeOf (p.get HAL_OPARG.DEST)
    let count := clampN 1 64 (p.get HAL_OPARG.COUNT)
    let p := ((p.opStart 4).set HAL_OPSTAT.RCVD 0).broadcast 0x31 n (leBytes 2 first ++ leBytes 1 count ++ leBytes 1 0)
    let p := p.modHal fun h => { h with collect := some ⟨n, count, 0, p.tb + p.tColl count⟩ }
    p.when (p.named first count) fun q => q.storeResp q.ownSrc (q.snapPayload n)

/-- Send an addressed frame (R627). -/
def Part.sendTo (p : Part) (type dest id : Nat) (payload : List Byte) (eastOnly : Bool) : Part :=
  let f : Frame := ⟨type, p.brokenBit, p.ownSrc, dest, id, 0, p.ringSpan, payload⟩
  (p.send .east f).when (!eastOnly) fun q => q.send .west f

/-- SNAP_COLLECT (R641). -/
def Part.snapCollect (p : Part) (r : HalRx) : Part :=
  let x := p.receive r 0x31
  match x.2 with
  | some f =>
    let p := x.1
    if p.named (leAt f.payload 0 2) (leAt f.payload 2 1) then
      p.sendTo 0x32 f.src f.id (p.snapPayload f.id) (p.flag HAL_STAT.INTACT)
    else p
  | none => x.1

/-- SNAP_RESP (R641). -/
def Part.snapResp (p : Part) (r : HalRx) : Part :=
  let x := p.receive r 0x32
  match x.2, x.1.hal.collect with
  | some f, some c => if c.id = f.id ∧ x.1.tb ≤ c.endAt then x.1.storeResp f.src f.payload else x.1
  | _, _ => x.1

/-- COLLECT_TIMEOUT (R641): the collection ends partial at T_coll. -/
def Part.collectTimeout (p : Part) : Part :=
  match p.hal.collect with
  | some c =>
    if p.hostActive then
      (((p.advance c.endAt).modHal fun h => { h with collect := none }).set HAL_OPSTAT.MISSING (c.count - c.got)).opEnd 5
    else p
  | none => p

/-- HAL_TBLO_READ (R669). -/
def Part.tbloRead (p : Part) : Part :=
  (p.set HAL_TBLO.TBLO (p.tb % 2 ^ 32)).set HAL_TBHI.TBHI (p.tb / 2 ^ 32)

/-! Meanings. -/

/-- PORT_UP (R620). -/
def execPortUp (port : HalPort) (s : State) : Host.Outcome State Fault Refusal :=
  .next { s with part := s.part.portUp port }

/-- PORT_DOWN (R620). -/
def execPortDown (port : HalPort) (why : PortDownWhy) (s : State) : Host.Outcome State Fault Refusal :=
  .next { s with part := s.part.portDown port why }

/-- SYNC (R632). -/
def execSync (rx : HalRx) (s : State) : Host.Outcome State Fault Refusal := .next { s with part := s.part.sync rx }

/-- SYNC_SEND (R630). -/
def execSyncSend (s : State) : Host.Outcome State Fault Refusal := .next { s with part := s.part.syncSend }

/-- DELAY_EXCHANGE (R631). -/
def execDelayExchange (port : HalPort) (s : State) : Host.Outcome State Fault Refusal :=
  .next { s with part := s.part.delayExchange port }

/-- DELAY_REQ (R631). -/
def execDelayReq (rx : HalRx) (s : State) : Host.Outcome State Fault Refusal := .next { s with part := s.part.delayReq rx }

/-- DELAY_RESP (R631). -/
def execDelayResp (rx : HalRx) (s : State) : Host.Outcome State Fault Refusal := .next { s with part := s.part.delayResp rx }

/-- DISCOVER_SEND (R628). -/
def execDiscoverSend (s : State) : Host.Outcome State Fault Refusal := .next { s with part := s.part.discoverSend }

/-- DISCOVER (R628). -/
def execDiscover (rx : HalRx) (s : State) : Host.Outcome State Fault Refusal := .next { s with part := s.part.discover rx }

/-- DISCOVER_TIMEOUT (R628). -/
def execDiscoverTimeout (s : State) : Host.Outcome State Fault Refusal := .next { s with part := s.part.discoverTimeout }

/-- TB_LOCK_TIMEOUT (R634). -/
def execTbLockTimeout (s : State) : Host.Outcome State Fault Refusal := .next { s with part := s.part.lockTimeout }

/-- FAULT (R643). -/
def execFaultFrame (rx : HalRx) (s : State) : Host.Outcome State Fault Refusal := .next { s with part := s.part.faultRx rx }

/-- BAR_TOKEN (R638). -/
def execBarToken (rx : HalRx) (s : State) : Host.Outcome State Fault Refusal := .next { s with part := s.part.barToken rx }

/-- BAR_RELEASE (R638). -/
def execBarRelease (rx : HalRx) (s : State) : Host.Outcome State Fault Refusal :=
  .next { s with part := s.part.barRelease rx }

/-- BARRIER_SLOT_FREE (R638). -/
def execBarrierSlotFree (slot : Fin 4) (s : State) : Host.Outcome State Fault Refusal :=
  .next { s with part := s.part.barSlotFree slot }

/-- BARRIER_TIMEOUT (R638). -/
def execBarrierTimeout (slot : Fin 4) (s : State) : Host.Outcome State Fault Refusal :=
  .next { s with part := s.part.barTimeout slot }

/-- SNAP_SCHED (R640). -/
def execSnapSched (rx : HalRx) (s : State) : Host.Outcome State Fault Refusal := .next { s with part := s.part.snapSched rx }

/-- SNAP_LATCH (R640). -/
def execSnapLatch (s : State) : Host.Outcome State Fault Refusal := .next { s with part := s.part.snapLatch }

/-- SNAP_COLLECT (R641). -/
def execSnapCollect (rx : HalRx) (s : State) : Host.Outcome State Fault Refusal :=
  .next { s with part := s.part.snapCollect rx }

/-- SNAP_RESP (R641). -/
def execSnapResp (rx : HalRx) (s : State) : Host.Outcome State Fault Refusal := .next { s with part := s.part.snapResp rx }

/-- COLLECT_TIMEOUT (R641). -/
def execCollectTimeout (s : State) : Host.Outcome State Fault Refusal := .next { s with part := s.part.collectTimeout }

/-- BARRIER_ARRIVE (R638). -/
def execBarrierArrive (key id : Nat) (s : State) : Host.Outcome State Fault Refusal :=
  .next { s with part := s.part.byHost fun p => p.barArrive key id }

/-- BARRIER_LAUNCH (R638). -/
def execBarrierLaunch (key id : Nat) (s : State) : Host.Outcome State Fault Refusal :=
  .next { s with part := s.part.byHost fun p => p.barLaunch key id }

/-- SNAPSHOT_SCHEDULE (R640). -/
def execSnapshotSchedule (key id : Nat) (s : State) : Host.Outcome State Fault Refusal :=
  .next { s with part := s.part.byHost fun p => p.snapSchedule key id }

/-- SNAPSHOT_COLLECT (R641). -/
def execSnapshotCollect (key id : Nat) (s : State) : Host.Outcome State Fault Refusal :=
  .next { s with part := s.part.byHost fun p => p.snapshotCollect key id }

/-- RING_BROKEN_CLEAR (R645). -/
def execRingBrokenClear (s : State) : Host.Outcome State Fault Refusal := .next { s with part := s.part.ringClear }

/-- HAL_TBLO_READ (R669). -/
def execHalTbloRead (s : State) : Host.Outcome State Fault Refusal := .next { s with part := s.part.byHost Part.tbloRead }

/-- UNKNOWN_TYPE_FRAME (R625). -/
def execUnknownTypeFrame (rx : HalRx) (s : State) : Host.Outcome State Fault Refusal :=
  .next { s with part := s.part.unknownFrame rx }

end Sys2Proof.Machine
end

