-- ==== Sys2Proof/Machine/Reset.lean ====
section
/-!
DEFINITION. Supplies, resets and their release (R40 to R44, R54 to R64, R69 to R73, R655), the ring's RESET (R642), the
OTP programming (R100 to R102), and the end of the HOTLATCH steps (R553), with the meanings of their commands.
-/

namespace Sys2Proof.Machine

open Reg

/-! What the AON domain holds. -/

/-- The register fields that AON holds (R44, R65 to R67, R116, R615, R655). -/
def aonFields : List Fld :=
  [SYS_RESET.LAST_RESET, SYS_RESET.BIST_FAIL_CNT, SYS_RESET.BIST_HOLD, SYS_RESET.BIST_LOCK, SYS_RESET.BIST_FAIL_PART,
   SYS_RESET.REF_RETRY_CNT, PWR_STATUS.FIRST_LOSS, PWR_EVENT.VAON_LOW, PWR_EVENT.VDD33_LOST, PWR_EVENT.VDDA18_LOST,
   PWR_EVENT.VDD08_LOST, PWR_EVCNT.VAON_LOW_CNT, PWR_EVCNT.VDD33_CNT, PWR_EVCNT.VDDA18_CNT, PWR_EVCNT.VDD08_CNT,
   DBG_STAT.OTP_KEY_BLOCK, DBG_STAT.DBG_FAIL_CNT, DBG_STAT.DBG_LOCK, PAIR_STAT.HOLD_CNT]

/-- Whether a cell of the register file survives an internal reset (R44). -/
def aonKey (k : Nat) : Bool := aonFields.any fun f => f.at 0 0 == k

/-- Whether a supply loss still waits for its record after an internal reset (R63): not where the record is the operation
that runs on. -/
def Part.lossWaits (p : Part) : Bool := p.load.lossDue && !(p.load.lossOpen && p.nvm.recs.isEmpty && p.nvm.op.isSome)

/-- The part after an internal reset, with no cause stored yet (R44, R60, R685): the AON values, an NVM operation in
progress, and the supply loss that waits for its record. -/
def Part.afterReset (p : Part) : Part :=
  { regs := p.regs.keep aonKey, supplies := p.supplies, hotLatch := p.hotLatch, pairHold := p.pairHold
    lossHold := p.lossHold, tb := p.tb, free := p.free, nvm := { op := p.nvm.op }, load := { lossDue := p.lossWaits } }

/-! OTP programming (R100 to R102). -/

/-- The OTP state after a programming that a reset or a supply loss has cut short: a count from the old to the new value
(R101); no rule states which, nor whether a revocation took, so both are free values (assumption log 6). -/
def Otp.cut (o : Otp) (j : OtpJob) (x y z : Nat) : Otp :=
  { count := match j.target with
      | some t => o.count + x % (t - o.count + 1)
      | none => o.count
    revoked0 := o.revoked0 || (j.revoke0 && y % 2 == 1)
    revoked1 := o.revoked1 || (j.revoke1 && z % 2 == 1) }

/-- The OTP state after a programming that has finished (R101, R102). -/
def Otp.finish (o : Otp) (j : OtpJob) : Otp :=
  { count := max o.count (j.target.getD 0), revoked0 := o.revoked0 || j.revoke0, revoked1 := o.revoked1 || j.revoke1 }

/-- A programming in progress is cut short. -/
def State.otpAbort (s : State) : State :=
  if s.part.otpJob = {} then s
  else
    let n := s.part.free
    { s with
      otp := s.otp.cut s.part.otpJob (Config.unstated n) (Config.unstated (n + 1)) (Config.unstated (n + 2))
      part := { s.part.tick.tick.tick with otpJob := {} } }

/-- OTP_PROGRAM_DONE (R101, R102). -/
def State.otpDone (s : State) : State :=
  { s with otp := s.otp.finish s.part.otpJob, part := { s.part with otpJob := {} } }

/-- ROLLBACK_COMMIT (R101): none where it is refused. -/
def Part.rollbackTry (p : Part) (o : Otp) : Option Part :=
  match p.load.image with
  | some i =>
    if p.live && decide (o.count < i.rollback) then some { p with otpJob := { p.otpJob with target := some i.rollback } } else none
  | none => none

/-- The requests to revoke keys, and whether one of them was refused (R102). -/
def Part.revokeTry (p : Part) (key0 key1 : Bool) : Part × Bool :=
  let running := fun k => match p.load.image with
    | some i => i.keyId == k
    | none => false
  let take := fun (req : Bool) (k : Nat) => req && !running k
  ({ p with otpJob := { p.otpJob with
      revoke0 := p.otpJob.revoke0 || take key0 0, revoke1 := p.otpJob.revoke1 || take key1 1 } },
   (key0 && running 0) || (key1 && running 1))

/-! Resets. -/

/-- Whether a reset acts in the device state (R69, R70). -/
def Part.resettable (p : Part) : Bool := p.dev != .off && p.dev != .hotlatch && p.dev != .test

/-- An internal reset with its LAST_RESET code (R69). -/
def State.reset' (s : State) (cause : Nat) : State :=
  let s := s.otpAbort
  { s with part := s.part.afterReset.set SYS_RESET.LAST_RESET cause }

/-- A reset that arrives in any device state (R69 to R71): while BIST_HOLD is set without BIST_LOCK it starts the retry. -/
def State.resetBy (s : State) (cause : Nat) : State :=
  if s.part.resettable then s.reset' cause
  else if s.part.dev = .off ∧ s.part.flag SYS_RESET.BIST_HOLD ∧ !s.part.flag SYS_RESET.BIST_LOCK then
    { s with part := (s.part.set SYS_RESET.BIST_HOLD 0).set SYS_RESET.LAST_RESET 6 }
  else s

/-- RESET_N (R43, R44, R655): a pulse of 1 µs or more resets, one below 0.2 µs does not; between them the choice is the
part's own. -/
def State.resetN (s : State) (lowNs : Nat) : State :=
  let between := decide (200 ≤ lowNs) && decide (lowNs < 1000)
  let taken := decide (1000 ≤ lowNs) || (between && Config.shortResetTaken s.part.free)
  let s := if between then { s with part := s.part.tick } else s
  if !taken then s
  else
    let s := s.resetBy 1
    if s.part.dev = .off then { s with part := { s.part with pairHold := false } } else s

/-- CLOCK_LOSS (R27, R69): no fast clock runs in OFF, PARKED, HOTLATCH and TEST. -/
def State.clockLoss (s : State) : State :=
  match s.part.dev with
  | .off | .parked | .hotlatch | .test => s
  | _ => s.reset' 3

/-! Supplies (R54 to R66). -/

/-- FIRST_LOSS (R65): kept from the first event on. -/
def Part.firstLoss (p : Part) (code : Nat) : Part :=
  if p.get PWR_STATUS.FIRST_LOSS = 0 then p.set PWR_STATUS.FIRST_LOSS code else p

/-- SUPPLY_LOSS (R54, R60 to R64, R754): the supplies named that were up. Below its POR threshold VAON keeps no AON value
(R56), so that no loss leaves a flag then. -/
def State.supplyLoss (s : State) (vdd33 vdda18 vdd08 : Bool) : State :=
  let u := s.part.supplies
  let a := vdd33 && u.vdd33
  let b := vdda18 && u.vdda18
  let c := vdd08 && u.vdd08
  let s := { s with part := { s.part with supplies := { u with
    vdd33 := u.vdd33 && !vdd33, vdda18 := u.vdda18 && !vdda18, vdd08 := u.vdd08 && !vdd08 } } }
  if !(a || b || c) then s
  else
    let s := if a || c then s.nvmAbort.otpAbort else s
    if s.part.dev = .hotlatch ∨ !u.vaonPor then s
    else
      let p := (s.part.when a fun q => q.event PWR_EVENT.VDD33_LOST PWR_EVCNT.VDD33_CNT)
      let p := p.when b fun q => q.event PWR_EVENT.VDDA18_LOST PWR_EVCNT.VDDA18_CNT
      let p := p.when c fun q => q.event PWR_EVENT.VDD08_LOST PWR_EVCNT.VDD08_CNT
      let p := p.firstLoss (if c then 4 else if b then 3 else 2)
      let p := if p.resettable then { p with load := { p.load with lossDue := true, lossOpen := false } } else p
      let p := if p.dev = .test then p else { p with lossHold := true }
      { s with part := p }.resetBy 2

/-- POWER_CYCLE (R56): every AON value is cleared; the NVM and OTP arrays stay. -/
def State.powerCycle (s : State) : State :=
  let s := s.nvmAbort.otpAbort
  { s with part := { supplies := { s.part.supplies with vaonPor := false, vaonWarn := false }, tb := s.part.tb, free := s.part.free } }

/-- VAON_LOW (R60, R68, R103). -/
def Part.vaonLow (p : Part) : Part :=
  if !p.supplies.vaonWarn then p
  else
    let p := { p with supplies := { p.supplies with vaonWarn := false } }
    let p := (p.event PWR_EVENT.VAON_LOW PWR_EVCNT.VAON_LOW_CNT).firstLoss 1
    let p := p.when (p.hostActive || p.dev == .load) fun q => q.record 0x05 1 .d none none
    if p.live && p.flag PWR_CFG.VAON_LOW_SAFE then p.enterSafe 2 else p

/-- VAON_WARNING_RISE (R54, R65). -/
def Part.vaonRise (p : Part) : Part :=
  if p.supplies.vaonPor then { p with supplies := { p.supplies with vaonWarn := true } } else p

/-! Release from OFF. -/

/-- All four supplies are good (R58). -/
def Supplies.good (u : Supplies) : Bool := u.vaonPor && u.vdd33 && u.vdda18 && u.vdd08

/-- The reset is released in OFF (R69, R655): to HOTLATCH, held in OFF, or to a cold WAKE. -/
def Part.release (p : Part) (x : Straps) : Part :=
  if p.dev ≠ .off ∨ !p.supplies.good then p
  else if p.hotLatch then { p with dev := .hotlatch, clocksStopped := true }
  else if p.pairHold || p.flag SYS_RESET.BIST_HOLD then p
  else { p.senseStraps x with dev := .wakeCold }

/-- SUPPLIES_GOOD (R58). At a power-up VAON counts as above its warning threshold, as VAON_OK resets to 1 (R65); where only
other supplies return, it stays as it stands. -/
def Part.suppliesGood (p : Part) (x : Straps) : Part :=
  { p with supplies := ⟨true, p.supplies.vaonWarn || !p.supplies.vaonPor, true, true, true⟩, lossHold := false }.release x

/-- REF_RETRY (R73): the retry counts and XIN is sensed again. -/
def Part.refRetry (p : Part) (xinUv : Nat) : Part :=
  match p.dev with
  | .wakeCold | .wakeResume => (p.bump SYS_RESET.REF_RETRY_CNT).put SYS_STATE.REF_SRC (decide (xinUv < 200000))
  | _ => p

/-! HOTLATCH, PAIR_HOLD, the ring's RESET. -/

/-- HOTLATCH_CLOCK_STOP (R553): the clocks stop; an operation that runs on at the 10 ms ends unsealed. -/
def State.clockStop (s : State) : State :=
  if s.part.dev = .hotlatch ∧ !s.part.clocksStopped then
    let s := if s.part.nvm.op.isSome then s.nvmAbort else s
    { s with part := { s.part with clocksStopped := true, nvm := {} } }
  else s

/-- PAIR_HOLD (R655): the reset of a MAIN that senses SSELk high. -/
def State.pairHold (s : State) : State :=
  let p := s.part
  if p.role == .main && (p.hostActive || p.dev == .load) then
    ({ s with part := { p.bump PAIR_STAT.HOLD_CNT with pairHold := true } }).reset' 5
  else s

/-- A reset by the ring, after the frames that it sends (R642); TEST ignores it (R70). -/
def State.ringReset (s : State) (p : Part) : State :=
  let s := { s with part := p }
  if p.resettable then
    let s := s.reset' 5
    { s with part := s.part.modHal fun h => { h with sent := p.hal.sent } }
  else s

/-- RESET (R642). -/
def State.resetFrame (s : State) (r : HalRx) : State :=
  let x := s.part.receive r 0x40
  match x.2 with
  | some _ => if x.1.flag HAL_CFG.RESET_EN then s.ringReset x.1 else { s with part := x.1 }
  | none => { s with part := x.1 }

/-- RESET_ALL (R642): the originator resets after it has sent both copies. -/
def State.resetAll (s : State) (key id : Nat) : State :=
  let p := s.part.opReq key 5 fun q => (q.opStart 5).broadcast 0x40 (id % 65536) []
  if key = 0xA5 ∧ !s.part.flag HAL_OPSTAT.BUSY then s.ringReset p else { s with part := p }

/-- RESET_NODE (R642). -/
def Part.resetNode (p : Part) (key id : Nat) : Part :=
  p.opReq key 6 fun q =>
    ((q.opStart 6).sendTo 0x40 (q.get HAL_OPARG.DEST) (id % 65536) [] (q.flag HAL_STAT.INTACT)).opEnd 1

/-! Meanings. -/

/-- SUPPLIES_GOOD (R58). -/
def execSuppliesGood (straps : Straps) (s : State) : Host.Outcome State Fault Refusal :=
  .next { s with part := s.part.suppliesGood straps }

/-- POWER_CYCLE (R56). -/
def execPowerCycle (s : State) : Host.Outcome State Fault Refusal := .next s.powerCycle

/-- SUPPLY_LOSS (R60). -/
def execSupplyLoss (vdd33 vdda18 vdd08 : Bool) (s : State) : Host.Outcome State Fault Refusal :=
  .next (s.supplyLoss vdd33 vdda18 vdd08)

/-- VAON_LOW (R60). -/
def execVaonLow (s : State) : Host.Outcome State Fault Refusal := .next { s with part := s.part.vaonLow }

/-- VAON_WARNING_RISE (R65). -/
def execVaonWarningRise (s : State) : Host.Outcome State Fault Refusal := .next { s with part := s.part.vaonRise }

/-- RESET_N (R43). -/
def execResetN (lowNs : Nat) (s : State) : Host.Outcome State Fault Refusal := .next (s.resetN lowNs)

/-- CLOCK_LOSS (R27): the response is the same for each clock. -/
def execClockLoss (_clk : FastClock) (s : State) : Host.Outcome State Fault Refusal := .next s.clockLoss

/-- REF_RETRY (R73). -/
def execRefRetry (xinUv : Nat) (s : State) : Host.Outcome State Fault Refusal :=
  .next { s with part := s.part.refRetry xinUv }

/-- RESET_RELEASE (R69). -/
def execResetRelease (straps : Straps) (s : State) : Host.Outcome State Fault Refusal :=
  .next { s with part := s.part.release straps }

/-- OTP_PROGRAM_DONE (R101). -/
def execOtpProgramDone (s : State) : Host.Outcome State Fault Refusal := .next s.otpDone

/-- HOTLATCH_CLOCK_STOP (R553). -/
def execHotlatchClockStop (s : State) : Host.Outcome State Fault Refusal := .next s.clockStop

/-- PAIR_HOLD (R655): any group's line calls for it. -/
def execPairHold (_group : Fin 8) (s : State) : Host.Outcome State Fault Refusal := .next s.pairHold

/-- RESET (R642). -/
def execResetFrame (rx : HalRx) (s : State) : Host.Outcome State Fault Refusal := .next (s.resetFrame rx)

/-- RESET_ALL (R642). -/
def execResetAll (key id : Nat) (s : State) : Host.Outcome State Fault Refusal :=
  .next (if s.part.pmbActive then s.resetAll key id else s)

/-- RESET_NODE (R642). -/
def execResetNode (key id : Nat) (s : State) : Host.Outcome State Fault Refusal :=
  .next { s with part := s.part.byHost fun p => p.resetNode key id }

end Sys2Proof.Machine
end

