-- ==== Sys2Proof/Machine/Fabric.lean ====
section
/-!
DEFINITION. The phase fabric (R140 to R146, R187, R296 to R335, R428 to R430, R797 to R799): samples of the phase
converters, periods and pulses, truncation, the evaluation of a period, retirement, reef commits, balancing, health,
with the meanings of their commands.
-/

namespace Sys2Proof.Machine

open Reg

/-! Phase samples. -/

/-- N_p of a rail (R144). -/
def Part.nP (p : Part) (n : Nat) : Nat := max 1 (roundDiv (p.per n) 2048).toNat

/-- The current of a code in Q8.8 A (R141). -/
def Part.phaseCurrent (p : Part) (q : Nat) (c : Int) : Int :=
  let ka := clampN 1000 20000 (p.get PCS_CFG.KA q)
  satS 16 (roundDiv ((c - p.getS PCS_CAL.OFS q) * 3125 * p.get PCS_CAL.GTRIM q * 256) (10 * 32768 * ka))

/-- The next instant of the phase converter grid of a rail, in 25 ps steps (R140). -/
def Part.nextGrid (p : Part) (n q : Nat) : Nat :=
  let o := (p.rail n).originSt
  let lo := match (p.ph q).samples with
    | s :: _ => max (p.nowSt - o % 32) (s.at_ + 1)
    | [] => p.nowSt - o % 32
  if lo ≤ o then o else o + (lo - o + 2047) / 2048 * 2048

/-- The mean and the ripple of the newest samples (R144, R145). DESIGN CHOICE (assumption log 56): while fewer than N_p samples
exist since the rail left OFF, they are taken over those that exist. -/
def periodStat (at_ : Nat) (l : List PhSample) : PhAvg :=
  let free := (l.filter fun s => !s.held).map PhSample.cur
  let hi := match free with | [] => 0 | a :: r => r.foldl max a
  let lo := match free with | [] => 0 | a :: r => r.foldl min a
  { at_ := at_, mean := if l.isEmpty then 0 else roundDiv (sumI (l.map PhSample.cur)) l.length, ripple := satU 16 (hi - lo) }

/-- A sample enters the history of a phase and its period statistics (R144, R173). -/
def Part.pushSample (p : Part) (n q : Nat) (s : PhSample) : Part :=
  let p := p.modPh q fun x => { x with samples := (s :: x.samples).take 256 }
  let a := periodStat s.at_ ((p.ph q).samples.take (p.nP n))
  let p := p.modPh q fun x => { x with means := (a :: x.means).take 8 }
  (p.setSat PCS_AVG.MEAN a.mean q).set PCS_AVG.RIPPLE a.ripple q

/-- Whether the phases of a rail take the off-time level of OFFMODE = 1 (R304, R373, R383). -/
def Part.offMode (p : Part) (n : Nat) : Bool :=
  p.flag FAB_PWM.OFFMODE n || (p.rst n == .rampUp && p.flag RAIL_CFG.PREBIAS_EN n) || p.rst n == .burst

/-- Whether a current is at or below IZC (R304). -/
def Part.belowIzc (p : Part) (n : Nat) (cur : Int) : Bool := decide (cur ≤ (p.get FAB_PWM.IZC n * 64 : Nat))

/-- The off-time of a phase goes to tri-state at a sample at or below IZC after the on-time (R304). -/
def Part.zeroCross (p : Part) (n q : Nat) (s : PhSample) : Part :=
  let x := p.ph q
  if p.offMode n && p.belowIzc n s.cur && (!x.pulse || x.truncNow || decide (x.startSt + x.onSt ≤ s.at_)) then
    p.modPh q fun x => { x with zc := true }
  else p

/-- A preparation averages the codes of a tri-stated phase (R275). -/
def Part.prepSample (p : Part) (n q : Nat) (code : Int) : Part :=
  if p.pst q == .shed then
    p.modRail n fun r => { r with prep := r.prep.map fun x =>
      if x.phase = q ∧ x.count < 16 then { x with count := x.count + 1, sum := x.sum + code } else x }
  else p

/-- PHASE_SAMPLE: one sample of a phase whose rail's converters run (R140 to R146). -/
def Part.phaseSample (p : Part) (q : Nat) (code : Int) : Part :=
  match p.railOf q with
  | some n =>
    if !(p.live && p.convRun n) then p
    else
      let c := clampI (-2048) 2047 code
      let sat := c == 2047 || c == -2048
      let at_ := p.nextGrid n q
      let p := p.advanceSt at_
      let s : PhSample := { at_ := at_, cur := p.phaseCurrent q c, sat := sat, held := false }
      let p := (p.put PCS_STAT.SAT sat q).when sat fun x => x.event PCS_STAT.SAT_EV PCS_STAT.SAT_CNT q
      ((p.pushSample n q s).zeroCross n q s).prepSample n q c
  | none => p

/-! Periods and pulses. -/

/-- Whether the engine offers pulses to the phases of a rail (R20 rows 6, 8 and 9, R360, R383, R385, R451). -/
def Part.pulsing (p : Part) (n : Nat) : Bool :=
  (p.rst n).switching && !(p.rst n == .burst && (p.rail n).gap) && !(p.rail n).pbOwns

/-- The duty that the generators of a rail held two ticks before an instant (R302, R798). -/
def Part.dutyIn (p : Part) (n at_ : Nat) : Option Int :=
  let r := p.rail n
  if r.comSt + 64 ≤ at_ then r.dutyCom else r.dutyOld

/-- N_on,p for a duty (R187, R302). -/
def Part.nOnOf (p : Part) (n q : Nat) (d : Int) : Nat :=
  min (roundDiv (d * p.per n) (2 ^ 23) + p.getS PH_TRIM.TRIM q).toNat (p.per n - p.get FAB_PWM.TOFF_MIN n)

/-- The period in progress of a phase. -/
def PhaseCore.period (x : PhaseCore) : Period := ⟨x.startSt, x.next, x.nOn, x.pulse, x.truncNow⟩

/-- PERIOD_START: a switching period of an ACTIVE phase starts (R301 to R304, R311, R312, R373, R383, R798). -/
def Part.periodStart (p : Part) (q : Nat) : Part :=
  match p.railOf q with
  | some n =>
    if !p.live || p.rst n == .off || p.pst q != .active || p.per n = 0 then p
    else
      let x := p.ph q
      let s := x.next
      let p := p.advanceSt s
      let duty := if p.pulsing n then p.dutyIn n s else none
      let nOn := (duty.map (p.nOnOf n q)).getD 0
      let short := decide (nOn < p.get FAB_PWM.TON_MIN n)
      let pulse := duty.isSome && !(short && p.flag FAB_PWM.SKIP_EN n)
      let zc := p.offMode n && !pulse && p.belowIzc n (match x.samples with | s :: _ => s.cur | [] => 0)
      (p.modPh q fun h => { h with
        due := if h.judged then none else some h.period, judged := false, startSt := s
        next := (((s + p.per n : Nat) : Int) + h.late).toNat, late := 0, moving := h.moving && h.late != 0
        pulse := pulse, onSt := if pulse then max nOn (p.get FAB_PWM.TON_MIN n) else 0, nOn := nOn, truncNow := false
        offered := duty.isSome && !p.shadowing, zc := zc }).showMoving n
  | none => p

/-- Whether the fast comparator trips on an excursion outside blanking, beyond its threshold by a voltage (R797). -/
def Part.tripOf (p : Part) (overUv durationPs : Int) : Bool :=
  if 20000 ≤ overUv ∧ 5000 ≤ durationPs then true
  else if durationPs < 1000 ∨ overUv ≤ 0 then false
  else Config.shortTrip p.free

/-- The threshold of the fast comparator of a phase in microvolts (R428, R473). -/
def Part.iscUv (p : Part) (q : Nat) : Int := (max 1 (p.get PSC.ISC_THR q) * 5000 : Nat)

/-- The instant at which an excursion that begins at an instant ends an on-time between a rising and a falling edge: the later
of its begin and the end of blanking; none where it does not trip or the on-time is over by then (R428, R429, R797). -/
def Part.tripAt (p : Part) (n q rise fall at_ : Nat) (uv : Int) (durationPs : Nat) : Option Nat :=
  let t := max at_ (rise + p.get PR_SC.SC_BLANK n * 40)
  if p.tripOf (uv - p.iscUv q) ((durationPs : Int) - ((t - at_ : Nat) : Int) * 25) && decide (t < fall) then some t else none

/-- A pulse of a phase is truncated at an instant: TRUNC, its count, a protection event (R260, R429, R444). -/
def Part.truncated (p : Part) (n q at_ : Nat) : Part :=
  (((p.set PSC.TRUNC 1 q).bumpWrap PSC.TRUNC_CNT q).modRail n fun r => { r with truncSt := some at_ }).protEvent n

/-- FAST_SC_TRIP: an excursion of CSp − CSREF begins and, beyond the threshold outside blanking, ends the on-time of the phase,
of the engine's pattern or of a pulse of the parked-burst generator (R20 row 7, R428, R429, R797). -/
def Part.fastTrip (p : Part) (q : Nat) (uv : Int) (durationPs : Nat) : Part :=
  match p.railOf q with
  | some n =>
    let x := p.ph q
    let now := max p.nowSt x.startSt
    let trip := if x.pulse && !x.truncNow then p.tripAt n q x.startSt (x.startSt + x.onSt) now uv durationPs else none
    let burst := match p.pbPulse n q p.clockSt with
      | some (i, rise) =>
        if p.pst q == .active && (match (p.rail n).pbTrunc with | some (j, _) => j != i | none => true) then
          (p.tripAt n q rise (rise + p.pbOn n) p.clockSt uv durationPs).map fun t => (i, t)
        else none
      | none => none
    let p := p.tick
    if !(p.live && (p.rst n).switching) then p
    else
      match trip, burst with
      | some t, _ => (p.modPh q fun h => { h with truncNow := true, onSt := t - h.startSt }).truncated n q t
      | none, some (i, t) => (p.modRail n fun r => { r with pbTrunc := some (i, t) }).truncated n q t
      | none, none => p
  | none => p

/-! The evaluation of a period. -/

/-- The mean and the ripple of a phase at the end of a period (R799). -/
def PhaseCore.avgAt (x : PhaseCore) (t : Nat) : PhAvg := (x.means.find? fun a => decide (a.at_ ≤ t)).getD default

/-- The samples whose instants fall in a period (R323). -/
def PhaseCore.samplesIn (x : PhaseCore) (a b : Nat) : List PhSample :=
  x.samples.filter fun s => decide (a ≤ s.at_) && decide (s.at_ < b)

/-- The largest sample outside injected slots (R145, R324). -/
def maxCur (l : List PhSample) : Option Int :=
  match (l.filter fun s => !s.held).map PhSample.cur with
  | [] => none
  | a :: r => some (r.foldl max a)

/-- Whether every sample is out of range (R325): saturated, or of magnitude above IPH_PHYS. -/
def Part.outOfRange (p : Part) (n : Nat) (l : List PhSample) : Bool :=
  let real := l.filter fun s => !s.held
  !real.isEmpty && real.all fun s => s.sat || decide (p.get FAB_DET2.IPH_PHYS n * 64 < s.cur.natAbs)

/-- The out-of-range count after a period (R325, R799). -/
def Part.judgeRange (p : Part) (n q a b : Nat) : Part :=
  let out := p.outOfRange n ((p.ph q).samplesIn a b)
  p.modPh q fun x => { x with oorCnt := if out then x.oorCnt + 1 else 0 }

/-- Whether the mean or the ripple of a phase contradicts the others (R325, R799). -/
def Part.inconsistent (p : Part) (n q t : Nat) : Bool :=
  let act := p.active n
  let a := (p.ph q).avgAt t
  let others := (act.filter (· != q)).map fun o => ((p.ph o).avgAt t).ripple
  let ibar : Rat := (sumI (act.map fun o => ((p.ph o).avgAt t).mean) : Rat) / (act.length : Rat)
  let dev : Rat := (a.mean : Rat) - ibar
  let mr := meanN others
  decide (((p.get FAB_DET2.ISENSE_DEV n * 64 : Nat) : Rat) < (if dev < 0 then -dev else dev)) ||
    decide ((a.ripple : Rat) < mr / 2) || decide (2 * mr < (a.ripple : Rat))

/-- The counts of the open, no-ripple, inconsistency and short-circuit rules after a period (R323 to R325, R335,
R430). -/
def Part.judgePulse (p : Part) (n q : Nat) (e : Period) : Part :=
  let x := p.ph q
  let closed := (p.rst n).switching && p.rst n != .burst
  let hi := maxCur (x.samplesIn e.start e.stop)
  let counts := e.pulse && !e.trunc && decide (max (p.get FAB_DET.TON_OPEN n) (p.get FAB_PWM.TON_MIN n) ≤ e.nOn) &&
    hi.isSome && closed
  let low := decide (hi.getD 0 < (p.get FAB_DET.IOPEN_THR n * 64 : Nat))
  let flat := decide ((x.avgAt e.stop).ripple < p.get FAB_DET.RIP_MIN n * 64)
  let settled := decide (p.get FAB_DET2.ADD_SETTLE n ≤ x.actPeriods + 1) && p.rst n == .regulate &&
    decide (3 ≤ (p.active n).length)
  let bad := settled && p.inconsistent n q e.stop
  (p.modPh q fun x => { x with
    actPeriods := x.actPeriods + 1
    openCnt := if e.trunc then 0 else if counts then (if low then x.openCnt + 1 else 0) else x.openCnt
    ripCnt := if counts then (if flat && !low then x.ripCnt + 1 else 0) else x.ripCnt
    incCnt := if p.rst n == .burst then x.incCnt else if bad then x.incCnt + 1 else 0
    scCnt := if e.trunc then x.scCnt + 1 else 0 }).put PSC.TRUNC e.trunc q

/-- PHASE_PERIOD_END: a period of a phase has ended and is evaluated (R323 to R326, R799). -/
def Part.periodEnd (p : Part) (q : Nat) : Part :=
  match p.railOf q with
  | some n =>
    if !(p.live && p.convRun n) || p.per n = 0 || p.pst q == .retired || p.pst q == .unassigned then p
    else if p.pst q == .active && (p.rst n).switching then
      let x := p.ph q
      match x.due with
      | some e => ((p.modPh q fun x => { x with due := none, oorEnd := e.stop }).judgeRange n q e.start e.stop).judgePulse n q e
      | none =>
        if x.judged then p
        else
          let e := x.period
          (((p.advanceSt e.stop).modPh q fun x => { x with judged := true, oorEnd := e.stop }).judgeRange n q e.start
            e.stop).judgePulse n q e
    else
      let o := (p.rail n).originSt
      let last := (p.ph q).oorEnd
      let e := if p.nowSt < o then o else o + (p.nowSt - o) / p.per n * p.per n
      let stop := if last < e then e else e + p.per n
      ((p.advanceSt stop).modPh q fun x => { x with oorEnd := stop, due := none, judged := true }).judgeRange n q
        (stop - p.per n) stop
  | none => p

/-- PHASE_SC (R430): SC_N consecutive truncated periods raise fault code 1. -/
def Part.phaseSc (p : Part) (q : Nat) : Part :=
  match p.railOf q with
  | some n =>
    if orDefault (p.get PR_SC.SC_N n) 1 ≤ (p.ph q).scCnt then
      ((p.modPh q fun x => { x with scCnt := 0 }).event PSC.SCF_EV PSC.SCF_CNT q).fault n 1 (some q)
    else p
  | none => p

/-! Retirement. -/

/-- A soft stop outside the fault codes that ends in LATCHED whatever HIC_CNT holds (R330, R420, R425, R452). -/
def Part.softLatch (p : Part) (n code : Nat) (unit : Option Nat) : Part :=
  let ss : SoftStop := { openLoop := false, ends := .latched, counted := false, src := 2, code := code, unit := unit }
  let r := p.rail n
  match p.rst n with
  | .off | .latched => p
  | .delayOn | .delayOff | .hiccup => p.endNow p n .latched r.safeAct 2 code .b unit
  | _ =>
    match r.softStop with
    | some s0 => p.modRail n fun r => { r with softStop := some { ss with openLoop := s0.openLoop, counted := s0.counted } }
    | none => p.modRail n fun r => { r with
        pendSoft := some { ss with counted := match r.pendSoft with | some s0 => s0.counted | none => false } }

/-- What a retirement leaves too few phases for (R330): nothing on a part that does not own the stages. -/
def Part.retireOutcome (p : Part) (n code : Nat) (unit : Option Nat) : Part :=
  let left := (p.avail n).length
  if p.shadowing then p
  else if left = 0 then p.latchTri n 2 code unit
  else if left < p.minAvail n then p.softLatch n code unit
  else p

/-- Retire the phases of a rail whose retirement is decided (R327, R328, R330): at its next t_k, in OFF at once. -/
def Part.retireRail (p : Part) (n : Nat) : Part :=
  match (p.pendingRetire n).getLast? with
  | some x => ((if p.rst n == .off then p else p.advanceSt (p.nextTk n)).retirePending n).retireOutcome n x.2 (some x.1)
  | none => p

/-- A retirement is decided (R327): a protection event of the rail; it takes effect at once in OFF. -/
def Part.decideRetire (p : Part) (n q cause : Nat) : Part :=
  let p := (p.protEvent n).modPh q fun x => { x with retirePend := some cause }
  if p.rst n == .off then p.retireRail n else p

/-- Whether a phase can still be retired. -/
def Part.retirable (p : Part) (q : Nat) : Bool := p.pst q == .active || p.pst q == .shed

/-- PHASE_OPEN (R324, R335). -/
def Part.phaseOpen (p : Part) (q : Nat) : Part :=
  match p.railOf q with
  | some n => if p.retirable q && decide (3 ≤ (p.ph q).openCnt) then p.decideRetire n q 1 else p
  | none => p

/-- The count and the cause of a phase sense fault (R325, R352). -/
def PhaseCore.senseDue (x : PhaseCore) : SenseCond → Bool × Nat
  | .outOfRange => (decide (4 ≤ x.oorCnt), 2)
  | .noRipple => (decide (8 ≤ x.ripCnt), 3)
  | .inconsistent => (decide (8 ≤ x.incCnt), 4)

/-- PHASE_SENSE_FAULT (R325, R335). -/
def Part.phaseSenseFault (p : Part) (q : Nat) (c : SenseCond) : Part :=
  match p.railOf q with
  | some n =>
    let x := p.ph q
    if p.retirable q && (x.senseDue c).1 && x.retirePend.isNone then p.decideRetire n q (x.senseDue c).2 else p
  | none => p

/-! Reef commits. -/

/-- A reef commit on real current contradicts the entries from the first one on whose PLAN differs (R260, R278). -/
def Part.reefCommit (p : Part) (n lvl : Nat) : Part :=
  let p := p.commitLevel n lvl
  match (p.rail n).entries.find? fun e => e.plan != lvl with
  | some e => p.squashFrom n .other e.slot
  | none => p

/-- REEF_ADD (R319, R451): the lowest add level of the last ADD_CONFIRM samples, at the next update instant. -/
def Part.reefAdd (p : Part) (n : Nat) : Part :=
  let r := p.rail n
  let need := orDefault (p.get FAB_REEF.ADD_CONFIRM n) 1
  let lvl := minN (r.addRun.take need)
  if p.rst n == .regulate && r.curHold.isNone && decide (need ≤ r.addRun.length) &&
      decide (lvl < p.get FAB_STAT.LEVEL n) then
    (p.advanceSt (p.nextTk n)).reefCommit n lvl
  else p

/-- REEF_SHED (R320, R335, R451): one level more after SHED_DWELL, unless an add is due, at the next update instant. -/
def Part.reefShed (p : Part) (n : Nat) : Part :=
  let r := p.rail n
  let dwell := orDefault (p.get FAB_REEF.SHED_DWELL n) 1 * 40000
  match r.shedDwellSt with
  | some t =>
    if p.rst n == .regulate && r.curHold.isNone && !p.reefBad n && decide (p.get FAB_STAT.LEVEL n < p.get FAB_REEF.LMAX n) &&
        decide (t + dwell ≤ r.lastSt) && decide (r.addRun.length < orDefault (p.get FAB_REEF.ADD_CONFIRM n) 1) then
      (p.advanceSt (p.nextTk n)).reefCommit n (p.get FAB_STAT.LEVEL n + 1)
    else p
  | none => p

/-! Balancing. -/

/-- BOOKKEEPING_PASS of a slice that serves a rail: the balancing trims (R313 to R315); current-hold freezes them
(R451). -/
def Part.balance (p : Part) (s : Nat) : Part :=
  match p.servedBy s with
  | some n =>
    if !(p.live && p.convRun n) || !(p.sst s == .drive || p.sst s == .track) || !p.flag FAB_BAL.BAL_EN n ||
        (p.rail n).curHold.isSome then p
    else
      let act := p.active n
      let lim : Int := p.get FAB_BAL.TRIM_MAX n
      let mean := fun q => (p.getS PCS_AVG.MEAN q : Rat)
      let ibar : Rat := (sumI (act.map fun q => p.getS PCS_AVG.MEAN q) : Rat) / (act.length : Rat)
      let p := p.forL act fun q p => p.setS PH_TRIM.TRIM
        (clampI (-lim) lim (p.getS PH_TRIM.TRIM q - roundQ ((p.get FAB_BAL.KB n : Rat) / 4096 * (mean q - ibar)))) q
      let tbar := roundDiv (sumI (act.map fun q => p.getS PH_TRIM.TRIM q)) act.length
      p.forL act fun q p => p.setS PH_TRIM.TRIM (clampI (-lim) lim (p.getS PH_TRIM.TRIM q - tbar)) q
  | none => p

/-! Health. -/


/-- T_p of a phase in °C, with a valid sensor (R332). -/
def Part.phaseTemp (p : Part) (q : Nat) : Option Rat := (p.phaseSensor q).map fun s => (p.getS TS_READ.TEMP s : Rat) / 8

/-- T̄ of a rail in °C: 25 °C without a valid sensor (R331, R332). -/
def Part.meanTemp (p : Part) (n : Nat) : Rat :=
  match (p.active n).filterMap p.phaseTemp with
  | [] => 25
  | l => (l.foldl (· + ·) 0) / (l.length : Rat)

/-- R_c of a phase in µΩ (R331). -/
def Part.rcOf (p : Part) (n q : Nat) : Rat :=
  let d : Rat := (p.ph q).nOn / (p.per n : Rat)
  let drop : Rat := d * (p.get PROT_VIN.V_IN : Rat) / 65536 - p.sensed n / 65536
  let rp := p.ratio 0 (drop * 1000000) ((p.getS PCS_AVG.MEAN q : Rat) / 256)
  let t := (p.phaseTemp q).getD (p.meanTemp n)
  p.ratio 1 rp (1 + (p.get FAB_HCFG.ALPHA n : Rat) / 10000 * (t - 25))

/-- The four indicators of a phase (R331), none for the temperature without a valid sensor (R332). -/
def Part.indicators (p : Part) (n q : Nat) : List (Option Rat) :=
  let act := p.active n
  let ibar : Rat := (sumI (act.map fun o => p.getS PCS_AVG.MEAN o) : Rat) / (act.length : Rat)
  let rbar := meanN (act.map fun o => p.get PCS_AVG.RIPPLE o)
  [ some (100 * p.ratio 2 ((p.getS PCS_AVG.MEAN q : Rat) - ibar) ibar),
    some (100 * p.ratio 3 (p.rcOf n q - (p.get PH_CFG.R_NOM q : Rat)) (p.get PH_CFG.R_NOM q : Rat)),
    some (100 * p.ratio 4 ((p.get PCS_AVG.RIPPLE q : Rat) - rbar) rbar),
    (p.phaseTemp q).map fun t => t - p.meanTemp n ]

/-- The limits of the four indicators (R345). -/
def Part.hLimits (p : Part) (n : Nat) : List Nat :=
  [p.get FAB_HLIM.SHARE_LIM n, p.get FAB_HLIM.RDRIFT_LIM n, p.get FAB_HLIM.RIPPLE_LIM n, p.get FAB_HLIM.TDIFF_LIM n]

/-- One filter step (R333). -/
def hFilter (hsh : Nat) (f : Option Rat) (x : Option Rat) : Option Rat :=
  match x with
  | some v => some (f.getD 0 + (v - f.getD 0) / ((2 ^ hsh : Nat) : Rat))
  | none => f

/-- Whether a filtered indicator lies beyond its limit on either side (R333). -/
def beyondLimit (f : Option Rat) (lim : Nat) : Bool :=
  match f with
  | some v => decide ((lim : Rat) < (if v < 0 then -v else v))
  | none => false

/-- The health update of one phase (R331 to R333, R354, R355). -/
def Part.healthPhase (p : Part) (n q : Nat) : Part :=
  let hsh := max 4 (p.get FAB_HCFG.HSH n)
  let ind := p.indicators n q
  let rc := p.rcOf n q
  let lim := p.hLimits n
  let p := p.modPh q fun x =>
    let f := x.health.zipWith (hFilter hsh) ind
    { x with
      health := f, rcFilt := hFilter hsh x.rcFilt (some rc)
      beyond := (f.zip lim).zipWith (fun fl k => if beyondLimit fl.1 fl.2 then k + 1 else 0) x.beyond }
  let x := p.ph q
  let f := fun (i : Nat) => roundQ ((nth x.health i none).getD 0)
  let p := (p.set PH_HEALTH.RC (satU 12 (roundQ (x.rcFilt.getD 0))) q).setSat PH_HEALTH.SHARE_F (f 0) q
  ((p.setSat PH_HEALTH.RIPPLE_F (f 2) q).setSat PH_TEMP.TDIFF_F (f 3) q).forN 5 fun _ r => r.tick

/-- HEALTH_UPDATE: every 1 ms (R331). -/
def Part.healthUpdate (p : Part) : Part :=
  if !p.live then p
  else
    let at_ := nextOn p.healthAt tickMs p.tb
    let p : Part := { p.advance at_ with healthAt := some at_ }
    p.forN 8 fun n p =>
    let act := p.active n
    if p.rst n == .regulate && decide ((p.get FAB_HCFG.HEALTH_IMIN n * act.length : Nat) ≤ ((p.rail n).iReef.getD 0)) then
      p.forL act fun q p => p.healthPhase n q
    else p

/-- The HF bit of an indicator (R352). -/
def hfBit : Nat → Fld
  | 0 => PH_STAT.HF_SHARE
  | 1 => PH_STAT.HF_RES
  | 2 => PH_STAT.HF_RIPPLE
  | _ => PH_STAT.HF_TEMP

/-- HEALTH_FORECAST: an indicator has stayed beyond its limit for FORECAST_HOLD (R333, R334). -/
def Part.healthForecast (p : Part) (q i : Nat) : Part :=
  match p.railOf q with
  | some n =>
    if decide (orDefault (p.get FAB_HCFG.FORECAST_HOLD n) 1 * 1000 < nth (p.ph q).beyond i 0) && !p.flag (hfBit i) q then
      let p := ((p.set (hfBit i) 1 q).event PH_STAT.FORECAST_EV PH_EVCNT.FORECAST_CNT q).latchMfr n 4
      (p.raiseCause 3 q).record 0x09 3 .c (some n) (some q)
    else p
  | none => p

/-! Meanings. -/

/-- PHASE_SAMPLE (R140). -/
def execPhaseSample (phase : Phase) (code : Int) (s : State) : Host.Outcome State Fault Refusal :=
  .next { s with part := s.part.phaseSample phase code }

/-- PERIOD_START (R302). -/
def execPeriodStart (phase : Phase) (s : State) : Host.Outcome State Fault Refusal :=
  .next { s with part := s.part.periodStart phase }

/-- FAST_SC_TRIP (R429). -/
def execFastScTrip (phase : Phase) (senseUv : Int) (durationPs : Nat) (s : State) : Host.Outcome State Fault Refusal :=
  .next { s with part := s.part.fastTrip phase senseUv durationPs }

/-- PHASE_PERIOD_END (R323). -/
def execPhasePeriodEnd (phase : Phase) (s : State) : Host.Outcome State Fault Refusal :=
  .next { s with part := s.part.periodEnd phase }

/-- PHASE_SC (R430). -/
def execPhaseSc (phase : Phase) (s : State) : Host.Outcome State Fault Refusal :=
  .next { s with part := s.part.phaseSc phase }

/-- PHASE_OPEN (R324). -/
def execPhaseOpen (phase : Phase) (s : State) : Host.Outcome State Fault Refusal :=
  .next { s with part := s.part.phaseOpen phase }

/-- PHASE_SENSE_FAULT (R325). -/
def execPhaseSenseFault (phase : Phase) (cond : SenseCond) (s : State) : Host.Outcome State Fault Refusal :=
  .next { s with part := s.part.phaseSenseFault phase cond }

/-- PHASE_RETIRE (R328). -/
def execPhaseRetire (rail : Rail) (s : State) : Host.Outcome State Fault Refusal :=
  .next { s with part := s.part.retireRail rail }

/-- REEF_ADD (R319). -/
def execReefAdd (rail : Rail) (s : State) : Host.Outcome State Fault Refusal :=
  .next { s with part := s.part.reefAdd rail }

/-- REEF_SHED (R320). -/
def execReefShed (rail : Rail) (s : State) : Host.Outcome State Fault Refusal :=
  .next { s with part := s.part.reefShed rail }

/-- BOOKKEEPING_PASS (R189, R191). -/
def execBookkeepingPass (slice : Slice) (s : State) : Host.Outcome State Fault Refusal :=
  .next { s with part := s.part.balance slice }

/-- HEALTH_UPDATE (R331). -/
def execHealthUpdate (s : State) : Host.Outcome State Fault Refusal :=
  .next { s with part := s.part.healthUpdate }

/-- HEALTH_FORECAST (R333). -/
def execHealthForecast (phase : Phase) (indicator : Fin 4) (s : State) : Host.Outcome State Fault Refusal :=
  .next { s with part := s.part.healthForecast phase indicator }

end Sys2Proof.Machine
end

