-- ==== Sys2Proof/Machine/Pair.lean ====
section
/-!
DEFINITION. Redundant pairs (R647 to R661): heartbeats, arming, takeover, self-faults, the cross-check and the tracking
of the owner's duty, with the meanings of their commands. The pair hold stands with the device states.
-/

namespace Sys2Proof.Machine

open Reg

/-- MAIN or MIZZEN. -/
def Part.paired (p : Part) : Bool := p.role == .main || p.role == .mizzen

/-- HB_SEND (R650): every 1,000 ticks. -/
def Part.hbSend (p : Part) : Part :=
  let p := p.hal0
  if p.live && p.paired && p.portIsUp p.pairPort then
    let at_ := nextOn p.pair.hbAt 1000 p.tb
    ((p.advance at_).modPair fun x => { x with hbAt := some at_ }).sendHb
  else p

/-! Takeover. -/

/-- The exchange on a MIZZEN ends at a takeover (R223); a failure replacement waits again. -/
def Part.takeoverExch (p : Part) : Part :=
  match p.eng.cur with
  | some x =>
    let p := p.preempt x
    if x.kind == .replace then (p.modEng fun e => { e with waiting := e.waiting ++ [{ x with kh := false, resid := false }] }).showBusy else p
  | none => p

/-- The serving slices go from TRACK to DRIVE (R195, R653). -/
def Part.takeoverSlices (p : Part) : Part :=
  p.forN 8 fun n q =>
    match q.servingOf n with
    | some s => if q.sst s == .track then q.setSlice s .drive else q
    | none => q

/-- The takeover (R653): ownership, run-ahead, slices, FAULT with CODE 19, the record, the service cause. -/
def Part.takeover (p : Part) : Part :=
  let p := ((p.set PAIR_STAT.OWNER 1).event PAIR_STAT.TAKEOVER_EV PAIR_EVCNT.TAKEOVER_CNT).latchMfrAll 6
  let pre := p
  let p := (p.forN 8 fun n q => q.squash n .eng).takeoverExch.takeoverSlices
  ((p.sendFault 19 2 none).record 0x07 1 .c none none 0 false (some pre)).raiseCause 6

/-- Whether a MIZZEN takes over at a sign of its MAIN's failure (R652). -/
def Part.mayTake (p : Part) : Bool := p.shadowing && p.live && p.flag PAIR_STAT.ARMED

/-! Reception. -/

/-- The longest gap between HBs, 4 µs in ticks (R651, R652, R661). -/
def hbGap : Nat := 5000

/-- Keep the start of a condition that holds now, or none. -/
def since (cond : Bool) (from_ : Option Nat) (now : Nat) : Option Nat := if cond then some (from_.getD now) else none

/-- What a MAIN makes of its MIZZEN's HB (R661). -/
def Part.hbMain (p : Part) (armed fresh : Bool) : Part :=
  let p := p.modPair fun x => { x with
    armedSince := since armed (if fresh then none else x.armedSince) p.tb
    unarmedSince := since (!armed && p.dev == .run) (if fresh then none else x.unarmedSince) p.tb }
  match p.pair.armedSince, p.pair.unarmedSince with
  | some t, _ => if t + tickMs ≤ p.tb ∧ p.bit SVC_STATUS.CAUSE 6 then p.clearCause 6 else p
  | none, some t => if t + 10 * tickMs ≤ p.tb then p.raiseCause 6 else p
  | none, none => p

/-- What a MIZZEN makes of its MAIN's HB (R651, R652, R661). -/
def Part.hbMizzen (p : Part) (self : Bool) : Part :=
  let steady := decide (p.pair.hbSince + tickMs ≤ p.tb)
  let rise := self && !p.pair.partnerSelf
  let p := (p.modPair fun x => { x with partnerSelf := self }).put PAIR_STAT.ARMED
    (p.live && p.flag HAL_STAT.TB_LOCK && steady)
  let p := p.when rise fun q => (q.event PAIR_STAT.SELFFLT_EV PAIR_EVCNT.SELFFLT_CNT).latchMfrAll 6
  let p := if p.shadowing && steady && p.bit SVC_STATUS.CAUSE 6 then p.clearCause 6 else p
  if self && p.mayTake then p.takeover else p

/-- HB (R650 to R652, R661): the data character is the first byte of what came. -/
def Part.hbRx (p : Part) (r : HalRx) : Part :=
  let p := p.hal0
  if !(p.hostActive && p.paired && r.port == p.pairPort && p.portIsUp r.port && r.crcOk) then p
  else
    let c := leAt r.frame.payload 0 1
    let fresh := match p.pair.lastHb with
      | some t => decide (t + hbGap < p.tb)
      | none => true
    let p := (p.modPair fun x => { x with lastHb := some p.tb, hbSince := if fresh then p.tb else x.hbSince }).set
      PAIR_STAT.PARTNER_HB 1
    let p := p.set PAIR_STAT.PARTNER_ARMED (bitOf c 2)
    if p.role == .main then p.hbMain (bitOf c 2 == 1) fresh else p.hbMizzen (bitOf c 1 == 1)

/-- HB_TIMEOUT (R652, R661): 4 µs without an HB. -/
def Part.hbTimeout (p : Part) : Part :=
  if !(p.hostActive && p.paired) || (p.pair.lastHb.isNone && p.bit SVC_STATUS.CAUSE 6) then p
  else
    let p := match p.pair.lastHb with
      | some t => p.advance (t + hbGap)
      | none => p
    let p := (p.set PAIR_STAT.PARTNER_HB 0).event PAIR_STAT.HBLOST_EV PAIR_EVCNT.HBLOST_CNT
    let p := p.modPair fun x => { x with lastHb := none, armedSince := none, unarmedSince := none }
    if p.mayTake then (p.set PAIR_STAT.ARMED 0).takeover else (p.set PAIR_STAT.ARMED 0).raiseCause 6

/-- SELF_FAULT_TIMEOUT (R656): 12 µs after a MAIN's self-fault without a takeover. -/
def Part.selfFaultTimeout (p : Part) : Part :=
  if p.role == .main && p.pair.selfFault && !p.pair.noTakeover then
    let rails := p.pair.waitRails
    let p := (p.advance (p.pair.selfFaultAt + 12 * tickUs)).modPair fun x => { x with noTakeover := true, waitRails := [] }
    if p.live then p.forL rails fun n q => q.noSpareAct n (q.get RAIL_ENGINE.SLICE n) else p
  else p

/-! The cross-check (R658 to R660). -/

/-- TB at the end of the window in progress. -/
def Part.windowEnd (p : Part) : Nat := (p.pair.window + 1) * 2560

/-- The 6 bytes of a rail in a PAIRX frame (R658). -/
def Part.pairxRail (p : Part) (n : Nat) : List Byte :=
  leBytesS 4 (nth p.pair.dsumPrev n 0) ++ leBytes 1 (nth p.pair.dcntPrev n 0) ++
    leBytes 1 (p.get RAIL_STATUS.STATE n + 16 * p.get FAB_STAT.LEVEL n)

/-- PAIRX_SEND (R658): the window ends, and the MAIN sends its sums. -/
def Part.pairxSend (p : Part) : Part :=
  let p := p.hal0
  if p.role == .main && p.live then
    let p := (p.advance p.windowEnd).pairRoll
    p.send p.pairPort (p.linkFrame 0x60 ((List.range 8).map p.pairxRail).flatten)
  else p

/-- Whether the cross-check compares a rail in a state: RAMP_UP, REGULATE, BURST, RAMP_DOWN (R659). -/
def checkedState (st : Nat) : Bool := st == 2 || st == 3 || st == 4 || st == 6

/-- XCHK_N with its 0 acting as 1 (R678). -/
def Part.xchkN (p : Part) : Nat := orDefault (p.get PAIR_CFG.XCHK_N) 1

/-- The mismatch run of a rail after a compared window (R659). -/
def Part.xmis (p : Part) (n : Nat) (bad : Bool) : Part :=
  let p := p.modPair fun x => { x with
    misRun := upd x.misRun n fun k => if bad then min 15 (k + 1) else 0
    okRun := upd x.okRun n fun k => if bad then 0 else min 15 (k + 1) }
  if bad && decide (p.xchkN ≤ nth p.pair.misRun n 0) && !p.bit PAIR_STAT.XMIS n then
    (((p.setBit PAIR_STAT.XMIS n).event PAIR_STAT.XMIS_EV PAIR_EVCNT.XMIS_CNT).latchMfr n 5).record 0x07 3 .d (some n) none
  else if !bad && decide (p.xchkN ≤ nth p.pair.okRun n 0) then p.clearBit PAIR_STAT.XMIS n
  else p

/-- The tracking correction of a rail's serving slice (R660): `dd` is ΔD in Q1.23. No rule states ΔD / g
for g = 0: a free value (assumption log 6). -/
def Part.track (p : Part) (n : Nat) (dd : Rat) : Part :=
  match p.servingOf n with
  | some s =>
    if p.shadowing && p.flag PAIR_CFG.TRK_EN then
      let lim : Int := p.get PAIR_TRK.TRK_MAX * 65536
      let c := clampI (-lim) lim (roundQ (p.ratio 0 (dd * 2 ^ 29) (p.slice s).g))
      let c := preloadC (p.lawOf s).ylim ((p.slice s).y.take 4) c
      (p.modSlice s fun x => { x with y := (x.y.take 4).map (· + c) ++ x.y.drop 4 }).tick
    else p
  | none => p

/-- The compare of one rail of a PAIRX payload (R659, R660, R682). -/
def Part.pairxCompare (p : Part) (pl : List Byte) (n : Nat) : Part :=
  let cntM := leAt pl (6 * n + 4) 1
  let stM := leAt pl (6 * n + 5) 1 % 16
  let cntZ := nth p.pair.dcntPrev n 0
  let stZ := p.get RAIL_STATUS.STATE n
  if cntM = 0 ∨ cntZ = 0 ∨ !checkedState stM ∨ !checkedState stZ then p
  else
    let dd : Rat := (toS 32 (leAt pl (6 * n) 4) : Rat) / (cntM : Rat) - ((nth p.pair.dsumPrev n 0 : Int) : Rat) / (cntZ : Rat)
    let tol : Rat := (p.get PAIR_CFG.XCHK_TOL * 128 : Nat)
    let bad := decide (tol < dd) || decide (dd < -tol) || stM != stZ
    ((p.setSat PAIR_DIFF.DIFF (roundQ (dd / 256)) n).xmis n bad).track n dd

/-- PAIRX (R659): the MIZZEN compares the window that ended last. -/
def Part.pairxRx (p : Part) (r : HalRx) : Part :=
  let p := p.hal0
  if !(p.live && p.role == .mizzen && r.port == p.pairPort && p.portIsUp r.port) then p
  else if !r.crcOk then p.crcBad r.port
  else
    let p := (if p.pair.pairxSeen then p.advance p.windowEnd else p).pairRoll
    if p.pair.pairxSeen then p
    else
      let p := (p.modPair fun x => { x with pairxSeen := true }).bumpWrap PAIR_XCNT.XWIN_CNT
      p.forN 8 fun n q => q.pairxCompare r.frame.payload n

/-- PAIRX_WINDOW_SKIP (R659): a window ends without the frame of the window before it. -/
def Part.pairxSkip (p : Part) : Part :=
  if p.live && p.role == .mizzen then
    (((if p.pair.pairxSeen then p else p.bump PAIR_XCNT.XSKIP_CNT)).advance p.windowEnd).pairRoll
  else p

/-! Meanings. -/

/-- HB_SEND (R650). -/
def execHbSend (s : State) : Host.Outcome State Fault Refusal := .next { s with part := s.part.hbSend }

/-- HB (R652). -/
def execHb (rx : HalRx) (s : State) : Host.Outcome State Fault Refusal := .next { s with part := s.part.hbRx rx }

/-- HB_TIMEOUT (R652). -/
def execHbTimeout (s : State) : Host.Outcome State Fault Refusal := .next { s with part := s.part.hbTimeout }

/-- SELF_FAULT_TIMEOUT (R656). -/
def execSelfFaultTimeout (s : State) : Host.Outcome State Fault Refusal := .next { s with part := s.part.selfFaultTimeout }

/-- PAIRX_SEND (R658). -/
def execPairxSend (s : State) : Host.Outcome State Fault Refusal := .next { s with part := s.part.pairxSend }

/-- PAIRX (R659). -/
def execPairx (rx : HalRx) (s : State) : Host.Outcome State Fault Refusal := .next { s with part := s.part.pairxRx rx }

/-- PAIRX_WINDOW_SKIP (R659). -/
def execPairxWindowSkip (s : State) : Host.Outcome State Fault Refusal := .next { s with part := s.part.pairxSkip }

end Sys2Proof.Machine
end

