-- ==== Sys2Proof/Machine/SelfTest.lean ====
section
/-!
DEFINITION. The in-field tests beside the slice rotation and the DAC readback (R574 to R586): reference injections,
transparent MBIST, HALYARD loopback, with the meanings of their commands.
-/

namespace Sys2Proof.Machine

open Reg

/-- A test ends NOT_RUN (R586). -/
def Part.notRun (p : Part) : Part := p.event IF_STAT.NOTRUN_EV IF_EVCNT.NOTRUN_CNT

/-- Whether an injection on a converter of rail `n` counts (R574, R602): the converters run, with no class A action, HICCUP
or gap. -/
def Part.injCounts (p : Part) (n : Nat) : Bool :=
  p.live && p.convRun n && p.rst n != .hiccup && p.rst n != .latched

/-- Whether a code differs from the mean of 256 summed codes by more than a tolerance (R579, R580). -/
def injectionOff (code sum : Int) (tol : Nat) : Bool := decide (256 * tol < (256 * code - sum).natAbs)

/-! Error converters (R579). -/

/-- EC_TOL (R605). -/
def Part.ecTol (p : Part) : Nat := orDefault (p.get IF_CFG.EC_TOL) 20

/-- A converter has had both references injected: 3 in a mask of two bits. -/
def bothRefs (m : Nat) : Bool := m == 3

/-- The injection cycle of the error converters ends when every running rail has had both references (R574, R575). -/
def Part.ecCycle (p : Part) : Part :=
  if (List.range 8).all fun n => !(p.railEn n && p.convRun n) || bothRefs (nth p.test.ecDone n 0) then
    (p.modTest fun t => { t with ecDone := List.replicate 8 0 }).cycleEnd 1
  else p

/-- EC_INJECTION (R139, R579): in the raw slot 16 ticks after the latest sample, which no other injection has taken. -/
def Part.ecInjection (p : Part) (n ref : Nat) (code : Int) : Part :=
  let slot := (p.rail n).lastSt + 512
  if !p.injCounts n || (p.rail n).injSt == some slot then p
  else
    let p := (p.advanceSt slot).modRail n fun r => { r with injSt := some slot }
    let k := ref % 2
    let off := injectionOff code (nth (nth p.test.ecMean n []) k 0) p.ecTol
    let p := p.modTest fun t => { t with
      ecInj := upd t.ecInj n fun l => upd l k fun c => if off then min 3 (c + 1) else 0
      ecDone := upd t.ecDone n fun m => withBit m k }
    (p.when off Part.inFieldFail).ecCycle

/-- EC_INJ_FAIL (R579): three consecutive injections of one reference have failed. -/
def Part.ecInjFail (p : Part) (n : Nat) : Part :=
  if p.live && (nth p.test.ecInj n []).any (fun c => decide (3 ≤ c)) && !p.bit IF_INJ.EC_INJ_FAIL n then
    ((p.setBit IF_INJ.EC_INJ_FAIL n).setBit SENSE_CALSTAT.EC_FAIL n).fault n 8 none (p.rail n).ifPrev
  else p

/-! Phase converters (R580). -/

/-- PH_TOL (R605). -/
def Part.phTol (p : Part) : Nat := orDefault (p.get IF_CFG.PH_TOL) 16

/-- The phases whose converters run. -/
def Part.runningPhases (p : Part) : List Nat :=
  (List.range 64).filter fun q => match p.railOf q with
    | some n => p.convRun n && (p.pst q == .active || p.pst q == .shed)
    | none => false

/-- The injection cycle of the phase converters ends when every running one has had both references (R574, R575). -/
def Part.phCycle (p : Part) : Part :=
  if p.runningPhases.all fun q => bothRefs (nth p.test.phDone q 0) then
    (p.modTest fun t => { t with phDone := List.replicate 64 0 }).cycleEnd 2
  else p

/-- The sample slot that an injection takes holds the previous sample (R145). -/
def Part.holdSlot (p : Part) (n q : Nat) : Part :=
  let at_ := p.nextGrid n q
  let p := p.advanceSt at_
  match (p.ph q).samples with
  | s :: _ => p.pushSample n q { s with at_ := at_, held := true }
  | [] => p

/-- PH_INJECTION (R145, R580). -/
def Part.phInjection (p : Part) (q ref : Nat) (code : Int) : Part :=
  match p.railOf q with
  | some n =>
    if !(p.live && p.convRun n && (p.pst q == .active || p.pst q == .shed)) then p
    else
      let p := p.holdSlot n q
      if !p.injCounts n then p
      else
        let k := ref % 2
        let off := injectionOff code (nth (p.ph q).calMean k 0) p.phTol
        let p := p.modPh q fun x => { x with injCnt := upd x.injCnt k fun c => if off then min 3 (c + 1) else 0 }
        let p := p.modTest fun t => { t with phDone := upd t.phDone q fun m => withBit m k }
        (p.when off Part.inFieldFail).phCycle
  | none => p

/-- CAL_FAIL of a phase (R158, R170, R172). -/
def Part.setCalFail (p : Part) (q : Nat) : Part :=
  if p.flag PCS_CAL.CAL_FAIL q then p else (p.set PCS_CAL.CAL_FAIL 1 q).bump SENSE_CALSTAT.PCS_FAIL_CNT

/-- PH_INJ_FAIL (R327, R580): three consecutive injections of one reference have failed. -/
def Part.phInjFail (p : Part) (q : Nat) : Part :=
  match p.railOf q with
  | some n =>
    if p.live && p.retirable q && (p.ph q).injCnt.any (fun c => decide (3 ≤ c)) && (p.ph q).retirePend.isNone then
      ((p.setCalFail q).bump IF_INJ.PH_INJ_FAIL_CNT).decideRetire n q 5
    else p
  | none => p

/-! Transparent MBIST (R577, R578). -/

/-- The MBIST cycle ends when each of the six RAMs has had its verdict (R574, R575). -/
def Part.mbistCycle (p : Part) : Part :=
  if p.test.mbistDone = 63 then (p.modTest fun t => { t with mbistDone := 0 }).cycleEnd 0 else p

/-- What a failing RAM does (R578). -/
def Part.ramFail (p : Part) (ram : Nat) : Part :=
  let p := (p.setBit IF_STAT.MBIST_FAIL ram).inFieldFail
  if ram = 3 then (p.set IF_STAT.QUEUE_OFF 1).record 0x08 2 .d none none
  else if ram = 5 then (p.retirePort .east).retirePort .west
  else p.safeReaction 1

/-- MBIST_STEP (R577, R578): one word is tested, and the last word of a RAM brings the verdict of its run. -/
def Part.mbistStep (p : Part) (ram : Nat) (last : Option TestRun) : Part :=
  if !p.hostActive then p
  else
    match last with
    | none => p
    | some .aborted => p.notRun
    | some (.done r) =>
      let p := p.modTest fun t => { t with mbistDone := withBit t.mbistDone ram }
      (if verdictOf r = 1 then p.bumpWrap IF_PASSCNT.PASS_CNT else p.ramFail ram).mbistCycle

/-! HALYARD loopback (R581). -/

/-- Whether a port is in service. -/
def Part.portIn (p : Part) (port : HalPort) : Bool := p.portEn port && !p.outOf port

/-- The loopback cycle ends when each port in service has had its verdict (R574, R575). -/
def Part.halCycle (p : Part) : Part :=
  if (!p.portIn .east || bitOf p.test.halDone 0 == 1) && (!p.portIn .west || bitOf p.test.halDone 1 == 1) then
    (p.modTest fun t => { t with halDone := 0 }).cycleEnd 4
  else p

/-- HAL_LOOPBACK (R581). -/
def Part.halLoopback (p : Part) (port : HalPort) (run : TestRun) : Part :=
  let p := p.hal0
  if !(p.hostActive && p.portIn port) then p
  else
    match run with
    | .aborted => p.notRun
    | .done r =>
      let p := p.modTest fun t => { t with halDone := withBit t.halDone (portIx port) }
      (if verdictOf r = 1 then p.bumpWrap IF_PASSCNT.PASS_CNT else p.inFieldFail.retirePort port).halCycle

/-! Meanings. -/

/-- EC_INJECTION (R579). -/
def execEcInjection (rail : Rail) (ref : Nat) (code : Int) (s : State) : Host.Outcome State Fault Refusal :=
  .next { s with part := s.part.ecInjection rail ref code }

/-- EC_INJ_FAIL (R579). -/
def execEcInjFail (rail : Rail) (s : State) : Host.Outcome State Fault Refusal :=
  .next { s with part := s.part.ecInjFail rail }

/-- PH_INJECTION (R580). -/
def execPhInjection (phase : Phase) (ref : Nat) (code : Int) (s : State) : Host.Outcome State Fault Refusal :=
  .next { s with part := s.part.phInjection phase ref code }

/-- PH_INJ_FAIL (R580). -/
def execPhInjFail (phase : Phase) (s : State) : Host.Outcome State Fault Refusal :=
  .next { s with part := s.part.phInjFail phase }

/-- MBIST_STEP (R577). -/
def execMbistStep (ram : Fin 6) (last : Option TestRun) (s : State) : Host.Outcome State Fault Refusal :=
  .next { s with part := s.part.mbistStep ram last }

/-- HAL_LOOPBACK (R581). -/
def execHalLoopback (port : HalPort) (run : TestRun) (s : State) : Host.Outcome State Fault Refusal :=
  .next { s with part := s.part.halLoopback port run }

end Sys2Proof.Machine
end

