-- ==== Sys2Proof/Machine/Vin.lean ====
section
/-!
DEFINITION. The input voltage (R438 to R442) and the stage fault inputs (R443), with the meanings of VINS_SAMPLE,
VIN_FAULT, STAGE_FAULT and SFLT_CLEAR.
-/

namespace Sys2Proof.Machine

open Reg

/-- Whether the VINS converter runs (R438). -/
def Part.vinRuns (p : Part) : Bool := p.dev == .load || p.hostActive

/-- V_IN in UQ8.16 for the sum of four codes (R440, R468). -/
def Part.vinOf (p : Part) (sum : Int) : Nat :=
  satU 24 (roundDiv (sum * (clampN 256 65280 (p.get PROT_VINCFG.VIN_DIV) * 390625 * 64 : Nat)) 1000000000)

/-- VINS_SAMPLE (R438 to R440), every 64 TB ticks: the fourth code since the start lets the rails leave OFF. -/
def Part.vinsSample (p : Part) (code : Int) : Part :=
  if !p.vinRuns then p
  else
    let at_ := nextOn p.vinAt 64 p.tb
    let p := { p.advance at_ with vinAt := some at_ }
    let codes := (clampI 0 4095 code :: p.vinCodes).take 4
    let was := p.vinFresh
    let p := { p with vinCodes := codes }
    if codes.length < 4 then p
    else
      let v := p.vinOf (sumI codes)
      let p := { (p.set PROT_VIN.V_IN v) with vinValues := (v :: p.vinValues).take 4 }
      p.when (!was && p.live) fun q => q.reqEvalAll

/-- The last four values of V_IN lie beyond a level in 0.1 V (R441). -/
def Part.vinAll (p : Part) (f : Nat → Bool) : Bool := decide (4 ≤ p.vinValues.length) && p.vinValues.all f

/-- V_IN at or above a level in 0.1 V. -/
def vinAtLeast (level : Int) (v : Nat) : Bool := decide (level * 65536 ≤ 10 * (v : Int))

/-- An input fault acts on every enabled rail that is not in OFF (R442). -/
def Part.inputFault (p : Part) (f : Nat) : Part := p.forN 8 fun n q => if q.railEn n then q.fault n f else q

/-- The waits that count from the clear of a fault code begin (R423). -/
def Part.conditionClear (p : Part) (f : Nat) : Part :=
  p.forN 8 fun n q => q.waitCleared n f

/-- VIN_FAULT (R441, R442). -/
def Part.vinFault (p : Part) (l : VinLevel) : Part :=
  let ov : Int := p.get PROT_VINLIM.VIN_OV
  let uvw : Int := p.get PROT_VINWARN.VIN_UVW
  let hys : Int := p.get PROT_VINCFG.VIN_HYS
  if !p.vinRuns then p
  else
    match l with
    | .overSet =>
      if p.vinAll (vinAtLeast ov) && !p.flag PROT_VIN.VIN_OV_ACT then (p.set PROT_VIN.VIN_OV_ACT 1).inputFault 11 else p
    | .overClear =>
      if p.vinAll (fun v => !vinAtLeast (ov - hys) v) && p.flag PROT_VIN.VIN_OV_ACT then
        (p.set PROT_VIN.VIN_OV_ACT 0).conditionClear 11
      else p
    | .underSet =>
      if p.vinAll (fun v => !vinAtLeast (p.get PROT_VINLIM.VIN_UV) v) && !p.flag PROT_VIN.VIN_UV_ACT then
        (p.set PROT_VIN.VIN_UV_ACT 1).inputFault 12
      else p
    | .underClear =>
      if p.vinAll (vinAtLeast (p.get PROT_VINLIM.VIN_ON)) && p.flag PROT_VIN.VIN_UV_ACT then
        (p.set PROT_VIN.VIN_UV_ACT 0).conditionClear 12
      else p
    | .warnSet =>
      if p.vinAll (fun v => !vinAtLeast uvw v) && !p.flag PROT_VIN.VIN_UVW_ACT then
        (((p.set PROT_VIN.VIN_UVW_ACT 1).event PROT_VIN.VINW_EV PROT_VINWCNT.VINW_CNT).latchInput 5).record 0x09 2 .d none none
      else p
    | .warnClear => if p.vinAll (vinAtLeast (uvw + hys)) then p.set PROT_VIN.VIN_UVW_ACT 0 else p

/-- Whether a rail owns a phase of a stage group (R309). -/
def Part.ownsGroup (p : Part) (n k : Nat) : Bool := (p.range n).any fun q => q / 8 == k

/-- Whether a level of SFLTk_N that has held with STGENk high for a time in nanoseconds passes the filter (R443, R471). -/
def Part.sfltTaken (p : Part) (k heldNs : Nat) : Bool :=
  p.live && p.stgen k && decide (p.get PROT_SFLT.SFLT_FILT * 10 ≤ heldNs)

/-- STAGE_FAULT (R443): SFLTk_N has been low and STGENk high together for a time. -/
def Part.stageFault (p : Part) (k heldNs : Nat) : Part :=
  if p.sfltTaken k heldNs && !p.bit PROT_SFLT.SFLT_LVL k then
    let p := ((p.setBit PROT_SFLT.SFLT_LVL k).setBit PROT_SFLT.SFLT_EV k).bump (byteFld PROT_SFLTCNT.G0 k)
    p.forN 8 fun n q => if q.ownsGroup n k then q.fault n 10 (some k) else q
  else p

/-- SFLT_CLEAR (R443): SFLTk_N and STGENk have been high together for a time; a rail's wait begins once no group of its phases
reports a fault. -/
def Part.sfltClear (p : Part) (k heldNs : Nat) : Part :=
  if p.sfltTaken k heldNs then
    let p := p.clearBit PROT_SFLT.SFLT_LVL k
    p.forN 8 fun n q =>
      if q.ownsGroup n k && !((List.range 8).any fun j => q.ownsGroup n j && q.bit PROT_SFLT.SFLT_LVL j) then
        q.waitCleared n 10
      else q
  else p

/-! Meanings. -/

/-- VINS_SAMPLE (R438). -/
def execVinsSample (code : Int) (s : State) : Host.Outcome State Fault Refusal :=
  .next { s with part := s.part.vinsSample code }

/-- VIN_FAULT (R441). -/
def execVinFault (level : VinLevel) (s : State) : Host.Outcome State Fault Refusal :=
  .next { s with part := s.part.vinFault level }

/-- STAGE_FAULT (R443). -/
def execStageFault (low : HeldGroup) (s : State) : Host.Outcome State Fault Refusal :=
  .next { s with part := s.part.stageFault low.group low.heldNs }

/-- SFLT_CLEAR (R443). -/
def execSfltClear (high : HeldGroup) (s : State) : Host.Outcome State Fault Refusal :=
  .next { s with part := s.part.sfltClear high.group high.heldNs }

end Sys2Proof.Machine
end

