-- ==== Sys2Proof/Machine/Start.lean ====
section
/-!
DEFINITION. The cold start: start-up BIST (R567 to R573, R69 to R72), the start calibration (R155 to R159, R793), and the end
of LOAD (R16, R80, R307, R501, R750, R792), with the meanings of PARTITION_VERDICT, PARTITION_TIMEOUT and LOAD_COMPLETE.
-/

namespace Sys2Proof.Machine

open Reg

/-! Start-up BIST. -/

/-- Entry to STARTBIST (R69, R568, R629): TB begins at 0, P1 and P5 run, no verdict is known. -/
def Part.enterBist (p : Part) : Part :=
  let p := { p with dev := .startbist, tb := 0, aonCount := 0 }
  (p.modTest fun t => { t with running := [1, 5], beganAt := 0, partAt := List.replicate 6 0 }).forN 6 fun k q => q.set SB_VERDICT.V 0 k

/-- The partition that follows in the same stream (R568). -/
def nextPartition : Nat → Option Nat
  | 1 => some 0
  | 0 => some 3
  | 5 => some 2
  | 2 => some 4
  | _ => none

/-- The longest run of a partition, in ticks (R567): 0.5 ms is 625000 ticks. -/
def bistMax (k : Nat) : Nat := nth [11, 13, 10, 10, 11, 8] k 0 * 625000

/-- DURATION in 10 µs units (R604). -/
def Part.bistTime (p : Part) : Nat := min 65535 (roundDiv (p.tb - p.test.beganAt : Nat) (10 * tickUs)).toNat

/-- A start-up failure (R69, R570): the part holds in OFF with the failing partition kept in AON. -/
def Part.bistFail (p : Part) (k : Nat) : Part :=
  let second := p.get SYS_RESET.BIST_FAIL_CNT != 0
  let q := ((p.afterReset.set SYS_RESET.BIST_FAIL_CNT (if second then 2 else 1)).set SYS_RESET.BIST_HOLD 1).set
    SYS_RESET.BIST_FAIL_PART k
  q.when second fun q => q.set SYS_RESET.BIST_LOCK 1

/-- A partition ends with a verdict (R568, R570, R572). -/
def Part.partitionEnd (p : Part) (k verdict : Nat) : Part :=
  if p.dev ≠ .startbist ∨ !p.test.running.contains k then p
  else if verdict ≠ 1 then p.bistFail k
  else
    let p := (p.set SB_VERDICT.V 1 k).modTest fun t => { t with
      running := (t.running.filter (· != k)) ++ (nextPartition k).toList
      partAt := (nextPartition k).elim t.partAt fun j => upd t.partAt j fun _ => p.tb }
    if p.test.running.isEmpty then { p.set SB_TIME.DURATION p.bistTime with dev := .load } else p

/-- PARTITION_TIMEOUT (R569, R572): a run is stopped at its maximum time; it carries no end-of-test marker, which is
FAIL_TRUNCATED. -/
def Part.partitionTimeout (p : Part) (k : Nat) : Part :=
  let due := nth p.test.partAt k 0 + bistMax k
  if p.dev = .startbist ∧ p.test.running.contains k then (p.advance due).partitionEnd k 3 else p

/-- PARTITION_VERDICT (R569 to R572): a run that has not ended by its maximum time was stopped there. -/
def Part.partitionVerdict (p : Part) (k verdict : Nat) : Part :=
  if nth p.test.partAt k 0 + bistMax k < p.tb then p.partitionTimeout k else p.partitionEnd k verdict

/-! Start calibration. -/

/-- The gain that a step measures, UQ1.15, none where the mean at the reference is not above the mean at zero (R155,
R793): `target` is the reference in codes. -/
def calGain (target : Nat) (c : CalSums) : Option Nat :=
  if c.ref ≤ c.zero then none else some (satU 16 (roundDiv (target * 256 * 32768 : Nat) (c.ref - c.zero).toNat))

/-- Whether a gain lies between 0.97 and 1.03 (R155). -/
def gainFits (target : Nat) (c : CalSums) : Bool :=
  decide (c.zero < c.ref) && decide (97 * (c.ref - c.zero) ≤ 25600 * target) && decide (25600 * target ≤ 103 * (c.ref - c.zero))

/-- The calibration of an error converter (R155 steps 1 and 2, R157, R793). -/
def Part.calError (p : Part) (n : Nat) (c : CalSums) : Part :=
  let p := (p.setSat SEN_CAL.OFS (roundDiv c.zero 16) n).set SEN_CAL.GTRIM ((calGain 800 c).getD 0x8000) n
  let p := p.modTest fun t => { t with ecMean := upd t.ecMean n fun _ => [c.zero, c.ref] }
  if decide (c.zero.natAbs ≤ 20 * 256) && gainFits 800 c then p
  else (p.setBit SENSE_CALSTAT.EC_FAIL n).record 0x06 6 .d (some n) none

/-- The calibration of a phase converter (R155 steps 3 to 5, R158, R793). -/
def Part.calPhase (p : Part) (q : Nat) (c : CalSums) : Part :=
  let image := p.flag PCS_CFG.OFS_MODE q
  let p := (if image then p.set PCS_CAL.OFS (p.get PCS_CFG.OFS_IMG q) q else p.setSat PCS_CAL.OFS (roundDiv c.rest 256) q).set
    PCS_CAL.GTRIM ((calGain 1600 c).getD 0x8000) q
  let p := p.modPh q fun x => { x with calMean := [c.zero, c.ref] }
  if decide (c.zero.natAbs ≤ 20 * 256) && gainFits 1600 c && (image || decide (c.rest.natAbs ≤ 64 * 256)) then p
  else p.setCalFail q

/-- No measurement: what a converter without one reads. -/
def noSums : CalSums := ⟨0, 0, 0⟩

/-- The calibration of the converters of a rail (R155). -/
def Part.calRail (p : Part) (x : StartInputs) (n : Nat) : Part :=
  (p.calError n (nth x.ecSums n noSums)).forL (p.range n) fun q r => r.calPhase q (nth x.phSums q noSums)

/-! Leaving LOAD. -/

/-- The phases of an enabled rail take their states (R307): those with CAL_FAIL are retired (R158, R328). -/
def Part.startPhases (p : Part) (n : Nat) : Part :=
  let p := p.forL (p.range n) fun q r => r.set PH_STAT.STATE PhState.active.code q
  let bad := (p.range n).filter fun q => p.flag PCS_CAL.CAL_FAIL q
  if bad.isEmpty then p else p.retireAll n (bad.map fun q => (q, 5))

/-- What a rail shows and keeps from its configuration on (R203, R298, R329, R362, R433). -/
def Part.startRail (p : Part) (n : Nat) : Part :=
  let p := p.modRail n fun r => { r with divM := p.mOf n (p.active n).length, prebiasDone := !p.flag RAIL_CFG.PREBIAS_EN n }
  ((p.showCap n).showDEff n).showCmd n

/-- A slice serves a rail that is in OFF (R16, R188, R195, R203). -/
def Part.assign (p : Part) (n s : Nat) : Part :=
  let t := p.get RAIL_ENGINE.TMODE_INIT n
  let p := (((p.setSlice s .open_).set SLICE_STATE.ASSIGNED 1 s).set SLICE_STATE.RAIL n s).set SLICE_STATE.TIMING t s
  ((p.set RAIL_ENGINE.SLICE s n).set RAIL_ENGINE.TIMING t n).keepSet n s


/-- A monitor takes up its own mode (R501): a continuous one starts now, a sampled one on its first sample. -/
def Part.monBegin (p : Part) (m uv : Nat) : Part :=
  let p := { p with mons := upd p.mons m fun _ => { runs := p.monRuns m, started := false, begSt := p.clockSt, count := 0 } }
  if p.monRuns m = 1 then p.monStart m uv else p

/-- The pins sampled from READY on (R76). -/
def Part.samplePins (p : Part) (x : StartInputs) : Part :=
  p.forN 8 fun n q => q.modRail n fun r => { r with enPin := bitOf x.enPins n == 1, ctlPin := x.control }

/-- The enabled rails. -/
def Part.enabled (p : Part) : List Nat := (List.range 8).filter p.railEn

/-- Whether the record of a supply loss that is due has been sealed (R63, R80). -/
def Part.lossSealed (p : Part) : Bool := !p.load.lossOpen || (p.nvm.op.isNone && p.nvm.recs.isEmpty)

/-- The timing that the image gives every rail, enabled or not (R188). -/
def Part.startTiming (p : Part) : Part :=
  p.forN 8 fun n q => q.set RAIL_ENGINE.TIMING (q.get RAIL_ENGINE.TMODE_INIT n) n

/-- LOAD_COMPLETE (R69, R80): the slots are judged and a supply loss is recorded; the calibration, the assignments; then
READY, or SAFE where no slot was accepted. -/
def Part.loadComplete (p : Part) (x : StartInputs) : Part :=
  if p.dev ≠ .load ∨ !p.judged ∨ !p.lossSealed then p
  else
    let p := (p.forL p.enabled fun n q => q.calRail x n).set SENSE_CALSTAT.CAL_DONE 1
    let p := { p with load := { p.load with lossDue := false, lossOpen := false } }
    let p := (p.samplePins x).when (p.role == .main) fun q => q.set PAIR_STAT.OWNER 1
    let p := p.cyclesBegin.startTiming.forL p.enabled fun n q => q.assign n n
    let p := (p.forL p.enabled fun n q => (q.startPhases n).startRail n).forN 8 fun n q => q.showCap n
    let p := p.forN 24 fun k q => q.monBegin k (nth x.monUv k 0)
    if p.role == .reserved then (p.enterSafe 4).nvmKick
    else if p.load.image.isNone then (p.enterSafe 3).nvmKick
    else
      let p := { p.modEng fun e => { e with rotNext := p.tb + p.get ENG_ROT.ROT_INT * tickMs } with dev := .ready }
      let p := if p.get SYS_RESET.LAST_RESET = 0 then p.modNvm fun k => { k with counters := k.counters ++ [false] } else p
      ((p.thrUpdate.ringEval).reqEvalAll).nvmKick

/-! Meanings. -/

/-- PARTITION_VERDICT (R570). -/
def execPartitionVerdict (part : Fin 6) (result : RunResult) (s : State) : Host.Outcome State Fault Refusal :=
  .next { s with part := s.part.partitionVerdict part (verdictOf result) }

/-- PARTITION_TIMEOUT (R569). -/
def execPartitionTimeout (part : Fin 6) (s : State) : Host.Outcome State Fault Refusal :=
  .next { s with part := s.part.partitionTimeout part }

/-- LOAD_COMPLETE (R80). -/
def execLoadComplete (inputs : StartInputs) (s : State) : Host.Outcome State Fault Refusal :=
  .next { s with part := s.part.loadComplete inputs }

end Sys2Proof.Machine
end

