-- ==== Sys2Proof/Machine/Park.lean ====
section
/-!
DEFINITION. Parking and resume (R24, R29, R75, R78, R105 to R112, R159, R388 to R397), with the meanings of PARK, PARK_ENTRY,
PARK_TIMEOUT, WAKE_REQUEST, WAKE_TIMER, SCL_HOLD_RELEASE, PLL_LOCK and RELOAD_DONE.
-/

namespace Sys2Proof.Machine

open Reg

/-! Park entry. -/

/-- The address of SYS_CTRL (R118). -/
def addrCtrl : Nat := 0x10

/-- Whether a rail may enter PARKED (R105): OFF, or a parked-burst rail in BURST. -/
def Part.railParks (p : Part) (n : Nat) : Bool := p.rst n == .off || (p.rst n == .burst && p.flag RAIL_CFG.PB_RAIL n)

/-- Whether every rail may enter PARKED. -/
def Part.railsPark (p : Part) : Bool := (List.range 8).all p.railParks

/-- The PARK command (R105): none where it is refused. -/
def Part.parkTry (p : Part) : Option Part :=
  if p.live && p.role == .solo && !p.flag HAL_CFG.EN_E && !p.flag HAL_CFG.EN_W && p.railsPark && !p.flag DBG_STAT.SESSION then
    some { p with parkReq := true, parkAt := p.tb }
  else none

/-- PARK (R105, R118). -/
def Part.park (p : Part) (key : Nat) : Part :=
  if key ≠ 0xA5 then p.refuse .pmbus addrCtrl else p.parkTry.getD (p.refuse .pmbus addrCtrl)

/-- Whether the NVM queue has drained (R106, R108). -/
def Part.nvmEmpty (p : Part) : Bool := p.nvm.op.isNone && p.nvm.recs.isEmpty && p.nvm.logs.isEmpty && p.nvm.counters.isEmpty

/-- The parked-burst rails (R388). -/
def Part.pbRails (p : Part) : List Nat := (List.range 8).filter fun n => p.flag RAIL_CFG.PB_RAIL n

/-- The parked-burst rails that the generator takes: those in BURST (R394). -/
def Part.parked (p : Part) : List Nat := p.pbRails.filter fun n => p.rst n == .burst

/-- Whether a monitor runs in PARKED (R388, R504). -/
def Part.monParks (p : Part) (m : Nat) : Bool := p.flag MON_CFG.PARK_MODE m || (p.pbRailOf m).isSome

/-- A monitor goes over to its way of running in PARKED (R501, R503, R504): one that samples at the same interval keeps its
grid. -/
def Part.monPark (p : Part) (m : Nat) : Part :=
  let ran := (p.mon m).runs == 2
  if !p.monParks m then { p with mons := upd p.mons m fun _ => {} }
  else if ran && p.winLen m == p.winLenOwn m then p
  else { p with mons := upd p.mons m fun x => { runs := 2, started := x.started && ran, begSt := p.clockSt, count := 0 } }

/-- Whether a rail stands at the start of a gap, where the generator can take it (R394). -/
def Part.atGap (p : Part) (n : Nat) : Bool := (p.rail n).gap || (p.rail n).pbOwns

/-- The generator takes a parked-burst rail (R394). -/
def Part.takeParked (p : Part) (n : Nat) : Part :=
  (p.noOffer n).modRail n fun r => { r with
    gap := true, pbOwns := true, pbBursting := false, pbSeen := [], pbFirst := false, pbFails := 0, pbStopped := false
    pbStage := 0 }

/-- PARK_ENTRY (R106, R394, R583): once the NVM queue has drained and each parked-burst rail in BURST stands in a gap. -/
def Part.parkEntry (p : Part) : Part :=
  match p.load.image with
  | some i =>
    if p.parkReq && p.live && p.nvmEmpty && p.railsPark && p.parked.all p.atGap then
      let ctx : ParkCtx := ⟨p.get SYS_STATE.ROLE, p.get SYS_STATE.ADDR_CODE, p.flag SYS_STATE.ADDR_NONE, i⟩
      let rails := p.parked
      let p := { p.stopTests with dev := .parked, parkReq := false, parkCtx := some ctx, aonCount := 0, wakes := [] }
      (p.forN 24 fun m q => q.monPark m).forL rails fun n q => q.takeParked n
    else p
  | none => p

/-- PARK_TIMEOUT (R108): 20 ms after the PARK command with the NVM queue not empty. -/
def Part.parkTimeout (p : Part) : Part :=
  if p.nvmEmpty || !p.parkReq || !p.live then p else (p.advance (p.parkAt + 20 * tickMs)).abortPark

/-! Wake sources. -/

/-- Whether a source is enabled (R110). -/
def Part.wakeEn (p : Part) : WakeSource → Bool
  | .en => p.flag SYS_WAKE.EN_WAKE
  | .control => p.flag SYS_WAKE.CTRL_WAKE
  | .monitor => p.flag SYS_WAKE.MON_WAKE
  | .timer => p.flag SYS_WAKE.TIMER_WAKE && p.get SYS_WAKE.WAKE_TIMER != 0
  | _ => true

/-- Wake sources are noted, and a PMBus START holds SCL (R29, R69, R75, R110). -/
def Part.noteWakes (p : Part) (l : List WakeSource) : Part :=
  let p := l.foldl (fun q w => q.addWake w) p
  if l.contains .pmbus && !p.sclHold then { p with sclHold := true, sclAt := p.aonCount } else p

/-- PARKED ends for a WAKE that senses the straps (R69, R77, R110). -/
def Part.wake (p : Part) (l : List WakeSource) (x : Straps) : Part := (p.senseStraps x).noteWakes l

/-- WAKE_REQUEST (R29, R69, R75, R107, R110). -/
def Part.wakeRequest (p : Part) (l : List WakeSource) (x : Straps) : Part :=
  let l := l.filter p.wakeEn
  match p.dev with
  | .parked => if l.isEmpty then p else p.wake l x
  | .wakeResume => p.noteWakes l
  | _ => if l.isEmpty then p else p.abortPark

/-- WAKE_TIMER (R107, R110, R117): in PARKED the period of WAKE_TIMER seconds of 4,000,000 AON periods has passed. -/
def Part.wakeTimer (p : Part) (x : Straps) : Part :=
  if p.wakeEn .timer then
    match p.dev with
    | .parked => { p with aonCount := max p.aonCount (p.get SYS_WAKE.WAKE_TIMER * 4000000) }.wake [.timer] x
    | .wakeResume => p.noteWakes [.timer]
    | _ => p.abortPark
  else p

/-- SCL_HOLD_RELEASE (R29, R75): SYS runs, or the 100 µs of 400 AON periods have passed, and then the part does not
acknowledge the address byte of the transaction. -/
def Part.sclRelease (p : Part) : Part :=
  if !p.sclHold then p
  else if p.dev = .parked ∨ p.dev = .wakeResume then
    { p with sclHold := false, pmbNack := true, aonCount := max p.aonCount (p.sclAt + 400) }
  else { p with sclHold := false }

/-- The W_ flag of a source (R117). -/
def wakeBit : WakeSource → Nat
  | .pmbus => 0 | .avs => 1 | .lip => 2 | .en => 3 | .control => 4 | .monitor => 5 | .demand => 6 | .timer => 7

/-- The W_ flags and their counts, when SYS first runs (R117, R122). -/
def Part.showWakes (p : Part) (l : List WakeSource) : Part :=
  l.foldl (fun q w => (q.set SYS_WAKE.W 1 (wakeBit w)).bump SYS_WAKECNT.CNT ((wakeBit w) % 4) ((wakeBit w) / 4)) p

/-! The park context (R109). -/

/-- The straps that WAKE has sensed. -/
def strapKey (k : Nat) : Bool :=
  [SYS_STATE.ROLE, SYS_STATE.REF_SRC, SYS_STATE.ADDR_CODE, SYS_STATE.ADDR_NONE].any fun f => f.at 0 0 == k

/-- Whether a device-wide register is held: it has a field of type IMG, RW or RWL. -/
def hasConfig (addr : Nat) : Bool :=
  match findReg registerMap addr with
  | some (d, _, _) => d.fields.any FieldDef.config
  | none => false

/-- Whether the context holds the register at an address: `rails` are parked-burst rails, `slices` serve them (R109). -/
def Part.heldReg (p : Part) (rails slices : List Nat) (addr : Nat) : Bool :=
  let phase := fun q => rails.any fun n => (p.range n).contains q
  let mon := fun m => p.flag MON_CFG.PARK_MODE m || rails.any fun n => p.get RAIL_PBMON.PB_MON n == m
  if addr < 0x10000 then hasConfig addr
  else if addr < 0x12000 then rails.contains ((addr - 0x10000) / 0x400)
  else if addr < 0x20000 then hasConfig addr
  else if addr < 0x22400 then slices.contains ((addr - 0x20000) / 0x400) && hasConfig addr
  else if addr < 0x30000 then hasConfig addr
  else if addr < 0x30800 then rails.contains ((addr - 0x30000) / 0x100)
  else if addr < 0x40000 then hasConfig addr
  else if addr < 0x41000 then phase ((addr - 0x40000) / 0x40)
  else if addr < 0x41400 then rails.contains ((addr - 0x41000) / 0x80)
  else if addr < 0x50200 then rails.contains ((addr - 0x50000) / 0x40)
  else if addr < 0x51000 then hasConfig addr
  else if addr < 0x51400 then phase ((addr - 0x51000) / 0x10)
  else if addr < 0x60000 then hasConfig addr
  else if addr < 0x60800 then rails.contains ((addr - 0x60000) / 0x100)
  else if addr < 0x61000 then hasConfig addr
  else if addr < 0x61100 then phase ((addr - 0x61000) / 4)
  else if addr < 0x80000 then false
  else if addr < 0x80300 then mon ((addr - 0x80000) / 0x20)
  else hasConfig addr

/-- The registers of the NVM block that follow from its array, which no power domain loses (assumption log 17). -/
def nvmKey (k : Nat) : Bool := (decide (0xD000C * 32 ≤ k) && decide (k < 0xD001C * 32)) || k == NVM_STAT.WEAR_PCT.at 0 0

/-- The counts of the wake sources, which only a reset takes back to 0 (R122, R685). -/
def wakeCntKey (k : Nat) : Bool := decide (0x20 * 32 ≤ k) && decide (k < 0x28 * 32)

/-- What the context keeps of a parked-burst rail, beside its registers (R109). -/
def RailCore.held (r : RailCore) : RailCore :=
  { r with vHist := [], iHist := [], inHist := [], entries := [], intent := none, prep := [], curHold := none, softStop := none
           pendSoft := none, samples := 0, sigPrev := false, ovRun := 0, uvRun := 0, frozenRun := 0, probeTerms := [] }

/-- What the context keeps of a phase of a parked-burst rail: its place in the interleave. -/
def PhaseCore.held (x : PhaseCore) (next : Nat) : PhaseCore :=
  { theta := x.theta, startSt := x.startSt, next := next, calMean := x.calMean }

/-- A parked-burst rail's slice loaded from the context (R396): its coefficients stand in its registers, its histories come
from the checkpoint, and it tracks where the rail is in BURST. -/
def Part.loadParked (p : Part) (n : Nat) : Part :=
  let s := p.get RAIL_ENGINE.SLICE n
  let k := (p.rail n).checkpoint
  let p := (((p.setSlice s (if p.rst n = .burst then .track else .open_)).set SLICE_STATE.ASSIGNED 1 s).set SLICE_STATE.RAIL n s).set
    SLICE_STATE.TIMING (p.get RAIL_ENGINE.TIMING n) s
  p.modSlice s fun x => { x with x := k.x, y := k.y, h := k.h }

/-- A monitor on entry to RUN from a resume (R501, R503): one that was off starts, one that ran keeps its output; PB_MON of a
rail that the generator owns stays sampled until the hand-over (R395). -/
def Part.monResume (p : Part) (m uv : Nat) : Part :=
  let c := p.mon m
  if (p.pbRailOf m).any fun n => (p.rail n).pbOwns then p
  else if c.started then p.monOwn m
  else p.monBegin m uv

/-- The restored part before the rails take over (R24, R52, R109, R111, R117). -/
def Part.restored (p : Part) (c : ParkCtx) : Part :=
  let rails := p.pbRails
  let failed := p.flag SYS_STATE.RELOAD_FAIL
  let slices := rails.map fun n => p.get RAIL_ENGINE.SLICE n
  let tb := p.tb + p.aonCount * 625 / 2
  let mine := fun q => rails.find? fun n => (p.range n).contains q
  let next := fun n q => firstStart (p.rail n).originSt (p.per n) (p.ph q).theta (tb * 32)
  let imageKeys := fun k => k == SYS_IMAGE.SLOT.at 0 0 || k == SYS_SEQ.SEQ.at 0 0
  let fail := fun k => k == SYS_STATE.RELOAD_FAIL.at 0 0 && failed
  { regs := p.regs.keep fun k => aonKey k || strapKey k || nvmKey k || wakeCntKey k || imageKeys k || fail k ||
      p.heldReg rails slices (k / 32)
    dev := .run, supplies := p.supplies, tb := tb, free := p.free, sclHold := p.sclHold, pmbNack := p.pmbNack, mons := p.mons
    load := { image := some c.image, reload := true }
    rails := (List.range 8).map fun n => if rails.contains n then (p.rail n).held else { reloadHeld := true }
    phases := (List.range 64).map fun q => match mine q with
      | some n => (p.ph q).held (next n q)
      | none => {}
    slices := List.replicate 9 {}
    nvm := { p.nvm with op := none, hot := none }
    test := { ecMean := (List.range 8).map fun n => if rails.contains n then nth p.test.ecMean n [0, 0] else [0, 0] } }

/-- Entry to RUN from a resume (R69, R111, R159, R392, R395, R396, R636). -/
def Part.resume (p : Part) (c : ParkCtx) (monUv : List Nat) : Part :=
  let rails := p.pbRails
  let owned := p.parked
  let q := p.restored c
  let q := ((q.set SYS_STATE.RESUMED 1).set SYS_STATE.RELOAD_BUSY 1).set HAL_STAT.TB_COARSE 1
  let failed := ((List.range 64).filter fun k => q.flag PCS_CAL.CAL_FAIL k).length
  let q := (q.set SENSE_CALSTAT.CAL_BUSY 1).set SENSE_CALSTAT.PCS_FAIL_CNT failed
  let q := (q.showWakes p.wakes).forL rails fun n r => r.loadParked n
  let q := q.forN 24 fun m r => r.monResume m (nth monUv m 0)
  let q := (q.forL owned fun n r => if (r.rail n).pbStopped then r.pbLatch n else (r.ovLevel n).uvLevel n).thrUpdate
  (q.forN 8 fun n r => r.reqChanged n).cyclesBegin.devFollow

/-- Whether the park context is valid (R78, R109). -/
def Part.ctxValid (p : Part) (c : ParkCtx) (sealOk : Bool) : Bool :=
  sealOk && c.role == p.get SYS_STATE.ROLE && c.addrNone == p.flag SYS_STATE.ADDR_NONE &&
    (c.addrNone || c.addrCode == p.get SYS_STATE.ADDR_CODE)

/-- A WAKE that leads to STARTBIST (R69): nothing is left but the AON values, the straps, the wake counts and what woke the
part, shown as SYS first runs (R122). -/
def Part.coldLock (p : Part) : Part :=
  ({ p.afterReset with regs := p.regs.keep fun k => aonKey k || strapKey k || wakeCntKey k }.showWakes p.wakes).enterBist

/-- PLL_LOCK (R69, R78). -/
def Part.pllLock (p : Part) (sealOk : Bool) (monUv : List Nat) : Part :=
  match p.dev with
  | .wakeCold => p.coldLock
  | .wakeResume =>
    match p.parkCtx with
    | some c => if p.ctxValid c sealOk then p.resume c monUv else p.coldLock
    | none => p.coldLock
  | _ => p

/-! The background reload (R111, R112). -/

/-- The slice for a rail whose configuration a reload has applied: that of its number where it is free, else the lowest
free one (assumption log 18). -/
def Part.sliceFor (p : Part) (n : Nat) : Option Nat :=
  let free := fun s => p.sst s == .open_ && !p.flag SLICE_STATE.ASSIGNED s && !p.flag SLICE_STATE.RESERVED s &&
    (match p.eng.cur with | some x => x.inc != s | none => true)
  if free n then some n else (List.range 9).find? free

/-- The registers after a reload: `held` keeps its value, every other configuration field takes the image's. -/
def Part.mergeImage (p q : Part) (held : Nat → Bool) : Part :=
  let kept := p.regs.keep fun k => !configKey k || held (k / 32)
  { p with regs := q.regs.foldl (fun r c => if configKey c.1 && !held (c.1 / 32) then r.write c.1 c.2 else r) kept }

/-- A rail that was not parked, after its configuration has been applied (R111, R159, R307). -/
def Part.reloadRail (p q : Part) (x : StartInputs) (n : Nat) : Part :=
  let p := p.modRail n fun r => { r with
    enPin := bitOf x.enPins n == 1, ctlPin := x.control, reloadHeld := p.flag SYS_STATE.RELOAD_FAIL }
  let p := p.set RAIL_ENGINE.TIMING (p.get RAIL_ENGINE.TMODE_INIT n) n
  if !p.railEn n then p.showCap n
  else
    let p := match p.sliceFor n with
      | some s => (p.lawLoad s (q.lawCopy n)).assign n s
      | none => p
    ((p.calRail x n).startPhases n).startRail n

/-- The read has completed with the accepted slot of the context (R111, R159). DESIGN CHOICE (assumption log 46): CAL_DONE
reads 0 in a resume until here, and for good after a failed reload; the spec names no value. After a reload that has failed
once the rails that were not parked stay ineligible until a reset (R112). -/
def Part.reloaded (p q : Part) (x : StartInputs) (f : Flash) (i : ImageInfo) : Part :=
  let rails := (List.range 8).filter fun n => !(p.rail n).reloadHeld
  let busy := (List.range 9).filter fun s => p.flag SLICE_STATE.ASSIGNED s ||
    (match p.eng.cur with | some e => e.inc == s | none => false)
  let others := (List.range 8).filter fun n => (p.rail n).reloadHeld
  let wasHeld := fun m => p.flag MON_CFG.PARK_MODE m || rails.any fun n => p.get RAIL_PBMON.PB_MON n == m
  let r := (p.mergeImage q (p.heldReg rails busy)).showSfdp f |>.showImage i
  let r := (r.set SYS_STATE.RELOAD_BUSY 0).set SENSE_CALSTAT.CAL_BUSY 0
  let r := (r.set SENSE_CALSTAT.CAL_DONE 1).modEng fun e => { e with rotNext := p.tb + r.get ENG_ROT.ROT_INT * tickMs }
  let r : Part := { r with load := { r.load with reload := false } }
  let r := (r.voidReadback fun m => !wasHeld m).forL others fun n z => z.reloadRail q x n
  let r := r.forN 24 fun m z => if wasHeld m then z else z.monBegin m (nth x.monUv m 0)
  r.thrUpdate.forN 8 fun n z => z.reqChanged n

/-- The reload fails (R112); RELOAD_BUSY reads 1 until a read completes with the accepted slot (R111). -/
def Part.reloadFail (p : Part) : Part :=
  let p := (p.set SENSE_CALSTAT.CAL_BUSY 0).set SYS_STATE.RELOAD_FAIL 1
  { p with load := { p.load with reload := false } }.record 0x06 5 .d none none

/-- RELOAD_DONE (R111, R112). -/
def Part.reloadDone (p : Part) (o : Otp) (f : Flash) (x : StartInputs) : Part :=
  match p.load.image with
  | some c =>
    if !(p.hostActive && p.load.reload) then p
    else
      let b := c.slot == 1
      let bytes := if b then f.slotB else f.slotA
      let p := { p with load := { p.load with reads := discovery f ++ [imageRead f (slotAddr b) (readLen bytes)] } }
      let scratch : Part := { regs := p.regs.keep strapKey, free := p.free }
      match scratch.judgeSlot o bytes with
      | .accepted q =>
        let i := infoOf bytes c.slot
        if i.seq = c.seq ∧ i.tag = c.tag then p.reloaded q x f i else p.reloadFail
      | .fails _ => p.reloadFail
  | none => p

/-! Meanings. -/

/-- PARK (R105). -/
def execPark (key : Nat) (s : State) : Host.Outcome State Fault Refusal :=
  .next { s with part := s.part.byHost fun p => p.park key }

/-- PARK_ENTRY (R106). -/
def execParkEntry (s : State) : Host.Outcome State Fault Refusal := .next { s with part := s.part.parkEntry }

/-- PARK_TIMEOUT (R108). -/
def execParkTimeout (s : State) : Host.Outcome State Fault Refusal := .next { s with part := s.part.parkTimeout }

/-- WAKE_REQUEST (R110). -/
def execWakeRequest (sources : List WakeSource) (straps : Straps) (s : State) : Host.Outcome State Fault Refusal :=
  .next { s with part := s.part.wakeRequest sources straps }

/-- WAKE_TIMER (R110). -/
def execWakeTimer (straps : Straps) (s : State) : Host.Outcome State Fault Refusal :=
  .next { s with part := s.part.wakeTimer straps }

/-- SCL_HOLD_RELEASE (R29). -/
def execSclHoldRelease (s : State) : Host.Outcome State Fault Refusal := .next { s with part := s.part.sclRelease }

/-- PLL_LOCK (R69). -/
def execPllLock (sealOk : Bool) (monUv : List Nat) (s : State) : Host.Outcome State Fault Refusal :=
  .next { s with part := s.part.pllLock sealOk monUv }

/-- RELOAD_DONE (R111). -/
def execReloadDone (flash : Flash) (inputs : StartInputs) (s : State) : Host.Outcome State Fault Refusal :=
  .next { s with part := s.part.reloadDone s.otp flash inputs }

end Sys2Proof.Machine
end

