-- ==== Sys2Proof/Machine/Readback.lean ====
section
/-!
DEFINITION. The end of a housekeeping conversion (R475, R478, R489) and the verdict of a threshold DAC readback (R507 to
R509), with the meaning of CONVERSION_DONE.
-/

namespace Sys2Proof.Machine

open Reg

/-- A failed readback of a DAC (R509). -/
def Part.readbackFail (p : Part) (d : Nat) : Part :=
  let m := d / 2
  let p := (p.set (if d % 2 = 0 then MON_STAT.RB_ERR_L else MON_STAT.RB_ERR_U) 1 m).event MON_STAT.DACERR_EV
    MON_EVCNT.DACERR_CNT m
  let p := p.record 0x08 1 .d none (some d)
  match p.get MON_CFG.DACERR_ACT m with
  | 1 => ((p.monTo m (p.get MON_CFG.SAFE_STATE m)).set MON_STAT.FORCED 1 m).set MON_STAT.START_HOLD 0 m
  | 2 => p.safeReaction 2
  | _ => p

/-- A readback completes with its verdict (R507 to R509). -/
def Part.readbackEnd (p : Part) (r : Readback) (sum : Nat) : Part :=
  let d := r.dac
  let m := d / 2
  let code := if d % 2 = 0 then p.get MON_THR.LOWER m else p.get MON_THR.UPPER m
  let p := p.modHk fun h => { h with rb := none }
  let p := p.set (if d % 2 = 0 then MON_RB.RB_LOWER else MON_RB.RB_UPPER) (roundDiv sum 4).toNat m
  let p := p.set MON_RBCFG.RB_NEXT ((d + 1) % 48)
  let p := p.when (d == 47) fun q => q.cycleEnd 3
  if 256 * orDefault (p.get MON_RBCFG.RB_TOL) 1 < ((sum : Int) - (256 * code : Nat)).natAbs then p.readbackFail d else p

/-- A readback conversion ends (R479). -/
def Part.readbackConv (p : Part) (c raw : Nat) : Part :=
  match p.hk.rb with
  | some r =>
    if r.count = 3 then (p.setJob c none).readbackEnd r (r.sum + raw)
    else (p.modHk fun h => { h with rb := some { r with sum := r.sum + raw, count := r.count + 1 } }).setJob c
      (some .readback)
  | none => p.setJob c none

/-! Conversions. -/

/-- CONVERSION_DONE (R475, R478, R489). -/
def Part.conversionDone (p : Part) (c : Nat) (x : HkInputs) : Part :=
  if !p.hostActive then p
  else
    let stamp := stampOf (p.began c + 312)
    let q := p.advance (p.began c + 1250)
    match p.job c with
    | some (.seq s e) =>
      let raw := q.rawCode x (q.entryCh s e) (q.entryDac s e)
      (((q.seqResult s e c (q.entryCh s e) (some raw) stamp).seqAdvance s).setJob c none).hkKick
    | some (.inj slot) =>
      match nth q.hk.store slot none with
      | some r => (((q.injResult slot c r.ch (some (q.rawCode x r.ch r.dac)) stamp).setJob c none).boundary c).hkKick
      | none => ((q.setJob c none).boundary c).hkKick
    | some .readback =>
      let dac := (q.hk.rb.map Readback.dac).getD 0
      ((q.readbackConv c (q.rawCode x 59 dac)).boundary c).hkKick
    | some .capture | none => p

/-- CONVERSION_DONE (R478). -/
def execConversionDone (conv : HkConv) (inputs : HkInputs) (s : State) : Host.Outcome State Fault Refusal :=
  .next { s with part := s.part.conversionDone (convIx conv) inputs }

end Sys2Proof.Machine
end

