-- ==== Sys2Proof/Machine/HostRegs.lean ====
section
/-!
DEFINITION. Reading and writing the registers (R5, R7, R686, R761, R790, R791, R796), with the meanings of REGISTER_WRITE,
SAFE, SWRESET, ROLLBACK_COMMIT and KEY_REVOKE_REQ.
-/

namespace Sys2Proof.Machine

open Reg

/-! Reading. -/

/-- The numbers of a list as a mask. -/
def maskOf (l : List Nat) : Nat := sumN (l.map fun k => 2 ^ k)

/-- The fields that show what the part holds elsewhere, each with its value for its first instance number. -/
def Part.liveFields (p : Part) (o : Otp) : List (Fld × (Nat → Nat)) :=
  [ (SYS_ID.REV, fun _ => Config.siliconRev),
    (SYS_STATE.STATE, fun _ => devCode p.dev),
    (SYS_ROLLBACK.OTP_COUNT, fun _ => o.count),
    (SYS_ROLLBACK.KEY0_REVOKED, fun _ => b2n o.revoked0),
    (SYS_ROLLBACK.KEY1_REVOKED, fun _ => b2n o.revoked1),
    (PWR_STATUS.VAON_OK, fun _ => b2n p.supplies.vaonWarn),
    (PWR_STATUS.VDD33_OK, fun _ => b2n p.supplies.vdd33),
    (PWR_STATUS.VDDA18_OK, fun _ => b2n p.supplies.vdda18),
    (PWR_STATUS.VDD08_OK, fun _ => b2n p.supplies.vdd08),
    (ENG_SPARES.SPARE, fun _ => if p.hostActive then maskOf p.spares else 0),
    (ENG_SPARES.FAILED, fun _ => maskOf ((List.range 9).filter fun s => p.sst s == .failed)),
    (ENG_SPARES.SPARE_CNT, fun _ => if p.hostActive then p.spares.length else 0),
    (ENG_ROT.NEXT_SLICE, fun _ => p.nextTest.getD 0),
    (RA_BETA.BETA, fun n => ofS 16 (p.betaShown n)),
    (PH_STAT.T_INVALID, fun q => b2n (p.phaseSensor q).isNone),
    (PH_TEMP.T_PH, fun q => match p.phaseSensor q with | some s => p.get TS_READ.TEMP s | none => 0),
    (FAB_STAT.N_ACT, fun n => (p.active n).length),
    (FAB_STAT.N_AVAIL, fun n => (p.avail n).length),
    (FAB_STAT.REEF_BAD, fun n => b2n (p.reefBad n)),
    (FAB_STAT.SHED_BLOCK, fun n => b2n (p.get RA_STAT.INTENT n != 0)),
    (HK_STAT.BUSY_A, fun _ => b2n (p.job 0).isSome),
    (HK_STAT.BUSY_B, fun _ => b2n (p.job 1).isSome),
    (HK_STAT.CAL_BUSY, fun _ => b2n p.hk.cal.isSome),
    (HK_STAT.QLEVEL, fun _ => p.hk.queue.length),
    (HK_STAT.INJ_PEND, fun _ => (p.hk.store.filter Option.isSome).length),
    (THERM_STAT.BROKEN, fun _ => maskOf ((List.range 20).filter p.tsBroken)),
    (THERM_STAT.NOSENS, fun _ => maskOf ((List.range 8).filter p.nosens)),
    (AVS_STAT.HOLD_N, fun x => (nth p.avs.holds x []).length),
    (NVM_STAT.BUSY, fun _ => b2n p.nvm.op.isSome),
    (NVM_STAT.QREC, fun _ => p.nvm.recs.length + b2n p.nvm.hot.isSome),
    (NVM_STAT.QLOG, fun _ => p.nvm.logs.length),
    (PAIR_STAT.OWNER, fun _ => b2n p.owner) ]

/-- What a read of a field returns (R5). -/
def Part.fieldRead (p : Part) (o : Otp) (f : FieldDef) (i j : Nat) : Nat :=
  if f.kind == .wo then 0
  else
    match (p.liveFields o).find? fun x => x.1 == f.fld with
    | some x => x.2 i % 2 ^ f.fld.width
    | none => p.get f.fld i j

/-- The word of a register; reserved bits read 0 (R7). -/
def Part.regWord (p : Part) (o : Otp) (d : RegDef) (i j : Nat) : Nat :=
  sumN (d.fields.map fun f => p.fieldRead o f i j * 2 ^ f.lsb)

/-- What a read of an address does (R492, R669). -/
def Part.readEffect (p : Part) (addr : Nat) : Part :=
  if addr = 0x70020 then p.qloRead else if addr = 0xB0020 then p.tbloRead else p

/-- What a read of an address does after its word is taken (R492). -/
def Part.readAfter (p : Part) (addr : Nat) : Part := if addr = 0x70024 then p.qhiRead else p

/-- A read of an address: the part after it and the word; 0 where the address names no register (R761). -/
def Part.regRead (p : Part) (o : Otp) (addr : Nat) : Part × Nat :=
  match findReg registerMap addr with
  | some (d, i, j) => let q := p.readEffect addr; (q.readAfter addr, q.regWord o d i j)
  | none => (p, 0)

/-! Writing by field types. -/

/-- The owner of the RWL fields of the register at an address lets them be written (R196, R486, R791). -/
def Part.ownerOpen (p : Part) (addr : Nat) : Bool :=
  if addr < 0x10000 then false
  else if addr < 0x12000 then p.rst ((addr - 0x10000) / 0x400) == .off
  else if addr < 0x20000 then false
  else if addr < 0x22400 then p.sst ((addr - 0x20000) / 0x400) == .open_
  else if addr < 0x41000 then false
  else if addr < 0x41400 then p.rst ((addr - 0x41000) / 0x80) == .off
  else if addr < 0x70100 then false
  else if addr < 0x70300 then
    let s := (addr - 0x70100) / 0x40
    !p.flag SEQ_CFG.EN s && !p.flag SEQ_STAT.RUNNING s && !p.flag SEQ_STAT.PENDING s
  else false

/-- Whether a field takes a new value at run time (R5, R790). -/
def Part.takes (p : Part) (addr : Nat) (k : AccessKind) : Bool := k == .rw || (k == .rwl && p.ownerOpen addr)

/-- Whether a field is closed to a new value and counts as refused (R790). -/
def Part.closed (p : Part) (addr : Nat) (k : AccessKind) : Bool := k == .img || (k == .rwl && !p.ownerOpen addr)

/-- The value that a word carries into a field. -/
def FieldDef.of (f : FieldDef) (v : Nat) : Nat := bitsOf v f.lsb f.fld.width

/-- Write a field. -/
def Part.setField (p : Part) (f : FieldDef) (i j v : Nat) : Part := p.set f.fld (f.of v) i j

/-- Clear the bits of a W1C field that a word names (R5). -/
def Part.clearField (p : Part) (f : FieldDef) (i j v : Nat) : Part :=
  p.set f.fld (Nat.land (p.get f.fld i j) (2 ^ f.fld.width - 1 - f.of v)) i j

/-- Write the fields of a register that take a value: all of them together, or, where that would break a configuration
rule, one after another as long as the rules hold. The second part says that a rule refused one. -/
def Part.setFields (p : Part) (addr i j v : Nat) (l : List FieldDef) : Part × Bool :=
  let all := l.foldl (fun q f => q.setField f i j v) p
  if all.regOk p addr then (all, false)
  else l.foldl (fun x f => let q := x.1.setField f i j v; if q.regOk p addr then (q, x.2) else (x.1, true)) (p, false)

/-- A write acts on each field by its type (R790); the second part says that a field was refused. -/
def Part.writeFields (p : Part) (d : RegDef) (addr i j v : Nat) : Part × Bool :=
  let differs := fun (f : FieldDef) => f.of v != p.get f.fld i j
  let shut := d.fields.any fun f => p.closed addr f.kind && differs f
  let q := (d.fields.filter fun f => f.kind == .w1c).foldl (fun q f => q.clearField f i j v) p
  let r := q.setFields addr i j v (d.fields.filter fun f => p.takes addr f.kind && differs f)
  (r.1, r.2 || shut)

/-! What a write of a register leads to. -/

/-- A change of what the on request or the commanded voltage of a rail rests on (R357, R362). -/
def Part.cmdChanged (p : Part) (n : Nat) : Part := (p.showCmd n).reqChanged n

/-- The run-ahead of a rail after a write of its RA registers (R260, R277). -/
def Part.raWritten (p : Part) (n : Nat) : Part := (p.squash n .other).showDEff n

/-- The reef dwells of a rail restart (R316, meetings of 07_phase_fabric). -/
def Part.reefWritten (p : Part) (n : Nat) : Part := p.modRail n fun r => { r with addRun := [], shedDwellSt := none }

/-- The detection counts of a rail's phases restart (meetings of 07_phase_fabric). -/
def Part.detWritten (p : Part) (n : Nat) : Part :=
  p.forL (p.range n) fun q x => x.modPh q fun h => { h with openCnt := 0, oorCnt := 0, ripCnt := 0, incCnt := 0 }

/-- The load line of a rail after a write of RAILn_LL (R370, R387). -/
def Part.llWritten (p old : Part) (n : Nat) : Part :=
  let same := p.get RAIL_LL.R_LL n == old.get RAIL_LL.R_LL n && p.get RAIL_LL.LL_POLE n == old.get RAIL_LL.LL_POLE n
  (p.squash n .other).when (p.rst n == .burst && !same) fun q => q.modRail n fun r => { r with pendBurst := true }

/-- A write of BURST_EN = 0 takes a rail out of BURST at the next update instant (R387). -/
def Part.burstWritten (p : Part) (n : Nat) : Part :=
  if p.rst n == .burst && !p.flag RAIL_BURST.BURST_EN n then p.modRail n fun r => { r with pendBurst := true } else p

/-- A write of a limit of a rail restarts its counts of OV_N, UV_N, SC_N and TRACK_T (R455); OC_FAULT_EFF follows
OC_FAULT (R433, R467). -/
def Part.limitsWritten (p : Part) (n ofs : Nat) : Part :=
  if ofs ≠ 0x00 ∧ ofs ≠ 0x04 ∧ ofs ≠ 0x08 ∧ ofs ≠ 0x18 then p
  else
    let p := (p.modRail n fun r => { r with ovRun := 0, uvRun := 0, trkSinceSt := none }).set PR_STAT.TRK_RUN 0 n
    (p.forL (p.range n) fun q x => x.modPh q fun h => { h with scCnt := 0 }).showCap n

/-- What follows a write of the register at an address; `old` is the part before it. -/
def Part.written (p old : Part) (addr : Nat) : Part :=
  if addr < 0x10000 then p
  else if addr < 0x12000 then
    let n := (addr - 0x10000) / 0x400
    match addr % 0x400 with
    | 0x004 | 0x008 | 0x00C => p.cmdChanged n
    | 0x028 => p.llWritten old n
    | 0x038 => p.burstWritten n
    | 0x048 => p.thrUpdate
    | _ => p
  else if addr < 0x30000 then p
  else if addr < 0x30800 then
    let o := addr % 0x100
    if o < 0x20 ∨ 0x40 ≤ o then p.raWritten ((addr - 0x30000) / 0x100) else p
  else if addr < 0x41000 then p
  else if addr < 0x41400 then
    let n := (addr - 0x41000) / 0x80
    let o := addr % 0x80
    if o = 0 then p.showDEff n else if 0x10 ≤ o ∧ o < 0x30 then p.reefWritten n else if o = 0x34 ∨ o = 0x38 then p.detWritten n else p
  else if addr < 0x60000 then p
  else if addr < 0x60800 then p.limitsWritten ((addr - 0x60000) / 0x100) (addr % 0x100)
  else if addr < 0x70100 then p
  else if addr < 0x70300 then
    let s := (addr - 0x70100) / 0x40
    if addr % 0x40 = 0 ∧ old.flag SEQ_CFG.EN s ∧ !p.flag SEQ_CFG.EN s then p.seqDisable s else p
  else if 0x90000 ≤ addr ∧ addr < 0x90280 ∧ addr % 0x20 = 0x0C then
    let s := (addr - 0x90000) / 0x20
    (p.levelClear s .warn).levelClear s .throttle
  else p

/-- A write of a register that has no behaviour of its own: refused where the address names none (R761), counted once where
a field is refused (R790); a write that changes nothing but its refusal leads to nothing else. -/
def Part.plainWrite (p : Part) (src : HostSrc) (addr v : Nat) : Part :=
  match findReg registerMap addr with
  | some (d, i, j) =>
    let r := p.writeFields d addr i j v
    let q := if r.2 && r.1.regs == p.regs then p else r.1.written p addr
    if r.2 then q.refuse src addr else q
  | none => p.refuse src addr

/-! Registers with behaviour of their own. -/

/-- The address of SYS_ROLLBACK (R121). -/
def addrRollback : Nat := 0x1C

/-- The SAFE command (R69, R103). -/
def Part.safeCmd (p : Part) : Part := if p.live then p.enterSafe 1 else p

/-- The actions of a keyed write of SYS_CTRL (R118): the rollback commit, and of the transitions that the write calls for
the one that R69 lists first: the reset, then PARK, then SAFE (R8). -/
def State.ctrlActions (s : State) (src : HostSrc) (rollback park safe swreset : Bool) : State :=
  let p := s.part
  let a := if rollback then p.rollbackTry s.otp else some p
  let p1 := a.getD p
  let b := if park then p1.parkTry else some p1
  let p2 := b.getD p1
  let p3 := p2.when (safe && !(park && b.isSome)) Part.safeCmd
  let p4 := if a.isNone || b.isNone then p3.refuse src addrCtrl else p3
  if swreset then { s with part := if a.isNone then p1.refuse src addrCtrl else p1 }.resetBy 4 else { s with part := p4 }

/-- A write of CALc_BIND (R511, R512, R526): the fields that keep the rule of R511 are taken (R790). -/
def Part.bindWrite (p : Part) (src : HostSrc) (c v : Nat) : Part :=
  let addr := 0x70400 + c * 16
  if p.setBusy c then p.refuse src addr else p.plainWrite src addr v

/-- A write of SYS_CTRL (R118). -/
def State.ctrlWrite (s : State) (src : HostSrc) (v : Nat) : State :=
  if bitsOf v 0 8 = 0xA5 then s.ctrlActions src (bitOf v 11 == 1) (bitOf v 8 == 1) (bitOf v 9 == 1) (bitOf v 10 == 1)
  else { s with part := s.part.refuse src addrCtrl }

/-- The requests to revoke image keys with their key byte (R102, R121). DESIGN CHOICE (assumption log 45): a request without
the key byte is refused and counted; R121 says only that the key byte enables it. -/
def Part.revokeReq (p : Part) (src : HostSrc) (key0 key1 : Bool) (key : Nat) : Part :=
  if !(key0 || key1) then p
  else if key ≠ 0xA5 then p.refuse src addrRollback
  else
    let r := p.revokeTry key0 key1
    if r.2 then r.1.refuse src addrRollback else r.1

/-- A write of HAL_OPREQ (R670). -/
def State.opreqWrite (s : State) (v : Nat) : State :=
  let key := bitsOf v 0 8
  let id := bitsOf v 12 16
  let p := s.part
  match bitsOf v 8 3 with
  | 1 => { s with part := p.barArrive key id }
  | 2 => { s with part := p.barLaunch key id }
  | 3 => { s with part := p.snapSchedule key id }
  | 4 => { s with part := p.snapshotCollect key id }
  | 5 => s.resetAll key id
  | 6 => { s with part := p.resetNode key id }
  | op => { s with part := p.opReq key op fun q => q.opRefuse op 2 }

/-- A write of a register that stands in the part alone. -/
def Part.regWrite (p : Part) (src : HostSrc) (addr v : Nat) : Part :=
  if addr = addrRollback then p.revokeReq src (bitOf v 16 == 1) (bitOf v 17 == 1) (bitsOf v 24 8)
  else if addr = addrXreq then p.xreqWrite v
  else if 0x20000 ≤ addr ∧ addr < 0x22400 ∧ addr % 0x400 = 0x48 then
    p.load16 src ((addr - 0x20000) / 0x400) (bitsOf v 0 16) (bitsOf v 16 4)
  else if addr = 0x70010 then p.softTrigger v
  else if addr = 0x70014 then p.inject src v
  else if addr = 0x70018 then p.calCmd src v
  else if 0x70100 ≤ addr ∧ addr < 0x70300 ∧ addr % 0x40 = 0x10 then p.tbhiWrite ((addr - 0x70100) / 0x40) v
  else if 0x70400 ≤ addr ∧ addr < 0x70500 ∧ addr % 0x10 = 0 then p.bindWrite src ((addr - 0x70400) / 0x10) v
  else if 0x70400 ≤ addr ∧ addr < 0x70500 ∧ addr % 0x10 < 0xC ∧ p.setBusy ((addr - 0x70400) / 0x10) then p.refuse src addr
  else if addr = addrDbg then p.dbgWrite src v
  else if 0xA0120 ≤ addr ∧ addr < 0xA0130 ∧ addr % 4 = 0 then p.set DBG_RESP.RESP v 0 ((addr - 0xA0120) / 4)
  else p.plainWrite src addr v

/-- A write of a register (R5, R118, R670, R686). -/
def State.regWrite (s : State) (src : HostSrc) (addr v : Nat) : State :=
  if addr = addrCtrl then s.ctrlWrite src v
  else if addr = addrOpreq then s.opreqWrite v
  else { s with part := s.part.regWrite src addr v }

/-! Which addresses a port reaches. -/

/-- Whether the PMBus window admits an address (R704): a multiple of 4 inside a block, outside the TEST block. -/
def windowOk (addr : Nat) : Bool := decide (addr % 4 = 0) && decide (addr < 0xF0000)

/-- Whether REGACC reaches an address (R588). -/
def Part.jtagReach (p : Part) (addr : Nat) : Bool := p.dev == .test || (decide (0xA0100 ≤ addr) && decide (addr ≤ 0xA012C))

/-- A write of REGACC (R588). -/
def State.jtagWrite (s : State) (addr v : Nat) : State := if s.part.jtagReach addr then s.regWrite .jtag addr v else s

/-- A write that reaches the registers from the PMBus window (R687, R704). -/
def State.hostWrite (s : State) (addr v : Nat) : State :=
  if s.part.pmbActive && windowOk addr then s.regWrite .pmbus addr v else s

/-! Meanings. -/

/-- CAL_BIND_WRITE (R526). -/
def execCalBindWrite (set : Fin 16) (value : Nat) (s : State) : Host.Outcome State Fault Refusal :=
  .next { s with part := s.part.byHost fun p => p.bindWrite .pmbus set value }

/-- REGISTER_WRITE (R790): through the PMBus window or through REGACC. -/
def execRegisterWrite (src : HostSrc) (addr value : Nat) (s : State) : Host.Outcome State Fault Refusal :=
  match src with
  | .pmbus => .next (s.hostWrite addr value)
  | .jtag => .next (s.jtagWrite addr value)

/-- A keyed command of SYS_CTRL (R118). -/
def State.ctrlCmd (s : State) (key : Nat) (rollback safe swreset : Bool) : State :=
  if !s.part.pmbActive then s
  else if key = 0xA5 then s.ctrlActions .pmbus rollback false safe swreset
  else { s with part := s.part.refuse .pmbus addrCtrl }

/-- SAFE (R103). -/
def execSafe (key : Nat) (s : State) : Host.Outcome State Fault Refusal := .next (s.ctrlCmd key false true false)

/-- SWRESET (R69). -/
def execSwreset (key : Nat) (s : State) : Host.Outcome State Fault Refusal := .next (s.ctrlCmd key false false true)

/-- ROLLBACK_COMMIT (R101). -/
def execRollbackCommit (key : Nat) (s : State) : Host.Outcome State Fault Refusal :=
  .next (s.ctrlCmd key true false false)

/-- KEY_REVOKE_REQ (R102). -/
def execKeyRevokeReq (key0 key1 : Bool) (key : Nat) (s : State) : Host.Outcome State Fault Refusal :=
  .next { s with part := s.part.byHost fun p => p.revokeReq .pmbus key0 key1 key }

end Sys2Proof.Machine
end

