-- ==== Sys2Proof/Machine/Pmbus.lean ====
section
/-!
DEFINITION. The PMBus port (R687 to R710), with the meanings of every PMBus command. A command acts in READY, RUN and SAFE
with an address (R41, R42, R687); its answer stands in the port's reply. A START is a wake source to a park entry (R107).
-/

namespace Sys2Proof.Machine

open Reg

/-! Transactions. -/

/-- A START and the address byte of a transaction: whether the part acknowledges it (R29, R42, R107, R687). The transaction
whose START held SCL until the 100 µs ended is not acknowledged (R29). -/
def Part.busStart (p : Part) : Part × Bool :=
  let p := p.abortPark
  if p.pmbNack then ({ p with pmbNack := false }, false) else (p, p.pmbActive)

/-- The part's own 7-bit address (R41). -/
def Part.pmbAddr (p : Part) : Nat := 0x40 + p.get SYS_STATE.ADDR_CODE

/-- Answer a transaction. -/
def Part.answer (p : Part) (ack : Bool) (data : List Byte := []) : Part :=
  p.modPmb fun x => { x with reply := { ack := ack, data := data } }

/-- Bit 6 of STATUS_CML and BADDATA_EV (R690). -/
def Part.badEvent (p : Part) : Part := (p.latchCml 6).event HOST_PMBSTAT.BADDATA_EV HOST_PMBEVCNT.BADDATA_CNT

/-- What HOST_REFADDR holds of a refused command (R690). -/
def pmbRef (code : Nat) : Nat := 0xFFFFFF00 + code

/-- A refused command (R686, R690). -/
def Part.badData (p : Part) (code : Nat) : Part := p.badEvent.refuse .pmbus (pmbRef code)

/-- A write of a command: its data bytes, what it does, and whether the command is accepted. -/
abbrev PmbWrite := List Byte → State → State × Bool

/-- Whether a write transaction is discarded for its PEC (R688). -/
def Part.pecDiscards (p : Part) : Pec → Bool
  | .bad => true
  | .none => p.flag HOST_PMBCFG.PEC_REQ
  | .good => false

/-- A write at its STOP (R688, R690): `len` data bytes. -/
def State.pmbWrite (s : State) (code len : Nat) (f : Option PmbWrite) (data : List Byte) (pec : Pec) : State :=
  let p := s.part.answer true
  if p.pecDiscards pec then
    { s with part := (p.latchCml 5).event HOST_PMBSTAT.PEC_EV HOST_PMBEVCNT.PEC_CNT }
  else
    match f with
    | some f =>
      if data.length ≠ len then { s with part := p.badData code }
      else
        let r := f data { s with part := p }
        if r.2 then r.1 else { r.1 with part := r.1.part.badData code }
    | none => { s with part := p.badData code }

/-- The bytes of a read with the PEC byte that the master clocks (R688). -/
def Part.withPec (p : Part) (code : Nat) (data : List Byte) : Pec → List Byte
  | .none => data
  | _ =>
    let a := p.pmbAddr * 2
    data ++ [BitVec.ofNat 8 (smbusPec ([BitVec.ofNat 8 a, BitVec.ofNat 8 code, BitVec.ofNat 8 (a + 1)] ++ data))]

/-- A read, made when its address byte is acknowledged (R690, R704). -/
def State.pmbRead (s : State) (code : Nat) (f : Option (State → State × List Byte)) (pec : Pec) : State :=
  match f with
  | some f => let r := f s; { r.1 with part := r.1.part.answer true (s.part.withPec code r.2 pec) }
  | none => { s with part := (s.part.answer true).badData code }

/-- A transaction of a supported command. -/
def State.pmbus (s : State) (code len : Nat) (rd : Option (State → State × List Byte)) (wr : Option PmbWrite) (tx : PmbTx) :
    State :=
  let b := s.part.busStart
  let s := { s with part := b.1 }
  if !b.2 then { s with part := s.part.answer false }
  else
    match tx with
    | .read pec => s.pmbRead code rd pec
    | .write data pec => s.pmbWrite code len wr data pec

/-- A read that changes nothing: `n` bytes of a value of the part. -/
def pmbGet (n : Nat) (f : Part → Nat) : Option (State → State × List Byte) := some fun s => (s, leBytes n (f s.part))

/-- A read that may change the part. -/
def pmbGetP (n : Nat) (f : Part → Part × Nat) : Option (State → State × List Byte) :=
  some fun s => let r := f s.part; ({ s with part := r.1 }, leBytes n r.2)

/-- A write that acts on the part alone. -/
def pmbSet (f : Nat → Part → Part × Bool) : Option PmbWrite :=
  some fun data s => let r := f (ofLe data) s.part; ({ s with part := r.1 }, r.2)

/-! Pages (R691, R692). -/

/-- The rails that a paged write acts on (R691). -/
def Part.pages (p : Part) : List Nat :=
  if p.get HOST_PMBSTAT.PAGE = 0xFF then List.range 8 else [p.get HOST_PMBSTAT.PAGE]

/-- The rail that a paged read shows (R691). -/
def Part.pageRail (p : Part) : Nat :=
  if p.get HOST_PMBSTAT.PAGE = 0xFF then ((List.range 8).find? p.railEn).getD 0 else p.get HOST_PMBSTAT.PAGE

/-- Each paged rail applies or refuses the write on its own (R691). -/
def Part.onPages (p : Part) (f : Nat → Part → Option Part) : Part × Bool :=
  p.pages.foldl (fun x n => match f n x.1 with | some q => (q, x.2) | none => (x.1, false)) (p, true)

/-- Write some RW fields of the register of a rail: none where a value does not fit or a rule of the configuration check
refuses it (R693). -/
def Part.fieldsTry (p : Part) (addr : Nat) (l : List (Fld × Nat)) (n : Nat) : Option Part :=
  let q := l.foldl (fun q x => q.set x.1 x.2 n) p
  if (l.all fun x => decide (x.2 < 2 ^ x.1.width)) && (q.regOk p addr || q.regs == p.regs) then some (q.written p addr) else none

/-- A paged read of a value. -/
def pmbPaged (n : Nat) (f : Part → Nat → Nat) : Option (State → State × List Byte) := pmbGet n fun p => f p p.pageRail

/-! Formats (R694, R695). -/

/-- The mantissa of a LINEAR11 word. -/
def lin11Y (w : Nat) : Int := toS 11 (w % 2048)

/-- A LINEAR11 word times a scale, rounded (R694). -/
def lin11Scaled (w scale : Nat) : Int := roundDiv (lin11Y w * ((scale * 2 ^ ((toS 5 (w / 2048 % 32) + 16).toNat) : Nat) : Int)) 65536

/-- The LINEAR11 word of a value: the smallest exponent whose rounded mantissa fits (R695); beyond them all the mantissa
saturates (R4). -/
def lin11 (v : Rat) : Nat :=
  let y := fun (m : Nat) => roundDiv (v.num * (2 ^ (31 - m) : Nat)) (v.den * 32768)
  let m := ((List.range 32).find? fun m => decide (-1024 ≤ y m) && decide (y m ≤ 1023)).getD 31
  ofS 5 ((m : Int) - 16) * 2048 + ofS 11 (satS 11 (y m))

/-! Set-point, limits and times. -/

/-- The base address of the registers of a rail (R400). -/
def railBase (n : Nat) : Nat := 0x10000 + n * 0x400

/-- The base address of the protection registers of a rail (R456). -/
def protBase (n : Nat) : Nat := 0x60000 + n * 0x100

/-- A voltage command: one 16-bit field of a rail's register (R363). -/
def voutWrite (ofs : Nat) (f : Fld) : Option PmbWrite :=
  pmbSet fun v p => p.onPages fun n q => q.fieldsTry (railBase n + ofs) [(f, v)] n

/-- A time command: LINEAR11 in ms, clamped to the range of its register (R404, R694). -/
def timeWrite (ofs lo hi : Nat) (f : Fld) : Option PmbWrite :=
  pmbSet fun v p =>
    if lin11Y v < 0 then (p, false)
    else p.onPages fun n q => q.fieldsTry (railBase n + ofs) [(f, (clampI lo hi (lin11Scaled v 1000)).toNat)] n

/-- The reading of a time command. -/
def timeRead (f : Fld) : Option (State → State × List Byte) := pmbPaged 2 fun p n => lin11 ((p.get f n : Rat) / 1000)

/-- A write of OPERATION (R696). -/
def Part.operationWrite (p : Part) (v : Nat) : Part × Bool :=
  if bitsOf v 4 2 = 3 then (p, false)
  else p.onPages fun n q =>
    q.fieldsTry (railBase n + 4) [(RAIL_ONOFF.OP_ON, bitOf v 7), (RAIL_ONOFF.MARGIN, bitsOf v 4 2)] n

/-- The reading of OPERATION (R696): MARGIN 3 reads as it is held. -/
def Part.operationRead (p : Part) (n : Nat) : Nat :=
  p.get RAIL_ONOFF.OP_ON n * 128 + p.get RAIL_ONOFF.MARGIN n * 16 + 8

/-- A write of IOUT_OC_FAULT_LIMIT (R456, R694). -/
def Part.ocWrite (p : Part) (v : Nat) : Part × Bool :=
  if lin11Y v < 0 then (p, false)
  else p.onPages fun n q => q.fieldsTry (protBase n) [(PR_OCLIM.OC_FAULT, (lin11Scaled v 2).toNat)] n

/-! Temperatures (R699). -/

/-- The remote sensors of a rail with MODE not 0. -/
def Part.remotesOf (p : Part) (n : Nat) : List Nat := (p.sensorsOf n).filter (· < 16)

/-- The lowest threshold of a level among some sensors, °C. -/
def Part.lowestThr (p : Part) (l : List Nat) (level : ThermLevel) : Nat := minN (l.map fun s => p.tsThr s level)

/-- The reading of OT_FAULT_LIMIT (R699). -/
def Part.otFaultRead (p : Part) (n : Nat) : Nat := lin11 (p.lowestThr ([16, 17, 18, 19] ++ p.remotesOf n) .shutdown : Nat)

/-- The reading of OT_WARN_LIMIT (R699). -/
def Part.otWarnRead (p : Part) (n : Nat) : Nat :=
  let l := p.remotesOf n
  lin11 (p.lowestThr (if l.isEmpty then [16, 17, 18, 19] else l) .warn : Nat)

/-- A write of OT_WARN_LIMIT on one rail (R555, R699): all its remote sensors or none. -/
def Part.otWarnTry (p : Part) (t n : Nat) : Option Part :=
  let l := p.remotesOf n
  let q := p.forL l fun s x => x.set TS_THR.WARN_T t s
  if l.isEmpty || decide (t < 1) || decide (200 < t) || !(l.all q.thermOk) then none
  else some (q.forL l fun s x => x.levelClear s .warn)

/-- A write of OT_WARN_LIMIT (R694, R699). -/
def Part.otWarnWrite (p : Part) (v : Nat) : Part × Bool :=
  if lin11Y v < 0 then (p, false) else p.onPages fun n q => q.otWarnTry (lin11Scaled v 1).toNat n

/-! Status (R700 to R702). -/

/-- STATUS_MFR_SPECIFIC of a rail: the live service request in bit 7. -/
def Part.statusMfr (p : Part) (n : Nat) : Nat := nth p.pmb.mfr n 0 + b2n (p.get SVC_STATUS.CAUSE != 0) * 128

/-- Bits 15 to 12 of STATUS_WORD. -/
def Part.statusTop (p : Part) (n : Nat) : Nat :=
  b2n (nth p.pmb.vout n 0 != 0) * 8 + b2n (nth p.pmb.iout n 0 != 0) * 4 + b2n (p.pmb.input != 0) * 2 +
    b2n (p.statusMfr n != 0)

/-- STATUS_BYTE of a rail. -/
def Part.statusByte (p : Part) (n : Nat) : Nat :=
  let low := bitOf (nth p.pmb.vout n 0) 7 * 32 + bitOf (nth p.pmb.iout n 0) 7 * 16 + bitOf p.pmb.input 4 * 8 +
    b2n (nth p.pmb.temp n 0 != 0) * 4 + b2n (p.pmb.cml != 0) * 2
  b2n (!(p.rst n).switching) * 64 + low + b2n (p.statusTop n != 0 && low == 0)

/-- STATUS_WORD of a rail. -/
def Part.statusWord (p : Part) (n : Nat) : Nat :=
  p.statusTop n * 4096 + b2n (!p.flag RAIL_STATUS.PG n) * 2048 + p.statusByte n

/-- The bits of a byte that another byte does not name. -/
def withoutBits (x m : Nat) : Nat := Nat.land x (255 - m % 256)

/-- Clear bits of a latched status byte of the paged rails (R701). -/
def Part.clearStatus (p : Part) (upd' : (Nat → Nat) → Nat → PmbCore → PmbCore) (m : Nat) : Part :=
  p.forL p.pages fun n q => q.modPmb (upd' (withoutBits · m) n)

/-- CLEAR_FAULTS (R701). -/
def Part.clearFaults (p : Part) : Part :=
  let p := p.forL p.pages fun n q => q.modPmb fun x => { x with
    vout := upd x.vout n fun _ => 0, iout := upd x.iout n fun _ => 0, temp := upd x.temp n fun _ => 0, mfr := upd x.mfr n fun _ => 0 }
  p.modPmb fun x => { x with input := 0, cml := 0 }

/-- Whether a latched bit of a command that ALERT_MASK lets through is set on any page (R702, R725). -/
def Part.alertCause (p : Part) : Bool :=
  let open_ := fun k => !p.bit HOST_PMBCFG.ALERT_MASK k
  let any := fun (l : List Nat) => l.any (· != 0)
  (open_ 0 && any p.pmb.vout) || (open_ 1 && any p.pmb.iout) || (open_ 2 && p.pmb.input != 0) ||
    (open_ 3 && any p.pmb.temp) || (open_ 4 && p.pmb.cml != 0) || (open_ 5 && any p.pmb.mfr)

/-- Whether the part asserts SALERT_N (R702). -/
def Part.salert (p : Part) : Bool :=
  p.hostActive && p.flag HOST_PMBCFG.ALERT_EN && !p.pmb.alertDone && p.alertCause

/-- ALERT_RESPONSE (R702): the address of the part in bits 7:1. -/
def Part.alertResponse (p : Part) : Part :=
  let b := p.busStart
  if b.2 && b.1.salert then
    (b.1.modPmb fun x => { x with alertDone := true }).answer true [BitVec.ofNat 8 (b.1.pmbAddr * 2)]
  else b.1.answer false

/-- SMBUS_TIMEOUT (R689); the hold that the part itself makes is excluded. -/
def Part.smbusTimeout (p : Part) : Part :=
  if p.hostActive && !p.sclHold then (p.latchCml 1).event HOST_PMBSTAT.TIMEOUT_EV HOST_PMBEVCNT.TIMEOUT_CNT else p

/-- UNSUPPORTED_COMMAND (R690): the code byte is not acknowledged. -/
def Part.unsupported (p : Part) : Part :=
  let b := p.busStart
  let p := b.1.answer false
  if b.2 then (p.latchCml 7).event HOST_PMBSTAT.UNSUP_EV HOST_PMBEVCNT.UNSUP_CNT else p

/-! Readings (R692, R693). -/

/-- The phase that PHASE selects on a rail, none at or above PH_COUNT (R692). -/
def Part.pagePhase (p : Part) (n : Nat) : Option Nat :=
  let j := p.get HOST_PMBSTAT.PHASE
  if j < p.get RAIL_CFG.PH_COUNT n then some (p.get RAIL_CFG.PH_FIRST n + j) else none

/-- READ_VOUT: the mean of the last 64 sensed outputs in 2^-13 V. -/
def Part.readVout (p : Part) (n : Nat) : Nat :=
  let h := (p.rail n).vHist
  if p.convRun n ∧ !h.isEmpty then satU 16 (roundQ (h.foldl (· + ·) 0 / ((8 * h.length : Nat) : Rat))) else 0

/-- READ_IOUT (R692, R693). -/
def Part.readIout (p : Part) : Part × Nat :=
  let n := p.pageRail
  if p.get HOST_PMBSTAT.PHASE = 0xFF then (p, lin11 (p.rail n).iAvg)
  else
    match p.pagePhase n with
    | some q => (p, lin11 ((p.getS PCS_AVG.MEAN q : Rat) / 256))
    | none => (p.latchCml 6, 0)

/-- READ_TEMPERATURE_1 (R692, R693). -/
def Part.readTemp (p : Part) : Part × Nat :=
  let n := p.pageRail
  if p.get HOST_PMBSTAT.PHASE = 0xFF then (p, lin11 ((p.railTemp n : Rat) / 8))
  else
    match p.pagePhase n with
    | some q =>
      match p.phaseSensor q with
      | some s => (p, lin11 ((p.getS TS_READ.TEMP s : Rat) / 8))
      | none => (p.latchCml 6, 0)
    | none => (p.latchCml 6, 0)

/-! The register window (R703, R704). -/

/-- A write through the window or of a register by its own command: a refusal of the register is a refusal of the
command, counted once, with the address of the register. -/
def State.throughWindow (s : State) (addr v : Nat) : State :=
  let t := s.regWrite .pmbus addr v
  if t.part.hostActive && t.part.refusals != s.part.refusals then { t with part := t.part.badEvent } else t

/-- A write of data at the window address (R704). -/
def State.windowWrite (s : State) (v : Nat) : State × Bool :=
  let a := s.part.get HOST_REGPTR.ADDR
  if windowOk a then (s.throughWindow a v, true) else (s, false)

/-- A read of data at the window address (R704). -/
def State.windowRead (s : State) : State × Nat :=
  let a := s.part.get HOST_REGPTR.ADDR
  if windowOk a then let r := s.part.regRead s.otp a; ({ s with part := r.1 }, r.2)
  else ({ s with part := s.part.latchCml 6 }, 0)

/-- The window address rises by 4 (R703). -/
def State.windowInc (s : State) : State :=
  if s.part.hostActive then { s with part := s.part.set HOST_REGPTR.ADDR (s.part.get HOST_REGPTR.ADDR + 4) } else s

/-- The bytes of a block read (R703). -/
def blockOf (data : List Byte) : List Byte := BitVec.ofNat 8 data.length :: data

/-! Records and log entries (R703, R705). -/

/-- The valid record slots by age. -/
def recsByAge (m : List Host.Cell) : List Nat := byAge (fun i => nvmNat m (recAddr i) 4) (recSlots m)

/-- The valid log units by age. -/
def logsByAge (m : List Host.Cell) : List Nat := byAge (fun i => nvmNat m (logAddr i + 6) 4) (logUnits m)

/-- A write of MFR_BIT_SEL (R705). -/
def State.bitSel (s : State) (v : Nat) : State × Bool :=
  match if v < 128 then (recsByAge s.array)[v]? else none with
  | some k => ({ s with part := s.part.modPmb fun x => { x with bitSel := v, bitSlot := some k, chunk := 0 } }, true)
  | none => (s, false)

/-- A write of MFR_SLOG_SEL (R705). -/
def State.slogSel (s : State) (v : Nat) : State × Bool :=
  match (logsByAge s.array)[v]? with
  | some k => ({ s with part := s.part.modPmb fun x => { x with slogSel := v, slogUnit := some k } }, true)
  | none => (s, false)

/-- MFR_BIT_READ (R705): a void selection reads as zeros. -/
def State.bitRead (s : State) : State × List Byte :=
  match s.part.pmb.bitSlot with
  | some k =>
    let c := s.part.pmb.chunk
    ({ s with part := s.part.modPmb fun x => { x with chunk := (c + 1) % 16 } }, nvmBytes s.array (recAddr k + 32 * c) 32)
  | none => ({ s with part := s.part.latchCml 6 }, List.replicate 32 0#8)

/-- MFR_SLOG_READ (R705). -/
def State.slogRead (s : State) : State × List Byte :=
  match s.part.pmb.slogUnit with
  | some k => (s, nvmBytes s.array (logAddr k) 16)
  | none => ({ s with part := s.part.latchCml 6 }, List.replicate 16 0#8)

/-! Meanings. -/

/-- PAGE (R691). -/
def execPage (tx : PmbTx) (s : State) : Host.Outcome State Fault Refusal :=
  .next (s.pmbus 0x00 1 (pmbGet 1 fun p => p.get HOST_PMBSTAT.PAGE)
    (pmbSet fun v p => if v < 8 ∨ v = 0xFF then (p.set HOST_PMBSTAT.PAGE v, true) else (p, false)) tx)

/-- OPERATION (R696). -/
def execOperation (tx : PmbTx) (s : State) : Host.Outcome State Fault Refusal :=
  .next (s.pmbus 0x01 1 (pmbPaged 1 Part.operationRead) (pmbSet fun v p => p.operationWrite v) tx)

/-- ON_OFF_CONFIG (R697). -/
def execOnOffConfig (tx : PmbTx) (s : State) : Host.Outcome State Fault Refusal :=
  .next (s.pmbus 0x02 1 (pmbPaged 1 fun p n => p.get RAIL_ONOFF.ON_OFF_CONFIG n)
    (pmbSet fun v p => p.onPages fun n q => q.fieldsTry (railBase n + 4) [(RAIL_ONOFF.ON_OFF_CONFIG, v)] n) tx)

/-- CLEAR_FAULTS (R701). -/
def execClearFaults (tx : PmbTx) (s : State) : Host.Outcome State Fault Refusal :=
  .next (s.pmbus 0x03 0 none (pmbSet fun _ p => (p.clearFaults, true)) tx)

/-- PHASE (R692). -/
def execPhase (tx : PmbTx) (s : State) : Host.Outcome State Fault Refusal :=
  .next (s.pmbus 0x04 1 (pmbGet 1 fun p => p.get HOST_PMBSTAT.PHASE)
    (pmbSet fun v p => if v < 64 ∨ v = 0xFF then (p.set HOST_PMBSTAT.PHASE v, true) else (p, false)) tx)

/-- CAPABILITY (R693). -/
def execCapability (tx : PmbTx) (s : State) : Host.Outcome State Fault Refusal :=
  .next (s.pmbus 0x19 1 (pmbGet 1 fun _ => 0xD4) none tx)

/-- VOUT_MODE (R693). -/
def execVoutMode (tx : PmbTx) (s : State) : Host.Outcome State Fault Refusal :=
  .next (s.pmbus 0x20 1 (pmbGet 1 fun _ => 0x13) none tx)

/-- VOUT_COMMAND (R363). -/
def execVoutCommand (tx : PmbTx) (s : State) : Host.Outcome State Fault Refusal :=
  .next (s.pmbus 0x21 2 (pmbPaged 2 fun p n => p.get RAIL_VOUT.VOUT_COMMAND n) (voutWrite 8 RAIL_VOUT.VOUT_COMMAND) tx)

/-- VOUT_MAX (R365). -/
def execVoutMax (tx : PmbTx) (s : State) : Host.Outcome State Fault Refusal :=
  .next (s.pmbus 0x24 2 (pmbPaged 2 fun p n => p.get RAIL_VOUT.VOUT_MAX n) (voutWrite 8 RAIL_VOUT.VOUT_MAX) tx)

/-- VOUT_MARGIN_HIGH (R363). -/
def execVoutMarginHigh (tx : PmbTx) (s : State) : Host.Outcome State Fault Refusal :=
  .next (s.pmbus 0x25 2 (pmbPaged 2 fun p n => p.get RAIL_MARGIN.VOUT_MARGIN_HIGH n)
    (voutWrite 12 RAIL_MARGIN.VOUT_MARGIN_HIGH) tx)

/-- VOUT_MARGIN_LOW (R363). -/
def execVoutMarginLow (tx : PmbTx) (s : State) : Host.Outcome State Fault Refusal :=
  .next (s.pmbus 0x26 2 (pmbPaged 2 fun p n => p.get RAIL_MARGIN.VOUT_MARGIN_LOW n)
    (voutWrite 12 RAIL_MARGIN.VOUT_MARGIN_LOW) tx)

/-- IOUT_OC_FAULT_LIMIT (R694). -/
def execIoutOcFaultLimit (tx : PmbTx) (s : State) : Host.Outcome State Fault Refusal :=
  .next (s.pmbus 0x46 2 (pmbPaged 2 fun p n => lin11 ((p.get PR_OCLIM.OC_FAULT n : Rat) / 2))
    (pmbSet fun v p => p.ocWrite v) tx)

/-- IOUT_OC_FAULT_RESPONSE (R698). -/
def execIoutOcFaultResponse (tx : PmbTx) (s : State) : Host.Outcome State Fault Refusal :=
  .next (s.pmbus 0x47 1 (pmbPaged 1 fun p n => 0xC0 + p.get PR_RESP.RETRY n 1 * 8) none tx)

/-- OT_FAULT_LIMIT (R699). -/
def execOtFaultLimit (tx : PmbTx) (s : State) : Host.Outcome State Fault Refusal :=
  .next (s.pmbus 0x4F 2 (pmbPaged 2 Part.otFaultRead) none tx)

/-- OT_FAULT_RESPONSE (R698). -/
def execOtFaultResponse (tx : PmbTx) (s : State) : Host.Outcome State Fault Refusal :=
  .next (s.pmbus 0x50 1 (pmbGet 1 fun _ => 0xC0) none tx)

/-- OT_WARN_LIMIT (R699). -/
def execOtWarnLimit (tx : PmbTx) (s : State) : Host.Outcome State Fault Refusal :=
  .next (s.pmbus 0x51 2 (pmbPaged 2 Part.otWarnRead) (pmbSet fun v p => p.otWarnWrite v) tx)

/-- TON_DELAY (R404). -/
def execTonDelay (tx : PmbTx) (s : State) : Host.Outcome State Fault Refusal :=
  .next (s.pmbus 0x60 2 (timeRead RAIL_TONDLY.TIME) (timeWrite 0x14 0 1000000 RAIL_TONDLY.TIME) tx)

/-- TON_RISE (R404). -/
def execTonRise (tx : PmbTx) (s : State) : Host.Outcome State Fault Refusal :=
  .next (s.pmbus 0x61 2 (timeRead RAIL_TONRISE.TIME) (timeWrite 0x18 50 500000 RAIL_TONRISE.TIME) tx)

/-- TOFF_DELAY (R404). -/
def execToffDelay (tx : PmbTx) (s : State) : Host.Outcome State Fault Refusal :=
  .next (s.pmbus 0x64 2 (timeRead RAIL_TOFFDLY.TIME) (timeWrite 0x1C 0 1000000 RAIL_TOFFDLY.TIME) tx)

/-- TOFF_FALL (R404). -/
def execToffFall (tx : PmbTx) (s : State) : Host.Outcome State Fault Refusal :=
  .next (s.pmbus 0x65 2 (timeRead RAIL_TOFFFALL.TIME) (timeWrite 0x20 50 500000 RAIL_TOFFFALL.TIME) tx)

/-- STATUS_BYTE (R700). -/
def execStatusByte (tx : PmbTx) (s : State) : Host.Outcome State Fault Refusal :=
  .next (s.pmbus 0x78 1 (pmbPaged 1 Part.statusByte) none tx)

/-- STATUS_WORD (R700). -/
def execStatusWord (tx : PmbTx) (s : State) : Host.Outcome State Fault Refusal :=
  .next (s.pmbus 0x79 2 (pmbPaged 2 Part.statusWord) none tx)

/-- STATUS_VOUT (R700, R701). -/
def execStatusVout (tx : PmbTx) (s : State) : Host.Outcome State Fault Refusal :=
  .next (s.pmbus 0x7A 1 (pmbPaged 1 fun p n => nth p.pmb.vout n 0)
    (pmbSet fun v p => (p.clearStatus (fun f n x => { x with vout := upd x.vout n f }) v, true)) tx)

/-- STATUS_IOUT (R700, R701). -/
def execStatusIout (tx : PmbTx) (s : State) : Host.Outcome State Fault Refusal :=
  .next (s.pmbus 0x7B 1 (pmbPaged 1 fun p n => nth p.pmb.iout n 0)
    (pmbSet fun v p => (p.clearStatus (fun f n x => { x with iout := upd x.iout n f }) v, true)) tx)

/-- STATUS_INPUT (R700, R701). -/
def execStatusInput (tx : PmbTx) (s : State) : Host.Outcome State Fault Refusal :=
  .next (s.pmbus 0x7C 1 (pmbGet 1 fun p => p.pmb.input)
    (pmbSet fun v p => (p.clearStatus (fun f _ x => { x with input := f x.input }) v, true)) tx)

/-- STATUS_TEMPERATURE (R700, R701). -/
def execStatusTemperature (tx : PmbTx) (s : State) : Host.Outcome State Fault Refusal :=
  .next (s.pmbus 0x7D 1 (pmbPaged 1 fun p n => nth p.pmb.temp n 0)
    (pmbSet fun v p => (p.clearStatus (fun f n x => { x with temp := upd x.temp n f }) v, true)) tx)

/-- STATUS_CML (R700, R701). -/
def execStatusCml (tx : PmbTx) (s : State) : Host.Outcome State Fault Refusal :=
  .next (s.pmbus 0x7E 1 (pmbGet 1 fun p => p.pmb.cml)
    (pmbSet fun v p => (p.clearStatus (fun f _ x => { x with cml := f x.cml }) v, true)) tx)

/-- STATUS_MFR_SPECIFIC (R700, R701). -/
def execStatusMfrSpecific (tx : PmbTx) (s : State) : Host.Outcome State Fault Refusal :=
  .next (s.pmbus 0x80 1 (pmbPaged 1 Part.statusMfr)
    (pmbSet fun v p => (p.clearStatus (fun f n x => { x with mfr := upd x.mfr n f }) v, true)) tx)

/-- READ_VIN (R440). -/
def execReadVin (tx : PmbTx) (s : State) : Host.Outcome State Fault Refusal :=
  .next (s.pmbus 0x88 2 (pmbGet 2 fun p => lin11 ((p.get PROT_VIN.V_IN : Rat) / 65536)) none tx)

/-- READ_VOUT (R693). -/
def execReadVout (tx : PmbTx) (s : State) : Host.Outcome State Fault Refusal :=
  .next (s.pmbus 0x8B 2 (pmbPaged 2 Part.readVout) none tx)

/-- READ_IOUT (R692, R693). -/
def execReadIout (tx : PmbTx) (s : State) : Host.Outcome State Fault Refusal :=
  .next (s.pmbus 0x8C 2 (pmbGetP 2 Part.readIout) none tx)

/-- READ_TEMPERATURE_1 (R692, R693). -/
def execReadTemperature1 (tx : PmbTx) (s : State) : Host.Outcome State Fault Refusal :=
  .next (s.pmbus 0x8D 2 (pmbGetP 2 Part.readTemp) none tx)

/-- PMBUS_REVISION (R693). -/
def execPmbusRevision (tx : PmbTx) (s : State) : Host.Outcome State Fault Refusal :=
  .next (s.pmbus 0x98 1 (pmbGet 1 fun _ => 0x44) none tx)

/-- MFR_REG_ADDR (R704). -/
def execMfrRegAddr (tx : PmbTx) (s : State) : Host.Outcome State Fault Refusal :=
  .next (s.pmbus 0xD0 4 (some fun s => (s, blockOf (leBytes 4 (s.part.get HOST_REGPTR.ADDR))))
    (pmbSet fun v p => (p.set HOST_REGPTR.ADDR v, true)) tx)

/-- MFR_REG_DATA (R704). -/
def execMfrRegData (tx : PmbTx) (s : State) : Host.Outcome State Fault Refusal :=
  .next (s.pmbus 0xD1 4 (some fun s => let r := s.windowRead; (r.1, blockOf (leBytes 4 r.2)))
    (some fun data s => s.windowWrite (ofLe data)) tx)

/-- MFR_REG_DATA_INC (R704). -/
def execMfrRegDataInc (tx : PmbTx) (s : State) : Host.Outcome State Fault Refusal :=
  .next (s.pmbus 0xD2 4 (some fun s => let r := s.windowRead; (r.1.windowInc, blockOf (leBytes 4 r.2)))
    (some fun data s => let r := s.windowWrite (ofLe data); (r.1.windowInc, r.2)) tx)

/-- MFR_BIT_COUNT (R703). -/
def execMfrBitCount (tx : PmbTx) (s : State) : Host.Outcome State Fault Refusal :=
  .next (s.pmbus 0xD4 2 (some fun s => (s, leBytes 2 (recSlots s.array).length)) none tx)

/-- MFR_BIT_SEL (R705). -/
def execMfrBitSel (tx : PmbTx) (s : State) : Host.Outcome State Fault Refusal :=
  .next (s.pmbus 0xD5 2 (pmbGet 2 fun p => p.pmb.bitSel) (some fun data s => s.bitSel (ofLe data)) tx)

/-- MFR_BIT_READ (R705). -/
def execMfrBitRead (tx : PmbTx) (s : State) : Host.Outcome State Fault Refusal :=
  .next (s.pmbus 0xD6 32 (some fun s => let r := s.bitRead; (r.1, blockOf r.2)) none tx)

/-- MFR_SLOG_COUNT (R703). -/
def execMfrSlogCount (tx : PmbTx) (s : State) : Host.Outcome State Fault Refusal :=
  .next (s.pmbus 0xD8 2 (some fun s => (s, leBytes 2 (logUnits s.array).length)) none tx)

/-- MFR_SLOG_SEL (R705). -/
def execMfrSlogSel (tx : PmbTx) (s : State) : Host.Outcome State Fault Refusal :=
  .next (s.pmbus 0xD9 2 (pmbGet 2 fun p => p.pmb.slogSel) (some fun data s => s.slogSel (ofLe data)) tx)

/-- MFR_SLOG_READ (R705). -/
def execMfrSlogRead (tx : PmbTx) (s : State) : Host.Outcome State Fault Refusal :=
  .next (s.pmbus 0xDA 16 (some fun s => let r := s.slogRead; (r.1, blockOf r.2)) none tx)

/-- MFR_CAL_CMD (R706). -/
def execMfrCalCmd (tx : PmbTx) (s : State) : Host.Outcome State Fault Refusal :=
  .next (s.pmbus 0xDC 4 none (some fun data s => (s.throughWindow 0x70018 (ofLe data), true)) tx)

/-- MFR_CAL_STAT (R703). -/
def execMfrCalStat (tx : PmbTx) (s : State) : Host.Outcome State Fault Refusal :=
  .next (s.pmbus 0xDD 2 (some fun s => (s, leBytes 2 ((s.part.regRead s.otp 0x7001C).2 % 65536))) none tx)

/-- ALERT_RESPONSE (R702). -/
def execAlertResponse (s : State) : Host.Outcome State Fault Refusal := .next { s with part := s.part.alertResponse }

/-- SMBUS_TIMEOUT (R689). -/
def execSmbusTimeout (s : State) : Host.Outcome State Fault Refusal := .next { s with part := s.part.smbusTimeout }

/-- UNSUPPORTED_COMMAND (R690). -/
def execUnsupportedCommand (_code : Nat) (s : State) : Host.Outcome State Fault Refusal :=
  .next { s with part := s.part.unsupported }

end Sys2Proof.Machine
end

