-- ==== Sys2Proof/Machine/Avs.lean ====
section
/-!
DEFINITION. The AVSBus ports (R711 to R719), with the meanings of the AVSBus commands. A response stands in the port's
reply; a clock edge is a wake source to a park entry (R107, R110, R711).
-/

namespace Sys2Proof.Machine

open Reg

/-! What one rail does. -/

/-- A write of a CmdDataType on a rail: none where the rail rejects it (R716). -/
def Part.avsApply (p : Part) (port type data n : Nat) : Option Part :=
  match type with
  | 0 =>
    if p.flag RAIL_CFG.SP_SRC n then
      some (((p.set RAIL_AVS.AVS_V data n).set RAIL_AVS.AVS_VALID 1 n).showCmd n)
    else none
  | 1 =>
    let up := bitsOf data 8 8
    let dn := bitsOf data 0 8
    if up = 0 ∨ dn = 0 then none
    else some ((p.set RAIL_SLEW.SLEW_UP (clampN 5 5000 (up * 100)) n).set RAIL_SLEW.SLEW_DN (clampN 5 5000 (dn * 100)) n)
  | 4 => some ((p.set RAIL_AVS.AVS_VALID 0 n).showCmd n)
  | 5 => some (p.set AVS_PMODE.PMODE data port)
  | 14 => some (p.set AVS_RSTAT.R (Nat.land (p.get AVS_RSTAT.R n) (15 - bitsOf data 11 4)) n)
  | _ => none

/-- VDONE of a rail (R714). -/
def Part.avsDone (p : Part) (n : Nat) : Bool :=
  p.get RAIL_VSP.VALUE n == p.vCmd n && (p.rst n == .regulate || p.rst n == .burst)

/-- A read of a CmdDataType from a rail: none where it is rejected (R716). -/
def Part.avsRead (p : Part) (port type n : Nat) : Option Nat :=
  match type with
  | 0 => some (if p.convRun n then satU 16 (roundQ (p.sensed n * 1000 / 65536)) else 0)
  | 1 => some ((roundDiv (p.get RAIL_SLEW.SLEW_UP n) 100).toNat * 256 + (roundDiv (p.get RAIL_SLEW.SLEW_DN n) 100).toNat)
  | 2 => some (satU 16 (roundQ ((p.rail n).iAvg * (if p.flag AVS_CFG.IUNIT port then 1 else 100))))
  | 3 => some (ofS 16 (satS 16 (roundDiv (p.railTemp n * 10) 8)))
  | 5 => some (p.get AVS_PMODE.PMODE port)
  | 14 => some (b2n (p.avsDone n) * 32768 + p.get AVS_RSTAT.R n * 2048)
  | _ => none

/-! Selects (R715). -/

/-- The rail of a select of a port, none where it is rejected. -/
def Part.avsRail (p : Part) (port sel : Nat) : Option Nat :=
  let m := p.get AVS_MAP.SEL port sel
  if sel < 8 ∧ 8 ≤ m then some (m - 8) else none

/-- The rails that a write with a select acts on. -/
def Part.avsRails (p : Part) (port sel : Nat) : List Nat :=
  if sel = 15 then (List.range 8).filterMap (p.avsRail port) else (p.avsRail port sel).toList

/-- A write on every rail of its select, and whether any rail applied it (R715). -/
def Part.avsWrite (p : Part) (port : Nat) (w : AvsHold) : Part × Bool :=
  (p.avsRails port w.select).foldl
    (fun x n => match x.1.avsApply port w.type w.data n with | some q => (q, true) | none => x) (p, false)

/-! The hold store (R717). -/

/-- The hold store of a port. -/
def Part.avsHolds (p : Part) (port : Nat) : List AvsHold := nth p.avs.holds port []

/-- Change the hold store of a port. -/
def Part.setHolds (p : Part) (port : Nat) (l : List AvsHold) : Part :=
  p.modAvs fun a => { a with holds := upd a.holds port fun _ => l }

/-- Whether two holds name the same select and CmdDataType. -/
def AvsHold.same (a b : AvsHold) : Bool := a.select == b.select && a.type == b.type

/-- Store a hold: the earlier one for the same select and CmdDataType gives way in its place; none where a fifth entry
would be needed. -/
def Part.avsHold (p : Part) (port : Nat) (w : AvsHold) : Option Part :=
  let l := p.avsHolds port
  if l.any w.same then some (p.setHolds port (l.map fun x => if w.same x then w else x))
  else if l.length < 4 then some (p.setHolds port (l ++ [w]))
  else none

/-- A write-and-commit: the held entries in the order stored, then its own write. -/
def Part.avsCommit (p : Part) (port : Nat) (w : AvsHold) : Part :=
  let q := (p.avsHolds port).foldl (fun q h => (q.avsWrite port h).1) p
  ((q.avsWrite port w).1).setHolds port []

/-! Frames. -/

/-- The frame's bits 31:3 as a number (R713). -/
def avsBits (r : AvsReq) (type : Nat) : Nat :=
  (b2n r.secondBit * 2 ^ 27) + r.cmd % 4 * 2 ^ 25 + b2n r.group * 2 ^ 24 + type % 16 * 2 ^ 20 + r.select % 16 * 2 ^ 16 +
    r.data % 65536

/-- What an accepted frame does and reads; none where it is rejected (R713 to R717). -/
def Part.avsAct (p : Part) (r : AvsReq) (type : Nat) : Option (Part × Nat) :=
  let port : Nat := r.port
  let w : AvsHold := ⟨r.select, type, r.data⟩
  if r.group then none
  else
    match r.cmd with
    | 0 => if (p.avsWrite port w).2 then some (p.avsCommit port w, 0) else none
    | 1 => if (p.avsWrite port w).2 then (p.avsHold port w).map fun q => (q, 0) else none
    | 3 => (p.avsRail port r.select).bind fun n => (p.avsRead port type n).map fun v => (p, v)
    | _ => none

/-- StatusResp (R714). -/
def Part.avsStatus (p : Part) (port sel : Nat) : Nat :=
  let mfr := b2n (p.get SVC_STATUS.CAUSE != 0) * 2
  match p.avsRail port sel with
  | some n =>
    b2n (p.avsDone n) * 16 + b2n (p.get AVS_RSTAT.R n != 0) * 8 +
      b2n (p.flag RAIL_CFG.SP_SRC n && p.flag RAIL_AVS.AVS_VALID n) * 4 + mfr
  | none => mfr

/-- The response frame (R714). -/
def Part.avsFrame (p : Part) (port sel ack data : Nat) : Nat :=
  let hi := ack * 2 ^ 27 + p.avsStatus port sel * 2 ^ 21 + data * 2 ^ 5
  hi * 8 + crc3 29 0 hi

/-- Whether the part drives SDATA (R719): in a pair the owner alone. -/
def Part.avsDrives (p : Part) : Bool := !p.paired || p.owner

/-- Send a response. -/
def Part.avsReply (p : Part) (r : AvsReq) (ack data : Nat) : Part :=
  let f := if p.avsDrives then some (p.avsFrame r.port r.select ack data) else none
  p.modAvs fun a => { a with reply := upd a.reply (r.port : Nat) fun _ => f }

/-- No response. -/
def Part.avsSilent (p : Part) (port : Nat) : Part := p.modAvs fun a => { a with reply := upd a.reply port fun _ => none }

/-- A frame on a port (R711 to R719). -/
def Part.avsReq (p : Part) (r : AvsReq) (type : Nat) : Part :=
  let port : Nat := r.port
  let p := p.abortPark.avsSilent port
  if !(p.hostActive && p.flag AVS_CFG.EN port) || nth p.avs.waitIdle port false then p
  else if !r.secondBit then
    (p.event AVS_STAT.FRAME_EV AVS_EVCNT.FRAME_CNT port).modAvs fun a => { a with waitIdle := upd a.waitIdle port fun _ => true }
  else if r.crc ≠ crc3 29 0 (avsBits r type) then
    (p.event AVS_STAT.CRC_EV AVS_EVCNT.CRC_CNT port).avsReply r 2 0
  else
    match p.avsAct r type with
    | some x => x.1.avsReply r 0 x.2
    | none => (p.event AVS_STAT.REJ_EV AVS_EVCNT.REJ_CNT port).avsReply r 3 0

/-- AVS_IDLE_RESYNC (R712). -/
def Part.avsResync (p : Part) (port : Nat) : Part :=
  let p := p.abortPark
  if p.hostActive && p.flag AVS_CFG.EN port then p.modAvs fun a => { a with waitIdle := upd a.waitIdle port fun _ => false }
  else p

/-! Meanings. -/

/-- AVS_VOLTAGE (R716). -/
def execAvsVoltage (req : AvsReq) (s : State) : Host.Outcome State Fault Refusal :=
  .next { s with part := s.part.avsReq req 0 }

/-- AVS_VOUT_TRANSITION_RATE (R716). -/
def execAvsVoutTransitionRate (req : AvsReq) (s : State) : Host.Outcome State Fault Refusal :=
  .next { s with part := s.part.avsReq req 1 }

/-- AVS_CURRENT_READ (R716). -/
def execAvsCurrentRead (req : AvsReq) (s : State) : Host.Outcome State Fault Refusal :=
  .next { s with part := s.part.avsReq req 2 }

/-- AVS_TEMPERATURE_READ (R716). -/
def execAvsTemperatureRead (req : AvsReq) (s : State) : Host.Outcome State Fault Refusal :=
  .next { s with part := s.part.avsReq req 3 }

/-- AVS_RESET_VOLTAGE (R716). -/
def execAvsResetVoltage (req : AvsReq) (s : State) : Host.Outcome State Fault Refusal :=
  .next { s with part := s.part.avsReq req 4 }

/-- AVS_POWER_MODE (R716). -/
def execAvsPowerMode (req : AvsReq) (s : State) : Host.Outcome State Fault Refusal :=
  .next { s with part := s.part.avsReq req 5 }

/-- AVS_STATUS (R716). -/
def execAvsStatus (req : AvsReq) (s : State) : Host.Outcome State Fault Refusal :=
  .next { s with part := s.part.avsReq req 14 }

/-- AVS_WRITE_HOLD (R717). -/
def execAvsWriteHold (req : AvsReq) (type : Nat) (s : State) : Host.Outcome State Fault Refusal :=
  .next { s with part := s.part.avsReq req type }

/-- AVS_UNSUPPORTED_TYPE (R716). -/
def execAvsUnsupportedType (req : AvsReq) (type : Nat) (s : State) : Host.Outcome State Fault Refusal :=
  .next { s with part := s.part.avsReq req type }

/-- AVS_IDLE_RESYNC (R712). -/
def execAvsIdleResync (port : Fin 2) (s : State) : Host.Outcome State Fault Refusal :=
  .next { s with part := s.part.avsResync port }

end Sys2Proof.Machine
end

