-- ==== Sys2Proof/Machine/Jtag.lean ====
section
/-!
DEFINITION. The JTAG port (R587, R588): its instruction register and the REGACC data register, with the meanings of EXTEST,
SAMPLE_PRELOAD, REGACC, SCAN and BYPASS.
-/

namespace Sys2Proof.Machine

open Reg

/-- Load the JTAG instruction register. -/
def Part.jtagLoad (p : Part) (code : Nat) : Part := p.modTest fun t => { t with jtagIr := code }

/-- An instruction of TEST alone, which acts as BYPASS elsewhere (R587). -/
def Part.jtagTest (p : Part) (code : Nat) : Part := p.jtagLoad (if p.dev == .test then code else 0xFF)

/-- A REGACC read (R588): Capture-DR loads the result of the last one; an address that it does not reach reads 0. -/
def Part.jtagRead (p : Part) (o : Otp) (addr : Nat) : Part :=
  let r := if p.jtagReach addr then p.regRead o addr else (p, 0)
  r.1.modTest fun t => { t with jtagData := r.2 }

/-- A REGACC Update-DR (R588). -/
def State.regacc (s : State) (addr data : Nat) (write : Bool) : State :=
  let s := { s with part := s.part.jtagLoad 0x21 }
  if write then s.jtagWrite addr data else { s with part := s.part.jtagRead s.otp addr }

/-- The JTAG balls are IO-domain balls: without VDD33 nothing reaches the port (R35, R48). -/
def State.byJtag (s : State) (f : State → State) : State :=
  if s.part.supplies.vaonPor && s.part.supplies.vdd33 then f s else s

/-! Meanings. -/

/-- EXTEST (R587). -/
def execExtest (s : State) : Host.Outcome State Fault Refusal :=
  .next (s.byJtag fun t => { t with part := t.part.jtagTest 0x00 })

/-- SAMPLE_PRELOAD (R587). -/
def execSamplePreload (s : State) : Host.Outcome State Fault Refusal :=
  .next (s.byJtag fun t => { t with part := t.part.jtagLoad 0x02 })

/-- REGACC (R588). -/
def execRegacc (addr data : Nat) (write : Bool) (s : State) : Host.Outcome State Fault Refusal :=
  .next (s.byJtag fun t => t.regacc addr data write)

/-- SCAN (R587). -/
def execScan (s : State) : Host.Outcome State Fault Refusal :=
  .next (s.byJtag fun t => { t with part := t.part.jtagTest 0x30 })

/-- BYPASS (R587). -/
def execBypass (_code : Nat) (s : State) : Host.Outcome State Fault Refusal :=
  .next (s.byJtag fun t => { t with part := t.part.jtagLoad 0xFF })

end Sys2Proof.Machine
end

