-- ==== Sys2Proof/Machine/Dispatch.lean ====
section
/-!
DEFINITION. One arm for each command: the meaning it calls.
-/

namespace Sys2Proof.Machine

/-- What a command does to the state, the queue's rest included as it stands. -/
def exec (i : Instr) (s : State) : Host.Outcome State Fault Refusal :=
  match i with
  | .suppliesGood straps => Sys2Proof.Machine.execSuppliesGood straps s
  | .powerCycle => Sys2Proof.Machine.execPowerCycle s
  | .supplyLoss vdd33 vdda18 vdd08 => Sys2Proof.Machine.execSupplyLoss vdd33 vdda18 vdd08 s
  | .vaonLow => Sys2Proof.Machine.execVaonLow s
  | .resetN lowNs => Sys2Proof.Machine.execResetN lowNs s
  | .clockLoss clk => Sys2Proof.Machine.execClockLoss clk s
  | .refRetry xinUv => Sys2Proof.Machine.execRefRetry xinUv s
  | .pllLock sealOk monUv => Sys2Proof.Machine.execPllLock sealOk monUv s
  | .partitionVerdict part result => Sys2Proof.Machine.execPartitionVerdict part result s
  | .partitionTimeout part => Sys2Proof.Machine.execPartitionTimeout part s
  | .slotCheck flash => Sys2Proof.Machine.execSlotCheck flash s
  | .loadComplete inputs => Sys2Proof.Machine.execLoadComplete inputs s
  | .park key => Sys2Proof.Machine.execPark key s
  | .parkEntry => Sys2Proof.Machine.execParkEntry s
  | .parkTimeout => Sys2Proof.Machine.execParkTimeout s
  | .safe key => Sys2Proof.Machine.execSafe key s
  | .swreset key => Sys2Proof.Machine.execSwreset key s
  | .rollbackCommit key => Sys2Proof.Machine.execRollbackCommit key s
  | .keyRevokeReq key0 key1 key => Sys2Proof.Machine.execKeyRevokeReq key0 key1 key s
  | .wakeRequest sources straps => Sys2Proof.Machine.execWakeRequest sources straps s
  | .wakeTimer straps => Sys2Proof.Machine.execWakeTimer straps s
  | .sclHoldRelease => Sys2Proof.Machine.execSclHoldRelease s
  | .reloadDone flash inputs => Sys2Proof.Machine.execReloadDone flash inputs s
  | .fixedDieShutdown => Sys2Proof.Machine.execFixedDieShutdown s
  | .hotlatchClockStop => Sys2Proof.Machine.execHotlatchClockStop s
  | .requestChallenge key => Sys2Proof.Machine.execRequestChallenge key s
  | .submitResponse key zeroised => Sys2Proof.Machine.execSubmitResponse key zeroised s
  | .closeSession key => Sys2Proof.Machine.execCloseSession key s
  | .sessionTimeout => Sys2Proof.Machine.execSessionTimeout s
  | .extest => Sys2Proof.Machine.execExtest s
  | .samplePreload => Sys2Proof.Machine.execSamplePreload s
  | .regacc addr data write => Sys2Proof.Machine.execRegacc addr data write s
  | .scan => Sys2Proof.Machine.execScan s
  | .bypass code => Sys2Proof.Machine.execBypass code s
  | .controlSample rail uv checks spec => Sys2Proof.Machine.execControlSample rail uv checks spec s
  | .telltaleFilter rail side present => Sys2Proof.Machine.execTelltaleFilter rail side present s
  | .phaseSample phase code => Sys2Proof.Machine.execPhaseSample phase code s
  | .vinsSample code => Sys2Proof.Machine.execVinsSample code s
  | .vinFault level => Sys2Proof.Machine.execVinFault level s
  | .digestCheck slice outcome => Sys2Proof.Machine.execDigestCheck slice outcome s
  | .load16 slice value index => Sys2Proof.Machine.execLoad16 slice value index s
  | .coefficientSwap key rail slice => Sys2Proof.Machine.execCoefficientSwap key rail slice s
  | .timingMove key rail tmode => Sys2Proof.Machine.execTimingMove key rail tmode s
  | .reserveSpare key => Sys2Proof.Machine.execReserveSpare key s
  | .releaseReservation key slice => Sys2Proof.Machine.execReleaseReservation key slice s
  | .exchangeGrant => Sys2Proof.Machine.execExchangeGrant s
  | .reservationExpiry slice => Sys2Proof.Machine.execReservationExpiry slice s
  | .rotationDue => Sys2Proof.Machine.execRotationDue s
  | .rotationStart => Sys2Proof.Machine.execRotationStart s
  | .overdue => Sys2Proof.Machine.execOverdue s
  | .sliceTestEnd slice run => Sys2Proof.Machine.execSliceTestEnd slice run s
  | .bookkeepingPass slice => Sys2Proof.Machine.execBookkeepingPass slice s
  | .commit rail => Sys2Proof.Machine.execCommit rail s
  | .disarm rail => Sys2Proof.Machine.execDisarm rail s
  | .lipStrobe port code => Sys2Proof.Machine.execLipStrobe port code s
  | .intentMissed rail => Sys2Proof.Machine.execIntentMissed rail s
  | .prepDone rail => Sys2Proof.Machine.execPrepDone rail s
  | .periodStart phase => Sys2Proof.Machine.execPeriodStart phase s
  | .fastScTrip phase senseUv durationPs => Sys2Proof.Machine.execFastScTrip phase senseUv durationPs s
  | .phasePeriodEnd phase => Sys2Proof.Machine.execPhasePeriodEnd phase s
  | .phaseSc phase => Sys2Proof.Machine.execPhaseSc phase s
  | .phaseOpen phase => Sys2Proof.Machine.execPhaseOpen phase s
  | .phaseSenseFault phase cond => Sys2Proof.Machine.execPhaseSenseFault phase cond s
  | .phaseRetire rail => Sys2Proof.Machine.execPhaseRetire rail s
  | .reefAdd rail => Sys2Proof.Machine.execReefAdd rail s
  | .reefShed rail => Sys2Proof.Machine.execReefShed rail s
  | .healthUpdate => Sys2Proof.Machine.execHealthUpdate s
  | .healthForecast phase indicator => Sys2Proof.Machine.execHealthForecast phase indicator s
  | .enDebounce rail pin => Sys2Proof.Machine.execEnDebounce rail pin s
  | .controlDebounce pin => Sys2Proof.Machine.execControlDebounce pin s
  | .delayOnEnd rail => Sys2Proof.Machine.execDelayOnEnd rail s
  | .prebiasStep rail uv => Sys2Proof.Machine.execPrebiasStep rail uv s
  | .toffDelayEnd rail => Sys2Proof.Machine.execToffDelayEnd rail s
  | .offWaitExpiry rail => Sys2Proof.Machine.execOffWaitExpiry rail s
  | .pgRelease rail => Sys2Proof.Machine.execPgRelease rail s
  | .thrHoldEnd thr => Sys2Proof.Machine.execThrHoldEnd thr s
  | .burstEntry rail => Sys2Proof.Machine.execBurstEntry rail s
  | .burstTrip rail => Sys2Proof.Machine.execBurstTrip rail s
  | .monSample mon seen => Sys2Proof.Machine.execMonSample mon seen s
  | .pbBurstEnd burst => Sys2Proof.Machine.execPbBurstEnd burst s
  | .hiccupRetry rail => Sys2Proof.Machine.execHiccupRetry rail s
  | .retryClear rail => Sys2Proof.Machine.execRetryClear rail s
  | .ovEc rail => Sys2Proof.Machine.execOvEc rail s
  | .uvEc rail => Sys2Proof.Machine.execUvEc rail s
  | .shortAtStart rail => Sys2Proof.Machine.execShortAtStart rail s
  | .frozen rail => Sys2Proof.Machine.execFrozen rail s
  | .currentHoldEnd rail => Sys2Proof.Machine.execCurrentHoldEnd rail s
  | .ovLowEnd rail => Sys2Proof.Machine.execOvLowEnd rail s
  | .stageFault low => Sys2Proof.Machine.execStageFault low s
  | .sfltClear high => Sys2Proof.Machine.execSfltClear high s
  | .conversionDone conv inputs => Sys2Proof.Machine.execConversionDone conv inputs s
  | .softwareTrigger mask => Sys2Proof.Machine.execSoftwareTrigger mask s
  | .pwmTrigger rail => Sys2Proof.Machine.execPwmTrigger rail s
  | .tbTrigger seq => Sys2Proof.Machine.execTbTrigger seq s
  | .seqTbhiWrite seq value => Sys2Proof.Machine.execSeqTbhiWrite seq value s
  | .seqDisable seq => Sys2Proof.Machine.execSeqDisable seq s
  | .injectedRequest value => Sys2Proof.Machine.execInjectedRequest value s
  | .hkQloRead => Sys2Proof.Machine.execHkQloRead s
  | .hkQhiRead => Sys2Proof.Machine.execHkQhiRead s
  | .calZero set refVal => Sys2Proof.Machine.execCalZero set refVal s
  | .calFull set refVal => Sys2Proof.Machine.execCalFull set refVal s
  | .calAbort => Sys2Proof.Machine.execCalAbort s
  | .captureEnd uv auxRefUv => Sys2Proof.Machine.execCaptureEnd uv auxRefUv s
  | .calBindWrite set value => Sys2Proof.Machine.execCalBindWrite set value s
  | .monCrossing mon uv => Sys2Proof.Machine.execMonCrossing mon uv s
  | .dacReadback => Sys2Proof.Machine.execDacReadback s
  | .thermSample sensor meas => Sys2Proof.Machine.execThermSample sensor meas s
  | .thermalLevelEnter sensor level => Sys2Proof.Machine.execThermalLevelEnter sensor level s
  | .thermalLevelExit sensor level => Sys2Proof.Machine.execThermalLevelExit sensor level s
  | .sensorBroken sensor => Sys2Proof.Machine.execSensorBroken sensor s
  | .thermCheck zeroUv refUv => Sys2Proof.Machine.execThermCheck zeroUv refUv s
  | .feFail => Sys2Proof.Machine.execFeFail s
  | .ecInjection rail ref code => Sys2Proof.Machine.execEcInjection rail ref code s
  | .ecInjFail rail => Sys2Proof.Machine.execEcInjFail rail s
  | .phInjection phase ref code => Sys2Proof.Machine.execPhInjection phase ref code s
  | .phInjFail phase => Sys2Proof.Machine.execPhInjFail phase s
  | .mbistStep ram last => Sys2Proof.Machine.execMbistStep ram last s
  | .halLoopback port run => Sys2Proof.Machine.execHalLoopback port run s
  | .testLate cycle => Sys2Proof.Machine.execTestLate cycle s
  | .portUp port => Sys2Proof.Machine.execPortUp port s
  | .portDown port why => Sys2Proof.Machine.execPortDown port why s
  | .sync rx => Sys2Proof.Machine.execSync rx s
  | .syncSend => Sys2Proof.Machine.execSyncSend s
  | .delayExchange port => Sys2Proof.Machine.execDelayExchange port s
  | .delayReq rx => Sys2Proof.Machine.execDelayReq rx s
  | .delayResp rx => Sys2Proof.Machine.execDelayResp rx s
  | .discoverSend => Sys2Proof.Machine.execDiscoverSend s
  | .discover rx => Sys2Proof.Machine.execDiscover rx s
  | .tbLockTimeout => Sys2Proof.Machine.execTbLockTimeout s
  | .faultFrame rx => Sys2Proof.Machine.execFaultFrame rx s
  | .barToken rx => Sys2Proof.Machine.execBarToken rx s
  | .barRelease rx => Sys2Proof.Machine.execBarRelease rx s
  | .barrierSlotFree slot => Sys2Proof.Machine.execBarrierSlotFree slot s
  | .barrierTimeout slot => Sys2Proof.Machine.execBarrierTimeout slot s
  | .snapSched rx => Sys2Proof.Machine.execSnapSched rx s
  | .snapLatch => Sys2Proof.Machine.execSnapLatch s
  | .snapCollect rx => Sys2Proof.Machine.execSnapCollect rx s
  | .snapResp rx => Sys2Proof.Machine.execSnapResp rx s
  | .collectTimeout => Sys2Proof.Machine.execCollectTimeout s
  | .resetFrame rx => Sys2Proof.Machine.execResetFrame rx s
  | .barrierArrive key id => Sys2Proof.Machine.execBarrierArrive key id s
  | .barrierLaunch key id => Sys2Proof.Machine.execBarrierLaunch key id s
  | .snapshotSchedule key id => Sys2Proof.Machine.execSnapshotSchedule key id s
  | .snapshotCollect key id => Sys2Proof.Machine.execSnapshotCollect key id s
  | .resetAll key id => Sys2Proof.Machine.execResetAll key id s
  | .resetNode key id => Sys2Proof.Machine.execResetNode key id s
  | .hbSend => Sys2Proof.Machine.execHbSend s
  | .hb rx => Sys2Proof.Machine.execHb rx s
  | .hbTimeout => Sys2Proof.Machine.execHbTimeout s
  | .pairHold group => Sys2Proof.Machine.execPairHold group s
  | .selfFaultTimeout => Sys2Proof.Machine.execSelfFaultTimeout s
  | .pairxSend => Sys2Proof.Machine.execPairxSend s
  | .pairx rx => Sys2Proof.Machine.execPairx rx s
  | .ringBrokenClear => Sys2Proof.Machine.execRingBrokenClear s
  | .halTbloRead => Sys2Proof.Machine.execHalTbloRead s
  | .page tx => Sys2Proof.Machine.execPage tx s
  | .operation tx => Sys2Proof.Machine.execOperation tx s
  | .onOffConfig tx => Sys2Proof.Machine.execOnOffConfig tx s
  | .clearFaults tx => Sys2Proof.Machine.execClearFaults tx s
  | .phase tx => Sys2Proof.Machine.execPhase tx s
  | .capability tx => Sys2Proof.Machine.execCapability tx s
  | .voutMode tx => Sys2Proof.Machine.execVoutMode tx s
  | .voutCommand tx => Sys2Proof.Machine.execVoutCommand tx s
  | .voutMax tx => Sys2Proof.Machine.execVoutMax tx s
  | .voutMarginHigh tx => Sys2Proof.Machine.execVoutMarginHigh tx s
  | .voutMarginLow tx => Sys2Proof.Machine.execVoutMarginLow tx s
  | .ioutOcFaultLimit tx => Sys2Proof.Machine.execIoutOcFaultLimit tx s
  | .ioutOcFaultResponse tx => Sys2Proof.Machine.execIoutOcFaultResponse tx s
  | .otFaultLimit tx => Sys2Proof.Machine.execOtFaultLimit tx s
  | .otFaultResponse tx => Sys2Proof.Machine.execOtFaultResponse tx s
  | .otWarnLimit tx => Sys2Proof.Machine.execOtWarnLimit tx s
  | .tonDelay tx => Sys2Proof.Machine.execTonDelay tx s
  | .tonRise tx => Sys2Proof.Machine.execTonRise tx s
  | .toffDelay tx => Sys2Proof.Machine.execToffDelay tx s
  | .toffFall tx => Sys2Proof.Machine.execToffFall tx s
  | .statusByte tx => Sys2Proof.Machine.execStatusByte tx s
  | .statusWord tx => Sys2Proof.Machine.execStatusWord tx s
  | .statusVout tx => Sys2Proof.Machine.execStatusVout tx s
  | .statusIout tx => Sys2Proof.Machine.execStatusIout tx s
  | .statusInput tx => Sys2Proof.Machine.execStatusInput tx s
  | .statusTemperature tx => Sys2Proof.Machine.execStatusTemperature tx s
  | .statusCml tx => Sys2Proof.Machine.execStatusCml tx s
  | .statusMfrSpecific tx => Sys2Proof.Machine.execStatusMfrSpecific tx s
  | .readVin tx => Sys2Proof.Machine.execReadVin tx s
  | .readVout tx => Sys2Proof.Machine.execReadVout tx s
  | .readIout tx => Sys2Proof.Machine.execReadIout tx s
  | .readTemperature1 tx => Sys2Proof.Machine.execReadTemperature1 tx s
  | .pmbusRevision tx => Sys2Proof.Machine.execPmbusRevision tx s
  | .mfrRegAddr tx => Sys2Proof.Machine.execMfrRegAddr tx s
  | .mfrRegData tx => Sys2Proof.Machine.execMfrRegData tx s
  | .mfrRegDataInc tx => Sys2Proof.Machine.execMfrRegDataInc tx s
  | .mfrBitCount tx => Sys2Proof.Machine.execMfrBitCount tx s
  | .mfrBitSel tx => Sys2Proof.Machine.execMfrBitSel tx s
  | .mfrBitRead tx => Sys2Proof.Machine.execMfrBitRead tx s
  | .mfrSlogCount tx => Sys2Proof.Machine.execMfrSlogCount tx s
  | .mfrSlogSel tx => Sys2Proof.Machine.execMfrSlogSel tx s
  | .mfrSlogRead tx => Sys2Proof.Machine.execMfrSlogRead tx s
  | .mfrCalCmd tx => Sys2Proof.Machine.execMfrCalCmd tx s
  | .mfrCalStat tx => Sys2Proof.Machine.execMfrCalStat tx s
  | .alertResponse => Sys2Proof.Machine.execAlertResponse s
  | .smbusTimeout => Sys2Proof.Machine.execSmbusTimeout s
  | .avsVoltage req => Sys2Proof.Machine.execAvsVoltage req s
  | .avsVoutTransitionRate req => Sys2Proof.Machine.execAvsVoutTransitionRate req s
  | .avsCurrentRead req => Sys2Proof.Machine.execAvsCurrentRead req s
  | .avsTemperatureRead req => Sys2Proof.Machine.execAvsTemperatureRead req s
  | .avsResetVoltage req => Sys2Proof.Machine.execAvsResetVoltage req s
  | .avsPowerMode req => Sys2Proof.Machine.execAvsPowerMode req s
  | .avsStatus req => Sys2Proof.Machine.execAvsStatus req s
  | .avsWriteHold req type => Sys2Proof.Machine.execAvsWriteHold req type s
  | .registerWrite src addr value => Sys2Proof.Machine.execRegisterWrite src addr value s
  | .nvmOpDone verifyOk => Sys2Proof.Machine.execNvmOpDone verifyOk s
  | .resetRelease straps => Sys2Proof.Machine.execResetRelease straps s
  | .unsupportedCommand code => Sys2Proof.Machine.execUnsupportedCommand code s
  | .avsUnsupportedType req type => Sys2Proof.Machine.execAvsUnsupportedType req type s
  | .avsIdleResync port => Sys2Proof.Machine.execAvsIdleResync port s
  | .unknownTypeFrame rx => Sys2Proof.Machine.execUnknownTypeFrame rx s
  | .pairxWindowSkip => Sys2Proof.Machine.execPairxWindowSkip s
  | .discoverTimeout => Sys2Proof.Machine.execDiscoverTimeout s
  | .otpProgramDone => Sys2Proof.Machine.execOtpProgramDone s
  | .vaonWarningRise => Sys2Proof.Machine.execVaonWarningRise s

end Sys2Proof.Machine
end

