-- ==== Sys2Proof/Machine/Idle.lean ====
section
/-!
DEFINITION. What time does to the block when no command waits.
-/

namespace Sys2Proof.Machine

/-- One tick of the nominal PWM clock: TB advances by a tick, less or more the part that the node steers by (R633). -/
def Part.tbTick (p : Part) : Part :=
  let acc := ((p.tbFrac : Int) + 1000000 + p.hal.steer).toNat
  { p with tb := p.tb + acc / 1000000, tbFrac := acc % 1000000 }

/-- One idle tick (assumption log 9): TB advances while the PWM clock runs (R10, R23), by a tick as the node steers it (R633);
in PARKED and in the WAKE of a resume the AON period count advances by one period instead (R24). -/
def Part.idle (p : Part) : Part :=
  if p.pwmRuns then p.tbTick
  else
    match p.dev with
    | .parked | .wakeResume => { p with aonCount := p.aonCount + 1 }
    | _ => p

end Sys2Proof.Machine
end

