-- ==== Sys2Proof/Machine/Step.lean ====
section
/-!
DEFINITION. One step of the block: the command at the front of its queue, or one idle tick on an empty queue.
-/

namespace Sys2Proof.Machine

/-- The block's step: run the command at the front of the queue on the state with the queue's rest; on an empty queue
let time go on by one tick (DESIGN CHOICE, assumption log 9). -/
def step (s : State) : Host.Outcome State Fault Refusal :=
  match s.pending with
  | c :: rest => exec c { s with pending := rest }
  | [] => .next { s with part := s.part.idle }

/-- A state with the command that a word spells put at the front of its queue; no word spells one. -/
def State.withFetchWord (s : State) (nbits w : Nat) : State :=
  match decodeTableWord nbits w with
  | some c => { s with pending := c :: s.pending }
  | none => s

end Sys2Proof.Machine
end

