-- ==== Sys2Proof/Machine/Outputs.lean ====
section
/-!
DEFINITION. What the balls show in a state: the priority of R20 on the PWM outputs, STGEN (R309), SSEL (R649), FAULT_N,
SAFE_N and SERVICE_N (R45, R46), PG and THR (R381), SALERT_N (R702), the intent ports' and the flash's commands (R81 to R86).
-/

namespace Sys2Proof.Machine

open Reg

/-! PWM outputs. -/

/-- The level of a PWM output. -/
inductive PwmLevel where
  | highZ | tri | low | high
deriving DecidableEq, Repr

/-- Whether IO-domain outputs have their supply (R48). -/
def Part.ioPowered (p : Part) : Bool := p.supplies.vaonPor && p.supplies.vdd33

/-- The AON force (row 1 of R20): reset, HOTLATCH and TEST; every other cause of the row leads to OFF. -/
def Part.aonForce (p : Part) : Bool := p.dev == .off || p.dev == .hotlatch || p.dev == .test

/-- The engine's pattern at an instant in 25 ps steps (R304, R429, R798; row 7 and row 9 of R20). -/
def Part.pattern (p : Part) (q t : Nat) : PwmLevel :=
  let x := p.ph q
  if !x.offered then .tri
  else if x.pulse && decide (x.startSt ≤ t) && decide (t < x.startSt + x.onSt) then .high
  else if x.zc then .tri
  else .low

/-- The pulse pattern of the parked-burst generator at an instant (R389; row 8 of R20): high, low, tri-state for the rest of
the pulse's period; a truncated pulse has gone to its off-time level (row 7 of R20, R429). -/
def Part.pbLevel (p : Part) (n q t : Nat) : PwmLevel :=
  match p.pbPulse n q t with
  | none => .tri
  | some (i, rise) =>
    let cut := match (p.rail n).pbTrunc with | some (j, at_) => j == i && decide (at_ ≤ t) | none => false
    if t < rise + p.pbOn n && !cut then .high
    else if t < rise + p.pbOn n + p.get RAIL_PB.PB_TLOW n * 10000 then .low
    else .tri

/-- The level of the output of phase `q` at an instant in 25 ps steps, of `clockSt` (R20, R48). -/
def Part.pwm (p : Part) (q t : Nat) : PwmLevel :=
  if !p.ioPowered then .highZ
  else if p.aonForce then .tri
  else if p.dev == .safe then .tri
  else if p.shadowing then .tri
  else if p.pst q == .retired || p.pst q == .unassigned then .tri
  else
    match p.railOf q with
    | none => .tri
    | some n =>
      match (p.rail n).safeAct with
      | some low => if low then .low else .tri
      | none =>
        if !(p.rst n).switching || p.pst q == .shed then .tri
        else if (p.rail n).pbOwns then p.pbLevel n q t
        else p.pattern q t

/-! The TELLTALE bias. -/

/-- Whether the TELLTALE bias flows on the sense lines of rail `n` at an instant of `clockSt` (R147): in PARKED and in WAKE of
a resume on parked-burst rails alone, in the active windows of their sampled monitors; in every other state always. -/
def Part.telltaleBias (p : Part) (n t : Nat) : Bool :=
  if p.dev == .parked || p.dev == .wakeResume then
    let m := p.get RAIL_PBMON.PB_MON n
    let c := p.mon m
    p.flag RAIL_CFG.PB_RAIL n && c.runs == 2 && decide (c.begSt ≤ t) && decide ((t - c.begSt) % p.winLen m < 80000)
  else true

/-! Open-drain and push-pull outputs. -/

/-- A two-level output that can be high impedance. -/
inductive PinLevel where
  | highZ | low | high
deriving DecidableEq, Repr

/-- An open-drain output: low when asserted. -/
def openDrain (asserted : Bool) : PinLevel := if asserted then .low else .highZ

/-- FAULT_N (R45). -/
def Part.faultPin (p : Part) : PinLevel :=
  let held := p.dev == .off && (p.flag SYS_RESET.BIST_HOLD || p.flag SYS_RESET.BIST_LOCK || p.lossHold)
  openDrain (p.supplies.vaonPor && (p.dev == .safe || p.dev == .hotlatch || held ||
    (List.range 8).any fun n => p.rst n == .hiccup || p.rst n == .latched))

/-- SAFE_N (R46). -/
def Part.safePin (p : Part) : PinLevel := openDrain (p.dev == .safe)

/-- SERVICE_N (R46). -/
def Part.servicePin (p : Part) : PinLevel := openDrain (p.get SVC_STATUS.CAUSE != 0)

/-- PGn (R376, R381): low, or released. -/
def Part.pgPin (p : Part) (n : Nat) : PinLevel := openDrain (!p.shadowing && !p.flag RAIL_STATUS.PG n)

/-- THRk_N (R380, R381). -/
def Part.thrPin (p : Part) (k : Nat) : PinLevel := openDrain (p.ioPowered && !p.shadowing && p.bit THR_STAT.THR k)

/-- SALERT_N (R702). -/
def Part.salertPin (p : Part) : PinLevel := openDrain (p.ioPowered && p.salert)

/-- STGENk (R48, R60, R309). -/
def Part.stgenPin (p : Part) (k : Nat) : PinLevel :=
  if !p.ioPowered then .highZ else if !p.aonForce && p.stgen k then .high else .low

/-- SSELk (R48, R649): driven by a MIZZEN in READY, RUN and SAFE alone. -/
def Part.sselPin (p : Part) : PinLevel :=
  if !p.ioPowered || p.role != .mizzen || !p.hostActive then .highZ else if p.owner then .high else .low

/-- SCL held low by the part (R29). -/
def Part.sclPin (p : Part) : PinLevel := openDrain (p.ioPowered && p.sclHold)

/-! Ports between their transactions (R35, R48): what a port drives in a transaction is that transaction's answer. -/

/-- SDA: released outside an answer of the part (R35). -/
def Part.sdaPin (_p : Part) : PinLevel := .highZ

/-- QCLK: low between the reads of the flash, in SPI mode 0 (R35, R48). -/
def Part.qclkPin (p : Part) : PinLevel := if p.ioPowered then .low else .highZ

/-- QCS_N: high between the reads of the flash (R35, R48). -/
def Part.qcsPin (p : Part) : PinLevel := if p.ioPowered then .high else .highZ

/-- QIO0 to QIO3: inputs outside a read of the flash (R35). -/
def Part.qioPin (_p : Part) (_k : Nat) : PinLevel := .highZ

/-- AVSn_SDATA (R35, R48, R711): bit `k` of the response in the 32 clocks that follow a frame, where the port made one. -/
def Part.sdataPin (p : Part) (port k : Nat) : PinLevel :=
  if !p.ioPowered || !p.hostActive || !p.flag AVS_CFG.EN port then .highZ
  else
    match nth p.avs.reply port none with
    | some w => if bitOf w (31 - k) = 1 then .high else .low
    | none => .highZ

/-- TDO: driven while a data register is shifted, here bit `k` of REGACC (R35, R48, R588); high impedance else. -/
def Part.tdoPin (p : Part) (shift : Option Nat) : PinLevel :=
  match shift with
  | some k => if !p.ioPowered then .highZ else if bitOf p.test.jtagData k = 1 then .high else .low
  | none => .highZ

end Sys2Proof.Machine
end

