-- ==== Sys2Proof/Safety.lean ====
section
/-!
DEFINITION. What the statements call a good state, and what an observer of the part can see of a step.
-/

namespace Sys2Proof.Machine

/-- Addresses of the NVM array strictly rising from a bound, inside the 64 KB array (R735), no entry equal to the value
that an unlisted cell reads as (0xFF, erased). -/
def nvmWfFrom : Nat → List Host.Cell → Bool
  | _, [] => true
  | lo, (a, b) :: r => decide (lo ≤ a) && decide (a < 65536) && decide (b ≠ 0xFF#8) && nvmWfFrom (a + 1) r

/-- The canonical form of the NVM array. -/
def Memory.wf (m : List Host.Cell) : Bool := nvmWfFrom 0 m

/-- The good states: the array is in its canonical form. -/
def State.Good (s : State) : Prop := Memory.wf s.array = true

/-- A state with another part: the queue, the NVM array and the OTP state stay. -/
abbrev State.withPart (s : State) (p : Part) : State := { s with part := p }

open Reg

/-- A received frame of a type that the part takes as a new broadcast (R625): its port up, its CRC right, no copy seen. -/
def Part.takesBcast (p : Part) (r : HalRx) (type : Nat) : Bool :=
  p.hostActive && p.portIsUp r.port && r.crcOk && frameBcast r.frame && !p.seenCopy { r.frame with type := type }

/-- A received frame that is addressed to this node (R624): its port up, its CRC right. -/
def Part.takesOwn (p : Part) (r : HalRx) : Bool :=
  p.hostActive && p.portIsUp r.port && r.crcOk && !frameBcast r.frame && nodeOf r.frame.dest == p.nodeId

/-- A request of HAL_OPREQ over PMBus is not turned away at once (R670, R671). -/
def Part.opFree (p : Part) : Bool := p.pmbActive && !p.flag HAL_OPSTAT.BUSY

/-- What a trigger of sequence `k` does while both converters work on (R483 to R486): `p` before it, `q` after it. A pending
sequence drops it; so does a running one, unless its policy holds one trigger and it holds none; another one becomes pending; a
sequence with EN = 0 ignores it. -/
def Part.triggered (p q : Part) (k : Nat) : Prop :=
  let dropped := q.flag SEQ_STAT.OVR_EV k = true ∧ q.get SEQ_STAT.OVR_CNT k = (p.bump SEQ_STAT.OVR_CNT k).get SEQ_STAT.OVR_CNT k ∧
    (q.seqC k).lostNext = true ∧ q.get SEQ_STAT.HELD k = p.get SEQ_STAT.HELD k
  q.get SEQ_STAT.RUNNING k = p.get SEQ_STAT.RUNNING k ∧
  if p.flag SEQ_CFG.EN k = false then q.get SEQ_STAT.PENDING k = p.get SEQ_STAT.PENDING k
  else if p.flag SEQ_STAT.PENDING k = true then q.flag SEQ_STAT.PENDING k = true ∧ dropped
  else if p.flag SEQ_STAT.RUNNING k = true then q.flag SEQ_STAT.PENDING k = false ∧
    (if p.flag SEQ_CFG.POLICY k = true ∧ p.flag SEQ_STAT.HELD k = false then q.flag SEQ_STAT.HELD k = true ∧
      q.get SEQ_STAT.OVR_EV k = p.get SEQ_STAT.OVR_EV k else dropped)
  else q.flag SEQ_STAT.PENDING k = true

/-- The tables of PMBus commands (R693, R703): command, code, bytes of its data, whether it is read, whether it is written. -/
def pmbusTable : List ((PmbTx → Instr) × Nat × Nat × Bool × Bool) :=
  [(.page, 0x00, 1, true, true), (.operation, 0x01, 1, true, true), (.onOffConfig, 0x02, 1, true, true),
    (.clearFaults, 0x03, 0, false, true), (.phase, 0x04, 1, true, true), (.capability, 0x19, 1, true, false),
    (.voutMode, 0x20, 1, true, false), (.voutCommand, 0x21, 2, true, true), (.voutMax, 0x24, 2, true, true),
    (.voutMarginHigh, 0x25, 2, true, true), (.voutMarginLow, 0x26, 2, true, true)] ++
  [(.ioutOcFaultLimit, 0x46, 2, true, true), (.ioutOcFaultResponse, 0x47, 1, true, false), (.otFaultLimit, 0x4F, 2, true, false),
    (.otFaultResponse, 0x50, 1, true, false), (.otWarnLimit, 0x51, 2, true, true), (.tonDelay, 0x60, 2, true, true),
    (.tonRise, 0x61, 2, true, true), (.toffDelay, 0x64, 2, true, true), (.toffFall, 0x65, 2, true, true)] ++
  [(.statusByte, 0x78, 1, true, false), (.statusWord, 0x79, 2, true, false), (.statusVout, 0x7A, 1, true, true),
    (.statusIout, 0x7B, 1, true, true), (.statusInput, 0x7C, 1, true, true), (.statusTemperature, 0x7D, 1, true, true),
    (.statusCml, 0x7E, 1, true, true), (.statusMfrSpecific, 0x80, 1, true, true), (.readVin, 0x88, 2, true, false),
    (.readVout, 0x8B, 2, true, false), (.readIout, 0x8C, 2, true, false), (.readTemperature1, 0x8D, 2, true, false),
    (.pmbusRevision, 0x98, 1, true, false)] ++
  [(.mfrRegAddr, 0xD0, 4, true, true), (.mfrRegData, 0xD1, 4, true, true), (.mfrRegDataInc, 0xD2, 4, true, true),
    (.mfrBitCount, 0xD4, 2, true, false), (.mfrBitSel, 0xD5, 2, true, true), (.mfrBitRead, 0xD6, 32, true, false),
    (.mfrSlogCount, 0xD8, 2, true, false), (.mfrSlogSel, 0xD9, 2, true, true), (.mfrSlogRead, 0xDA, 16, true, false),
    (.mfrCalCmd, 0xDC, 4, false, true), (.mfrCalStat, 0xDD, 2, true, false)]

/-- The frames of an AVSBus port with their CmdDataType (R716, R717): a hold and an unsupported type name theirs. -/
def avsFrames (ty : Nat) : List ((AvsReq → Instr) × Nat) :=
  [(.avsVoltage, 0), (.avsVoutTransitionRate, 1), (.avsCurrentRead, 2), (.avsTemperatureRead, 3), (.avsResetVoltage, 4),
    (.avsPowerMode, 5), (.avsStatus, 14), (fun r => .avsWriteHold r ty, ty), (fun r => .avsUnsupportedType r ty, ty)]

/-! Families of commands with one frame. -/

/-- The commands of the housekeeping converters that act inside their block: triggers, requests, calibration, readback, the
reads of the result queue. -/
def hkCommand : Instr → Bool
  | .softwareTrigger _ | .pwmTrigger _ | .tbTrigger _ | .seqTbhiWrite _ _ | .seqDisable _ | .hkQloRead | .hkQhiRead
  | .calAbort | .captureEnd _ _ | .dacReadback | .injectedRequest _ | .calZero _ _ | .calFull _ _ | .calBindWrite _ _ => true
  | _ => false

/-- The commands of the ring and of the pair that act inside their block. -/
def ringCommand : Instr → Bool
  | .syncSend | .delayExchange _ | .delayReq _ | .delayResp _ | .discoverSend | .faultFrame _ | .barToken _
  | .barRelease _ | .barrierSlotFree _ | .barrierTimeout _ | .snapSched _ | .snapLatch | .snapCollect _ | .snapResp _
  | .collectTimeout | .barrierArrive _ _ | .barrierLaunch _ _ | .snapshotSchedule _ _ | .snapshotCollect _ _
  | .resetNode _ _ | .unknownTypeFrame _ | .halTbloRead | .tbLockTimeout | .hbSend | .pairxSend | .pairxWindowSkip
  | .ringBrokenClear => true
  | _ => false

/-- The commands of the ring, of the pair and of the in-field tests that can raise a service cause or a record. -/
def causeCommand : Instr → Bool
  | .portUp _ | .portDown _ _ | .discover _ | .discoverTimeout | .halLoopback _ _ | .testLate _ | .ecInjection _ _ _
  | .hb _ | .hbTimeout | .pairx _ => true
  | _ => false

/-- The PMBus commands that act inside the port: reads, selections, the status of R700, the limits that only the image sets. -/
def pmbusCommand : Instr → Bool
  | .page _ | .clearFaults _ | .phase _ | .capability _ | .voutMode _ | .ioutOcFaultResponse _ | .otFaultLimit _
  | .otFaultResponse _ | .statusByte _ | .statusWord _ | .statusVout _ | .statusIout _ | .statusInput _
  | .statusTemperature _ | .statusCml _ | .statusMfrSpecific _ | .readVin _ | .readVout _ | .readIout _
  | .readTemperature1 _ | .pmbusRevision _ | .mfrRegAddr _ | .mfrBitCount _ | .mfrBitSel _ | .mfrBitRead _
  | .mfrSlogCount _ | .mfrSlogSel _ | .mfrSlogRead _ | .alertResponse | .smbusTimeout | .unsupportedCommand _ => true
  | _ => false

/-- The frames of an AVSBus port. -/
def avsCommand : Instr → Bool
  | .avsVoltage _ | .avsVoutTransitionRate _ | .avsCurrentRead _ | .avsTemperatureRead _ | .avsResetVoltage _
  | .avsPowerMode _ | .avsStatus _ | .avsWriteHold _ _ | .avsUnsupportedType _ _ | .avsIdleResync _ => true
  | _ => false

/-- The commands of the phase fabric and of the rails that no protection follows. -/
def fabricCommand : Instr → Bool
  | .phaseSample _ _ | .periodStart _ | .phasePeriodEnd _ | .bookkeepingPass _ | .reefAdd _ | .reefShed _
  | .healthUpdate | .disarm _ | .prepDone _ | .intentMissed _ | .prebiasStep _ _ | .pgRelease _ | .toffDelayEnd _
  | .burstEntry _ | .burstTrip _ | .retryClear _ | .ovLowEnd _ | .delayOnEnd _ | .hiccupRetry _ | .fastScTrip _ _ _
  | .telltaleFilter _ _ _ | .sfltClear _ => true
  | _ => false

/-- The commands of thermal sensing that stop no rail. -/
def thermCommand : Instr → Bool
  | .thermSample _ _ | .thermCheck _ _ | .sensorBroken _ | .thermalLevelExit _ _ | .thrHoldEnd _ => true
  | _ => false

/-- The commands of the control engine that stop no rail. -/
def engineCommand : Instr → Bool
  | .load16 _ _ _ | .coefficientSwap _ _ _ | .timingMove _ _ _ | .reserveSpare _ | .releaseReservation _ _
  | .reservationExpiry _ | .rotationDue | .rotationStart => true
  | _ => false

/-- The commands of SYS_CTRL, of debug access and of the cold start that leave the device state. -/
def systemCommand : Instr → Bool
  | .requestChallenge _ | .closeSession _ | .sessionTimeout | .keyRevokeReq _ _ _ | .park _ | .parkTimeout
  | .refRetry _ | .slotCheck _ => true
  | _ => false

/-- The commands of the power stage: samples, commits, protection, pins, monitors, the end of an NVM operation. -/
def powerCommand : Instr → Bool
  | .controlSample _ _ _ _ | .vinsSample _ | .vinFault _ | .digestCheck _ _ | .overdue | .sliceTestEnd _ _ | .commit _
  | .lipStrobe _ _ | .phaseSc _ | .phaseOpen _ | .phaseSenseFault _ _ | .phaseRetire _ | .healthForecast _ _
  | .enDebounce _ _ | .controlDebounce _ | .offWaitExpiry _ | .monSample _ _ | .pbBurstEnd _ | .ovEc _ | .uvEc _
  | .shortAtStart _ | .frozen _ | .currentHoldEnd _ | .stageFault _ | .monCrossing _ _ | .ecInjFail _ | .phInjFail _
  | .sync _ | .selfFaultTimeout | .nvmOpDone _ | .exchangeGrant => true
  | _ => false

/-- The registers at addresses from `lo` to below `hi` hold in `q` what they hold in `p`. -/
def Part.keeps (p q : Part) (lo hi : Nat) : Prop := ∀ k, lo * 32 ≤ k → k < hi * 32 → q.regs.read k = p.regs.read k

end Sys2Proof.Machine
end

