-- ==== Sys2Proof/Certificates/Slice0/Obligations.lean ====
section
/-!
DEFINITION. The statements about the machine, for the provers. Each names the rules of the spec that it formalises; a
statement in several clauses covers several commands of one shape. An answer `∃ t, exec c s = .next t ∧ …` says that the
command completes, and what its next state holds.
-/

section

open Sys2Proof Sys2Proof.Machine Sys2Proof.Machine.Reg

/-! The block as a machine. -/

/-- One step runs the command at the front of the queue on the state that keeps the queue's rest. -/
def Obligations.StepRunsFrontCommand : Prop :=
  ∀ (c : Instr) (rest : List Instr) (s : State), s.pending = c :: rest → step s = exec c { s with pending := rest }

/-- The model's choice (assumption log 9; the tick itself is R10, R23, R24): a step on an empty queue is one tick. It moves TB,
with the millionths of a tick that steering has gained (R633), by a tick and the steering value while the PWM clock runs, the AON
period count by one in PARKED and in the WAKE of a resume, and nothing else of these. -/
def Obligations.IdleTick : Prop :=
  ∀ s : State, s.pending = [] →
    ∃ t, step s = .next t ∧ t.pending = [] ∧ t.array = s.array ∧ t.otp = s.otp ∧ t.part.regs = s.part.regs ∧
      t.part.dev = s.part.dev ∧
      (s.part.pwmRuns = true → 0 ≤ 1000000 + s.part.hal.steer →
        (t.part.tb * 1000000 + t.part.tbFrac : Int) = s.part.tb * 1000000 + s.part.tbFrac + 1000000 + s.part.hal.steer) ∧
      (s.part.pwmRuns = false → t.part.tb = s.part.tb ∧ t.part.tbFrac = s.part.tbFrac) ∧
      t.part.aonCount = s.part.aonCount + b2n (s.part.dev == .parked || s.part.dev == .wakeResume)

/-- Every command completes, whatever the state and the operands: exec answers a next state. No command changes the queue of
the commands that wait behind it. The NVM array changes at the end and at the abort of an NVM operation alone: at
NVM_OP_DONE (R737, R738), at a power cycle (R754), at a supply loss (R754), and at HOTLATCH_CLOCK_STOP (R553). -/
def Obligations.QueueAndArrayUntouched : Prop :=
  ∀ (c : Instr) (s : State), ∃ t, exec c s = .next t ∧ t.pending = s.pending ∧
    (t.array ≠ s.array →
      (∃ ok, c = .nvmOpDone ok) ∨ c = .powerCycle ∨ (∃ a b d, c = .supplyLoss a b d) ∨ c = .hotlatchClockStop)

/-- What the families of commands leave alone (R5, R686: a command changes what its rules name). Each command of a family answers
a next state from every state, and that state is the state before it but for the parts that the clause of its family names; among the
registers, those at the addresses that the clause gives stay. -/
def Obligations.FamilyFrames : Prop :=
  ∀ (c : Instr) (s : State), ∃ t, exec c s = .next t ∧
    (hkCommand c = true → t = s.withPart { s.part with
      regs := t.part.regs, tb := t.part.tb, sub := t.part.sub, refusals := t.part.refusals, hk := t.part.hk } ∧
      s.part.keeps t.part 0 0x70000) ∧
    (ringCommand c = true → t = s.withPart { s.part with
      regs := t.part.regs, tb := t.part.tb, sub := t.part.sub, free := t.part.free, refusals := t.part.refusals
      hal := t.part.hal, pair := t.part.pair } ∧ s.part.keeps t.part 0 0xA0000) ∧
    (causeCommand c = true → t = s.withPart { s.part with
      regs := t.part.regs, tb := t.part.tb, sub := t.part.sub, free := t.part.free, rails := t.part.rails
      slices := t.part.slices, eng := t.part.eng, nvm := t.part.nvm, hal := t.part.hal, pair := t.part.pair
      pmb := t.part.pmb, test := t.part.test } ∧ s.part.keeps t.part 0 0x20000) ∧
    (pmbusCommand c = true → t = s.withPart { s.part with
      regs := t.part.regs, refusals := t.part.refusals, parkReq := t.part.parkReq, pmbNack := t.part.pmbNack
      pmb := t.part.pmb } ∧ s.part.keeps t.part 8 0x90000 ∧ s.part.keeps t.part 0xA0000 0xC0000) ∧
    (avsCommand c = true → t = s.withPart { s.part with
      regs := t.part.regs, parkReq := t.part.parkReq, rails := t.part.rails, pmb := t.part.pmb, avs := t.part.avs } ∧
      s.part.keeps t.part 8 0x10000) ∧
    (fabricCommand c = true → t = s.withPart { s.part with
      regs := t.part.regs, tb := t.part.tb, sub := t.part.sub, free := t.part.free, healthAt := t.part.healthAt
      rails := t.part.rails, phases := t.part.phases, slices := t.part.slices, mons := t.part.mons } ∧
      s.part.keeps t.part 0 0x10000) ∧
    (thermCommand c = true → t = s.withPart { s.part with
      regs := t.part.regs, tb := t.part.tb, sub := t.part.sub, thermAt := t.part.thermAt, thrMask := t.part.thrMask
      thrHold := t.part.thrHold, feBad := t.part.feBad, therm := t.part.therm, nvm := t.part.nvm } ∧
      s.part.keeps t.part 0 0x12000) ∧
    (engineCommand c = true → t = s.withPart { s.part with
      regs := t.part.regs, tb := t.part.tb, sub := t.part.sub, refusals := t.part.refusals, slices := t.part.slices
      eng := t.part.eng } ∧ s.part.keeps t.part 0 0x20000) ∧
    (systemCommand c = true → t = s.withPart { s.part with
      regs := t.part.regs, tb := t.part.tb, sub := t.part.sub, free := t.part.free, refusals := t.part.refusals
      otpJob := t.part.otpJob, load := t.part.load, parkReq := t.part.parkReq, parkAt := t.part.parkAt
      nvm := t.part.nvm, test := t.part.test })

/-- What the commands of the power stage leave alone (R412, R417): each of them answers a next state from every state, and
whatever rail it stops, it touches no supply, no latch of a hold, no OTP programming, no image, no park context, no thermal sensor and
no AVSBus port, and no register of the SYS block behind SYS_STATE; TB does not fall. -/
def Obligations.PowerFrames : Prop :=
  ∀ (c : Instr) (s : State), powerCommand c = true → ∃ t, exec c s = .next t ∧
    t.otp = s.otp ∧ t.part.supplies = s.part.supplies ∧ t.part.hotLatch = s.part.hotLatch ∧
    t.part.pairHold = s.part.pairHold ∧ t.part.lossHold = s.part.lossHold ∧ t.part.refusals = s.part.refusals ∧
    t.part.otpJob = s.part.otpJob ∧ t.part.load = s.part.load ∧ t.part.parkCtx = s.part.parkCtx ∧
    t.part.parkAt = s.part.parkAt ∧ t.part.sclHold = s.part.sclHold ∧ t.part.clocksStopped = s.part.clocksStopped ∧
    t.part.feBad = s.part.feBad ∧ t.part.therm = s.part.therm ∧ t.part.avs = s.part.avs ∧ t.part.test = s.part.test ∧
    s.part.tb ≤ t.part.tb ∧ s.part.keeps t.part 8 0x10000

/-- Headline: every step keeps the NVM array in its canonical form, inside its 64 KB (R735), whatever the state holds
elsewhere. -/
def Obligations.ArrayStaysCanonical : Prop :=
  ∀ s t : State, s.Good → step s = .next t → t.Good

/-- Headline: no step lowers the OTP rollback count (R100) or undoes a key revocation (R56, R102). -/
def Obligations.OtpOnlyRises : Prop :=
  ∀ s t : State, step s = .next t →
    s.otp.count ≤ t.otp.count ∧ (s.otp.revoked0 = true → t.otp.revoked0 = true) ∧
      (s.otp.revoked1 = true → t.otp.revoked1 = true)

/-- After a power cycle the part is OFF, nothing waits, and every register field reads its reset value; SYS_ID.ID reads
0x6408 (R114), the gain trims 0x8000 (R168, R172), HOST_PMBSTAT.PHASE 0xFF (R726). That a field
which the image, the straps or the load set reads 0 before is the model's choice (assumption log 10). The state after a power cycle is
good. -/
def Obligations.ResetValues : Prop :=
  (State.reset.part.dev = .off ∧ State.reset.pending = [] ∧
    (∀ (f : Fld) (i j : Nat), State.reset.part.get f i j = regReset (f.at i j)) ∧
    State.reset.part.get SYS_ID.ID = 0x6408 ∧ (∀ n : Rail, State.reset.part.get SEN_CAL.GTRIM n = 0x8000) ∧
    (∀ q : Phase, State.reset.part.get PCS_CAL.GTRIM q = 0x8000) ∧ State.reset.part.get HOST_PMBSTAT.PHASE = 0xFF) ∧
  (State.reset.Good)

/-! Supplies and resets. -/

/-- SUPPLIES_GOOD and RESET_RELEASE (R58, R69, R655). In OFF with the four supplies good, no HOTLATCH latch, no PAIR_HOLD and no
BIST_HOLD the part enters a cold WAKE, where it senses ROLE, XIN and ADDR, and no other register changes; with PAIR_HOLD or BIST_HOLD
set it stays in OFF, and with the HOTLATCH latch set it enters HOTLATCH, and no register changes. In another state neither changes the
device state or a register; nor does RESET_RELEASE without the supplies. -/
def Obligations.ReleaseStartsWake : Prop :=
  ∀ (s : State) (x : Straps) (c : Instr), (c = .suppliesGood x ∨ c = .resetRelease x) →
    (s.part.dev = .off → (c = .suppliesGood x ∨ s.part.supplies.good = true) →
      (s.part.hotLatch = false → s.part.pairHold = false → s.part.flag SYS_RESET.BIST_HOLD = false →
        ∃ t, exec c s = .next t ∧ t.part.dev = .wakeCold ∧ t.part.supplies.good = true ∧
          t.part.get SYS_STATE.ROLE = 2 * b2n x.role1 + b2n x.role0 ∧
          t.part.flag SYS_STATE.REF_SRC = decide (x.xinUv < 200000) ∧
          t.part.flag SYS_STATE.ADDR_NONE = decide (640000 ≤ x.addrUv) ∧
          (x.addrUv < 640000 → t.part.get SYS_STATE.ADDR_CODE = x.addrUv / 40000) ∧
          (∀ (f : Fld) (i j : Nat), f.at i j ∉ [SYS_STATE.ROLE.at 0 0, SYS_STATE.REF_SRC.at 0 0, SYS_STATE.ADDR_NONE.at 0 0,
            SYS_STATE.ADDR_CODE.at 0 0] → t.part.get f i j = s.part.get f i j) ∧
          t.array = s.array ∧ t.otp = s.otp ∧ t.part.tb = s.part.tb) ∧
      (s.part.hotLatch = false → (s.part.pairHold = true ∨ s.part.flag SYS_RESET.BIST_HOLD = true) →
        ∃ t, exec c s = .next t ∧ t.part.dev = .off ∧ t.part.supplies.good = true ∧ t.part.regs = s.part.regs) ∧
      (s.part.hotLatch = true →
        ∃ t, exec c s = .next t ∧ t.part.dev = .hotlatch ∧ t.part.clocksStopped = true ∧ t.part.regs = s.part.regs)) ∧
    (s.part.dev ≠ .off → ∃ t, exec c s = .next t ∧ t.part.dev = s.part.dev ∧ t.part.regs = s.part.regs) ∧
    ((s.part.dev ≠ .off ∨ s.part.supplies.good = false) → exec (.resetRelease x) s = .next s)

/-- The supply events. POWER_CYCLE clears every AON value (R56): the part is OFF with every register at its reset value, and
no OTP count is lowered. SUPPLY_LOSS of supplies that were up, from any state but HOTLATCH with VAON above its POR threshold, takes
them down, sets and counts the flag of each, keeps FIRST_LOSS where one stood and sets it else, VDD08 before VDDA18 before VDD33 (R60,
R65), and resets with LAST_RESET = 2 each state that can be reset (R69); TEST stays TEST. In HOTLATCH or below the POR threshold it
leaves the registers and the device state; of supplies that were down it changes nothing. VAON_LOW below a warning that stood sets and
counts its flag and FIRST_LOSS, and enters SAFE with cause 2 from READY or RUN with VAON_LOW_SAFE (R60, R68, R103), else keeps the device
state; without the warning it changes nothing. VAON_WARNING_RISE sets the warning level while VAON is above the POR threshold (R65), and
changes nothing else. -/
def Obligations.SupplyEvents : Prop :=
  ∀ s : State,
    (∃ t, exec .powerCycle s = .next t ∧ t.part.dev = .off ∧ (∀ f i j, t.part.get f i j = regReset (f.at i j)) ∧
      t.part.hotLatch = false ∧ t.part.pairHold = false ∧ t.part.lossHold = false ∧ t.part.parkCtx = none ∧
      t.part.supplies.vaonPor = false ∧ s.otp.count ≤ t.otp.count) ∧
    (∀ a b d x y z : Bool, x = (a && s.part.supplies.vdd33) → y = (b && s.part.supplies.vdda18) →
      z = (d && s.part.supplies.vdd08) →
      ((x || y || z) = true → s.part.dev ≠ .hotlatch → s.part.supplies.vaonPor = true →
        ∃ t, exec (.supplyLoss a b d) s = .next t ∧
          t.part.supplies.vdd33 = (s.part.supplies.vdd33 && !a) ∧ t.part.supplies.vdda18 = (s.part.supplies.vdda18 && !b) ∧
          t.part.supplies.vdd08 = (s.part.supplies.vdd08 && !d) ∧
          t.part.flag PWR_EVENT.VDD33_LOST = (x || s.part.flag PWR_EVENT.VDD33_LOST) ∧
          t.part.flag PWR_EVENT.VDDA18_LOST = (y || s.part.flag PWR_EVENT.VDDA18_LOST) ∧
          t.part.flag PWR_EVENT.VDD08_LOST = (z || s.part.flag PWR_EVENT.VDD08_LOST) ∧
          (x = true → t.part.get PWR_EVCNT.VDD33_CNT =
            satInc (2 ^ PWR_EVCNT.VDD33_CNT.width - 1) (s.part.get PWR_EVCNT.VDD33_CNT) % 2 ^ PWR_EVCNT.VDD33_CNT.width) ∧
          t.part.get PWR_STATUS.FIRST_LOSS = (if s.part.get PWR_STATUS.FIRST_LOSS = 0 then
            (if z = true then 4 else if y = true then 3 else 2) else s.part.get PWR_STATUS.FIRST_LOSS) ∧
          (s.part.resettable = true → t.part.dev = .off ∧ t.part.get SYS_RESET.LAST_RESET = 2 ∧ t.part.lossHold = true) ∧
          (s.part.dev = .test → t.part.dev = .test) ∧ (x = false → z = false → t.array = s.array)) ∧
      ((x || y || z) = true → (s.part.dev = .hotlatch ∨ s.part.supplies.vaonPor = false) →
        ∃ t, exec (.supplyLoss a b d) s = .next t ∧ t.part.regs = s.part.regs ∧ t.part.dev = s.part.dev ∧
          t.part.supplies.vdd33 = (s.part.supplies.vdd33 && !a)) ∧
      ((x || y || z) = false → exec (.supplyLoss a b d) s = .next s)) ∧
    (s.part.supplies.vaonWarn = true →
      ∃ t, exec .vaonLow s = .next t ∧ t.part.supplies.vaonWarn = false ∧ t.part.flag PWR_EVENT.VAON_LOW = true ∧
        t.part.get PWR_EVCNT.VAON_LOW_CNT =
          satInc (2 ^ PWR_EVCNT.VAON_LOW_CNT.width - 1) (s.part.get PWR_EVCNT.VAON_LOW_CNT) % 2 ^ PWR_EVCNT.VAON_LOW_CNT.width ∧
        t.part.get PWR_STATUS.FIRST_LOSS =
          (if s.part.get PWR_STATUS.FIRST_LOSS = 0 then 1 else s.part.get PWR_STATUS.FIRST_LOSS) ∧
        ((s.part.live = false ∨ s.part.flag PWR_CFG.VAON_LOW_SAFE = false) → t.part.dev = s.part.dev) ∧
        (s.part.live = true → s.part.flag PWR_CFG.VAON_LOW_SAFE = true →
          t.part.dev = .safe ∧ t.part.get SYS_STATE.SAFE_CAUSE = 2)) ∧
    (s.part.supplies.vaonWarn = false → exec .vaonLow s = .next s) ∧
    (s.part.supplies.vaonPor = true → exec .vaonWarningRise s =
      .next (s.withPart ({ s.part with supplies := { s.part.supplies with vaonWarn := true } }))) ∧
    (s.part.supplies.vaonPor = false → exec .vaonWarningRise s = .next s)

/-- R43: a low pulse of 1 µs or more on RESET_N resets the part, which stays in OFF if it stands there and ignores the pulse in HOTLATCH
and TEST (R70); one below 0.2 µs changes nothing; one between them resets or leaves the device state. The reset (R44, R69)
leaves OFF with LAST_RESET = 1 and every register that AON does not hold at its reset value; AON values stay. CLOCK_LOSS does
the same with code 3 in the states in which a fast clock runs (R27), and changes nothing in the others. -/
def Obligations.ResetsLeaveOff : Prop :=
  ∀ (s : State) (ns : Nat),
    (ns < 200 → exec (.resetN ns) s = .next s) ∧
    (200 ≤ ns → ns < 1000 → ∃ t, exec (.resetN ns) s = .next t ∧ (t.part.dev = s.part.dev ∨ t.part.dev = .off) ∧
      t.array = s.array) ∧
    (1000 ≤ ns → (s.part.dev = .hotlatch ∨ s.part.dev = .test) → exec (.resetN ns) s = .next s) ∧
    (1000 ≤ ns → s.part.dev = .off → ∃ t, exec (.resetN ns) s = .next t ∧ t.part.dev = .off ∧ t.array = s.array) ∧
    (∀ k, (s.part.resettable = false ∨ s.part.dev = .parked) → exec (.clockLoss k) s = .next s) ∧
    (∀ (c : Instr) (code : Nat),
      ((c = .resetN ns ∧ 1000 ≤ ns ∧ s.part.resettable = true ∧ code = 1) ∨
        ((∃ k, c = .clockLoss k) ∧ s.part.resettable = true ∧ s.part.dev ≠ .parked ∧ code = 3)) →
      ∃ t, exec c s = .next t ∧ t.part.dev = .off ∧ t.part.get SYS_RESET.LAST_RESET = code ∧ t.array = s.array ∧
        ∀ (f : Fld) (i j : Nat), f.at i j ≠ SYS_RESET.LAST_RESET.at 0 0 →
          t.part.get f i j = if aonKey (f.at i j) then s.part.get f i j else regReset (f.at i j))

/-- PAIR_HOLD (R655): a MAIN in READY, RUN or SAFE, or in LOAD, counts the hold, keeps it in AON and resets with the code of a
HALYARD reset; another role or state changes nothing. While the hold stands the release of OFF changes nothing, and a RESET_N
pulse of 1 µs or more clears it. -/
def Obligations.PairHoldResets : Prop :=
  ∀ (s : State) (g : Fin 8) (x : Straps) (ns : Nat),
    (s.part.role = .main → (s.part.hostActive = true ∨ s.part.dev = .load) →
      ∃ t, exec (.pairHold g) s = .next t ∧ t.part.dev = .off ∧ t.part.pairHold = true ∧
        t.part.get SYS_RESET.LAST_RESET = 5 ∧
        t.part.get PAIR_STAT.HOLD_CNT = satInc 255 (s.part.get PAIR_STAT.HOLD_CNT) % 256) ∧
    ((s.part.role ≠ .main ∨ (s.part.hostActive = false ∧ s.part.dev ≠ .load)) → exec (.pairHold g) s = .next s) ∧
    (s.part.dev = .off → s.part.hotLatch = false → s.part.pairHold = true → exec (.resetRelease x) s = .next s) ∧
    (s.part.dev = .off → 1000 ≤ ns → ∃ t, exec (.resetN ns) s = .next t ∧ t.part.pairHold = false)

/-! The cold start. -/

/-- REF_RETRY in WAKE (R73): the retry counts, saturating, and XIN is sensed again; in another state it changes nothing.
PLL_LOCK (R69, R568): in a cold WAKE, and in the WAKE of a resume without a park context that agrees with the straps and has its
seal, the part enters STARTBIST with P1 and P5 running at TB = 0 and no verdict known; with such a context it enters RUN or READY with
the reload of the image due (R78, R111); in another state it changes nothing.
The start-up BIST (R69, R568 to R572). A PASS of a partition that runs, within its longest time, sets its verdict; the partition that
follows in its stream runs then, and without one left the part enters LOAD with the time that the BIST took. Any other verdict, and
the timeout, lead to OFF with BIST_HOLD set, the failing partition kept, BIST_FAIL_CNT at 1 or 2 and BIST_LOCK on the second failure; so
does a verdict after the longest time. Of a partition that does not run neither changes anything. -/
def Obligations.StartBist : Prop :=
  (∀ (s : State) (uv : Nat),
    ((s.part.dev = .wakeCold ∨ s.part.dev = .wakeResume) →
      exec (.refRetry uv) s = .next (s.withPart ((s.part.set SYS_RESET.REF_RETRY_CNT
        (satInc 255 (s.part.get SYS_RESET.REF_RETRY_CNT))).set SYS_STATE.REF_SRC (if uv < 200000 then 1 else 0)))) ∧
    (s.part.dev ≠ .wakeCold → s.part.dev ≠ .wakeResume → exec (.refRetry uv) s = .next s)) ∧
  (∀ (s : State) (b : Bool) (l : List Nat),
    ((s.part.dev = .wakeCold ∨ (s.part.dev = .wakeResume ∧
        ∀ x, s.part.parkCtx = some x → s.part.ctxValid x b = false)) →
      ∃ t, exec (.pllLock b l) s = .next t ∧ t.part.dev = .startbist ∧ t.part.tb = 0 ∧
        t.part.test.running = [1, 5] ∧ (∀ j : Fin 6, t.part.get SB_VERDICT.V j = 0)) ∧
    (∀ x, s.part.dev = .wakeResume → s.part.parkCtx = some x → s.part.ctxValid x b = true →
      ∃ t, exec (.pllLock b l) s = .next t ∧ (t.part.dev = .run ∨ t.part.dev = .ready) ∧
        t.part.flag SYS_STATE.RELOAD_BUSY = true ∧ t.part.load.image = some x.image ∧ t.part.load.reload = true) ∧
    (s.part.dev ≠ .wakeCold → s.part.dev ≠ .wakeResume → exec (.pllLock b l) s = .next s)) ∧
  (∀ (s : State) (k : Fin 6) (r : RunResult),
    (s.part.dev = .startbist → s.part.test.running.contains k.val = true →
      (verdictOf r = 1 → s.part.tb ≤ nth s.part.test.partAt k 0 + bistMax k →
        ∃ t, exec (.partitionVerdict k r) s = .next t ∧ t.part.get SB_VERDICT.V k = 1 ∧
          (s.part.test.running = [k.val] → nextPartition k = none →
            t.part.dev = .load ∧ t.part.get SB_TIME.DURATION = s.part.bistTime % 65536) ∧
          (∀ j, nextPartition k = some j → t.part.dev = .startbist ∧
            t.part.test.running = s.part.test.running.filter (· != k.val) ++ [j])) ∧
      (∀ c, (c = .partitionTimeout k ∨
          (c = .partitionVerdict k r ∧ (verdictOf r ≠ 1 ∨ nth s.part.test.partAt k 0 + bistMax k < s.part.tb))) →
        ∃ t, exec c s = .next t ∧ t.part.dev = .off ∧ t.part.get SYS_RESET.BIST_HOLD = 1 ∧
          t.part.get SYS_RESET.BIST_FAIL_PART = k ∧
          t.part.get SYS_RESET.BIST_FAIL_CNT = (if s.part.get SYS_RESET.BIST_FAIL_CNT = 0 then 1 else 2) ∧
          (s.part.get SYS_RESET.BIST_FAIL_CNT ≠ 0 → t.part.get SYS_RESET.BIST_LOCK = 1))) ∧
    ((s.part.dev ≠ .startbist ∨ s.part.test.running.contains k.val = false) →
      exec (.partitionVerdict k r) s = .next s ∧ exec (.partitionTimeout k) s = .next s))

/-- SLOT_CHECK in LOAD (R96, R98). With no slot judged yet, slot B goes first where its header is good and that of A is not or has the
lower SEQ, and slot A else. The slot judged is either accepted, with what it says of itself in SYS_IMAGE and SYS_SEQ, or leaves its error
code, 1 to 12, and no image; an erased header is error 12. With one slot judged and failed, the other one is judged in the same way. With
an accepted image or with both judged, and outside LOAD, it changes nothing. -/
def Obligations.SlotCheckJudges : Prop :=
  ∀ (s : State) (f : Flash),
    (∀ (b : Bool) (bytes : List Byte) (e : Fld), s.part.dev = .load → s.part.load.image = none →
      (s.part.load.judgedA && s.part.load.judgedB) = false →
      b = (if s.part.load.judgedA then true else if s.part.load.judgedB then false else bFirst f) →
      bytes = (if b then f.slotB else f.slotA) → e = (if b then SYS_IMAGE.ERR_B else SYS_IMAGE.ERR_A) →
      ∃ t, exec (.slotCheck f) s = .next t ∧ t.part.dev = .load ∧ t.otp = s.otp ∧ t.array = s.array ∧
        t.part.load.judgedA = (!b || s.part.load.judgedA) ∧ t.part.load.judgedB = (b || s.part.load.judgedB) ∧
        ((t.part.load.image = none ∧ 1 ≤ t.part.get e ∧ t.part.get e ≤ 12) ∨
          (t.part.load.image = some (infoOf bytes (b2n b)) ∧ t.part.get SYS_IMAGE.SLOT = b2n b ∧
            t.part.get SYS_SEQ.SEQ = leAt bytes 12 4 % 2 ^ 32 ∧ s.otp.count ≤ leAt bytes 16 1)) ∧
        (headErased bytes = true → t.part.get e = 12 ∧ t.part.load.image = none)) ∧
    ((s.part.dev ≠ .load ∨ s.part.load.image.isSome = true ∨ (s.part.load.judgedA && s.part.load.judgedB) = true) →
      exec (.slotCheck f) s = .next s)

/-- LOAD_COMPLETE (R63, R69, R80). Once the slots are judged and the record of a supply loss that was due is sealed, the part leaves
LOAD: with both slots judged and none accepted for SAFE, with an accepted image for READY, RUN or SAFE. Before that, and outside
LOAD, the command changes nothing. -/
def Obligations.LoadCompletes : Prop :=
  ∀ (s : State) (x : StartInputs),
    (s.part.dev = .load → s.part.lossSealed = true →
      (s.part.load.image = none → s.part.load.judgedA = true → s.part.load.judgedB = true →
        ∃ t, exec (.loadComplete x) s = .next t ∧ t.part.dev = .safe ∧ t.array = s.array ∧
          t.part.flag SENSE_CALSTAT.CAL_DONE = true) ∧
      (∀ i, s.part.load.image = some i → ∃ t, exec (.loadComplete x) s = .next t ∧
        (t.part.dev = .ready ∨ t.part.dev = .run ∨ t.part.dev = .safe) ∧ t.array = s.array ∧ t.otp = s.otp ∧
        t.part.flag SENSE_CALSTAT.CAL_DONE = true)) ∧
    ((s.part.dev ≠ .load ∨ s.part.lossSealed = false ∨
        (s.part.load.image = none ∧ (s.part.load.judgedA && s.part.load.judgedB) = false)) →
      exec (.loadComplete x) s = .next s)


/-! Parking and resume. -/

/-- PARK (R105) over an active PMBus: with the key in READY or RUN, SOLO, both ring ports disabled, every rail able to park and no
debug session it is taken, and changes nothing but the request and its instant; else it is refused and counted, with SYS_CTRL as its
address. Without the PMBus it changes nothing. SCL_HOLD_RELEASE (R29, R75): a hold ends; in PARKED and in the WAKE of a resume it
ends at its limit of 400 AON periods, and the transaction is not acknowledged; without a hold nothing changes.
The park entry (R106 to R109, R394). With the request standing in READY or RUN, the NVM queue empty, every rail able to park and each
parked-burst rail in BURST in a gap, PARK_ENTRY leads to PARKED with the context kept; else it changes nothing. PARK_TIMEOUT with the
queue not empty abandons the entry 20 ms after the PARK and counts it; else it changes nothing. -/
def Obligations.ParkCommands : Prop :=
  (∀ (s : State) (key : Nat),
    (s.part.pmbActive = true →
      (key = 0xA5 → s.part.live = true → s.part.role = .solo → s.part.flag HAL_CFG.EN_E = false →
        s.part.flag HAL_CFG.EN_W = false → s.part.railsPark = true → s.part.flag DBG_STAT.SESSION = false →
        exec (.park key) s = .next (s.withPart ({ s.part with parkReq := true, parkAt := s.part.tb }))) ∧
      ((key ≠ 0xA5 ∨ s.part.live = false ∨ s.part.role ≠ .solo ∨ s.part.flag HAL_CFG.EN_E = true ∨
          s.part.flag HAL_CFG.EN_W = true ∨ s.part.railsPark = false ∨ s.part.flag DBG_STAT.SESSION = true) →
        exec (.park key) s = .next (s.withPart (s.part.refuse .pmbus 0x10)))) ∧
    (s.part.pmbActive = false → exec (.park key) s = .next s)) ∧
  (∀ s : State,
    (s.part.sclHold = false → exec .sclHoldRelease s = .next s) ∧
    (s.part.sclHold = true → (s.part.dev = .parked ∨ s.part.dev = .wakeResume) →
      exec .sclHoldRelease s = .next (s.withPart ({ s.part with
        sclHold := false, pmbNack := true, aonCount := max s.part.aonCount (s.part.sclAt + 400) }))) ∧
    (s.part.sclHold = true → s.part.dev ≠ .parked → s.part.dev ≠ .wakeResume →
      exec .sclHoldRelease s = .next (s.withPart ({ s.part with sclHold := false })))) ∧
  (∀ s : State,
    (∀ i, s.part.live = true → s.part.parkReq = true → s.part.load.image = some i → s.part.nvmEmpty = true →
      s.part.railsPark = true → s.part.parked.all s.part.atGap = true →
      ∃ t, exec .parkEntry s = .next t ∧ t.part.dev = .parked ∧ t.part.parkReq = false ∧ t.part.aonCount = 0 ∧
        t.part.wakes = [] ∧ t.array = s.array ∧ t.otp = s.otp ∧
        t.part.parkCtx = some ⟨s.part.get SYS_STATE.ROLE, s.part.get SYS_STATE.ADDR_CODE,
          s.part.flag SYS_STATE.ADDR_NONE, i⟩) ∧
    ((s.part.live = false ∨ s.part.parkReq = false ∨ s.part.load.image = none ∨ s.part.nvmEmpty = false ∨
        s.part.railsPark = false ∨ s.part.parked.all s.part.atGap = false) → exec .parkEntry s = .next s) ∧
    (s.part.live = true → s.part.parkReq = true → s.part.nvmEmpty = false →
      ∃ t, exec .parkTimeout s = .next t ∧ t.part.parkReq = false ∧
        t.part.regs = (s.part.set SYS_STATE.PARK_ABORT_CNT
          (satInc (2 ^ SYS_STATE.PARK_ABORT_CNT.width - 1) (s.part.get SYS_STATE.PARK_ABORT_CNT))).regs ∧
        t.part.tb = max s.part.tb (s.part.parkAt + 25000000)) ∧
    ((s.part.live = false ∨ s.part.parkReq = false ∨ s.part.nvmEmpty = true) → exec .parkTimeout s = .next s))

/-- Wake sources (R69, R75, R107, R110). In PARKED the enabled ones of the sources that arrive lead to the WAKE of a resume, are
noted, and the straps are sensed; a PMBus START holds SCL; in the WAKE of a resume they are noted. In READY and RUN with a park entry
in progress they abandon it and count that. In every other case, and where none of the sources is enabled, nothing changes. The
same holds of WAKE_TIMER, at the end of its period. -/
def Obligations.WakeSources : Prop :=
  ∀ (s : State) (l : List WakeSource) (x : Straps),
    (s.part.dev = .parked → l.any s.part.wakeEn = true →
      ∃ t, exec (.wakeRequest l x) s = .next t ∧ t.part.dev = .wakeResume ∧
        (∀ w ∈ l, s.part.wakeEn w = true → w ∈ t.part.wakes) ∧ (∀ w ∈ s.part.wakes, w ∈ t.part.wakes) ∧
        t.part.get SYS_STATE.ROLE = 2 * b2n x.role1 + b2n x.role0 ∧ (WakeSource.pmbus ∈ l → t.part.sclHold = true)) ∧
    (s.part.dev = .wakeResume →
      ∃ t, exec (.wakeRequest l x) s = .next t ∧ t.part.dev = .wakeResume ∧ t.part.regs = s.part.regs ∧
        (∀ w ∈ l, s.part.wakeEn w = true → w ∈ t.part.wakes)) ∧
    (l.any s.part.wakeEn = false → exec (.wakeRequest l x) s = .next s) ∧
    (∀ c, ((c = .wakeRequest l x ∧ l.any s.part.wakeEn = true) ∨ (c = .wakeTimer x ∧ s.part.wakeEn .timer = true)) →
      (s.part.live = true → s.part.parkReq = true →
        exec c s = .next (s.withPart ({ s.part.set SYS_STATE.PARK_ABORT_CNT
          (satInc (2 ^ SYS_STATE.PARK_ABORT_CNT.width - 1) (s.part.get SYS_STATE.PARK_ABORT_CNT)) with parkReq := false }))) ∧
      (s.part.dev ≠ .parked → s.part.dev ≠ .wakeResume → (s.part.live = false ∨ s.part.parkReq = false) →
        exec c s = .next s)) ∧
    (s.part.wakeEn .timer = true → (s.part.dev = .parked ∨ s.part.dev = .wakeResume) →
      ∃ t, exec (.wakeTimer x) s = .next t ∧ t.part.dev = .wakeResume ∧ WakeSource.timer ∈ t.part.wakes ∧
        (s.part.dev = .parked → t.part.aonCount = max s.part.aonCount (s.part.get SYS_WAKE.WAKE_TIMER * 4000000) ∧
          t.part.get SYS_STATE.ROLE = 2 * b2n x.role1 + b2n x.role0)) ∧
    (s.part.wakeEn .timer = false → exec (.wakeTimer x) s = .next s)

/-- RELOAD_DONE (R111, R112) of a reload that is due, from the slot of the running image. The reload ends, and the running image stands.
Either the slot holds the SEQ and the tag of the running image, which SYS_SEQ shows, and RELOAD_BUSY reads 0; or RELOAD_FAIL is set and
RELOAD_BUSY stays. With an erased slot it is the failure, and the device state stands. Without a reload that is due nothing changes. -/
def Obligations.ReloadDone : Prop :=
  ∀ (s : State) (f : Flash) (x : StartInputs),
    (∀ (i : ImageInfo) (bytes : List Byte), s.part.hostActive = true → s.part.load.reload = true →
      s.part.load.image = some i → bytes = (if i.slot = 1 then f.slotB else f.slotA) →
      (∃ t, exec (.reloadDone f x) s = .next t ∧ t.part.load.reload = false ∧
        t.part.load.image = some i ∧ t.array = s.array ∧ t.otp = s.otp ∧
        ((t.part.flag SYS_STATE.RELOAD_FAIL = true ∧
            t.part.flag SYS_STATE.RELOAD_BUSY = s.part.flag SYS_STATE.RELOAD_BUSY ∧ t.part.dev = s.part.dev) ∨
          ((infoOf bytes i.slot).seq = i.seq ∧ (infoOf bytes i.slot).tag = i.tag ∧
            t.part.flag SYS_STATE.RELOAD_BUSY = false ∧ t.part.get SYS_SEQ.SEQ = i.seq % 2 ^ SYS_SEQ.SEQ.width))) ∧
      (headErased bytes = true → ∃ t, exec (.reloadDone f x) s = .next t ∧
        t.part.flag SYS_STATE.RELOAD_FAIL = true ∧ t.part.dev = s.part.dev)) ∧
    ((s.part.hostActive = false ∨ s.part.load.reload = false ∨ s.part.load.image = none) →
      exec (.reloadDone f x) s = .next s)

/-! SYS_CTRL, OTP and debug commands. -/

/-- The keyed commands over an active PMBus. SWRESET leaves OFF with code 4 (R69). SAFE in READY or RUN enters SAFE with
cause 1 and every rail OFF (R69, R103, R360), and in SAFE changes nothing. ROLLBACK_COMMIT asks OTP for the running image's ROLLBACK where
that exceeds the count in READY or RUN (R101), and is refused and counted else. A key byte other than 0xA5 is refused and counted, with
SYS_CTRL as its address, and changes nothing else (R118); without the PMBus none of these commands changes anything.
KEY_REVOKE_REQ with the key byte asks OTP to revoke the keys that it names and that the running image does not name (R102), and a request
for the running image's key is refused and counted; without the key byte it is refused and counted (the model's choice, assumption log
45); naming no key, or without the PMBus, it changes nothing.
OTP_PROGRAM_DONE (R101, R102): the count becomes the target where that is higher, the keys asked for are revoked, and the
part has no programming left; all else stands. -/
def Obligations.ControlCommands : Prop :=
  (∀ s : State, s.part.pmbActive = true →
    (∃ t, exec (.swreset 0xA5) s = .next t ∧ t.part.dev = .off ∧ t.part.get SYS_RESET.LAST_RESET = 4 ∧ t.array = s.array) ∧
    (s.part.live = true → ∃ t, exec (.safe 0xA5) s = .next t ∧ t.part.dev = .safe ∧ t.part.get SYS_STATE.SAFE_CAUSE = 1 ∧
      t.array = s.array ∧ t.otp = s.otp ∧ ∀ n : Rail, t.part.rst n = .off) ∧
    (s.part.live = false → exec (.safe 0xA5) s = .next s) ∧
    (∀ i, s.part.load.image = some i → s.part.live = true → s.otp.count < i.rollback →
      exec (.rollbackCommit 0xA5) s =
        .next (s.withPart ({ s.part with otpJob := { s.part.otpJob with target := some i.rollback } }))) ∧
    ((s.part.live = false ∨ ∀ i, s.part.load.image = some i → i.rollback ≤ s.otp.count) →
      exec (.rollbackCommit 0xA5) s = .next (s.withPart (s.part.refuse .pmbus 0x10))) ∧
    (∀ (key : Nat) (c : Instr), key ≠ 0xA5 → (c = .safe key ∨ c = .swreset key ∨ c = .rollbackCommit key) →
      exec c s = .next (s.withPart ({ ((s.part.set HOST_REFUSED.CNT
        (satInc 65535 (s.part.get HOST_REFUSED.CNT))).set HOST_REFUSED.SRC 0).set HOST_REFADDR.ADDR 0x10 with
          refusals := s.part.refusals + 1 })))) ∧
  (∀ (s : State) (key : Nat) (c : Instr), s.part.pmbActive = false →
    (c = .safe key ∨ c = .swreset key ∨ c = .rollbackCommit key) → exec c s = .next s) ∧
  (∀ (s : State) (a b : Bool) (key : Nat),
    ((s.part.pmbActive = false ∨ (a || b) = false) → exec (.keyRevokeReq a b key) s = .next s) ∧
    (s.part.pmbActive = true → (a || b) = true → key ≠ 0xA5 →
      exec (.keyRevokeReq a b key) s = .next (s.withPart (s.part.refuse .pmbus 0x1C))) ∧
    (s.part.pmbActive = true → (a || b) = true →
      ∃ t, exec (.keyRevokeReq a b 0xA5) s = .next t ∧ t.otp = s.otp ∧
        t.part.otpJob.revoke0 = (s.part.otpJob.revoke0 || (a && (s.part.load.image.map ImageInfo.keyId != some 0))) ∧
        t.part.otpJob.revoke1 = (s.part.otpJob.revoke1 || (b && (s.part.load.image.map ImageInfo.keyId != some 1))) ∧
        t.part.refusals = s.part.refusals + b2n ((a && s.part.load.image.map ImageInfo.keyId == some 0) ||
          (b && s.part.load.image.map ImageInfo.keyId == some 1)))) ∧
  (∀ s : State, ∃ t, exec .otpProgramDone s = .next t ∧
    t.otp.count = max s.otp.count (s.part.otpJob.target.getD 0) ∧
    t.otp.revoked0 = (s.otp.revoked0 || s.part.otpJob.revoke0) ∧
    t.otp.revoked1 = (s.otp.revoked1 || s.part.otpJob.revoke1) ∧
    t.part = { s.part with otpJob := {} } ∧ t.array = s.array)

/-- Debug sessions (R589, R591, R592, R614). A challenge with the key byte in READY or SAFE without DBG_LOCK opens the session with a
nonce of the part's own; in another state or with DBG_LOCK it is refused and counted with LAST = 3, and the session stands. A
response in a session closes it. A right one sets LAST = 1; on zeroised keys it sets UNLOCKED, ZERO_OK and OTP_KEY_BLOCK and leads to TEST
from READY and SAFE, and with a key that is not zeroised it leads to SAFE from READY and RUN with cause 5 and detail 4. A wrong one sets LAST
= 2 and counts, and the third locks. Without a session a response changes nothing. A close request closes the session and changes nothing
else. A key byte other than 0xA5 is refused and counted and changes nothing else. The time limit, 1 s after the challenge, closes a
session that is open. -/
def Obligations.DebugSessions : Prop :=
  ∀ s : State,
    ((s.part.dev = .ready ∨ s.part.dev = .safe) → s.part.flag DBG_STAT.DBG_LOCK = false →
      ∃ t, exec (.requestChallenge 0xA5) s = .next t ∧ t.part.flag DBG_STAT.SESSION = true ∧ t.part.dev = s.part.dev ∧
        t.part.test.sessionAt = s.part.tb ∧
        ∀ i : Fin 4, t.part.get DBG_CHAL.CHAL 0 i = ofLe ((List.range 4).map fun b =>
          BitVec.ofNat 8 (Config.nonceByte s.part.free (4 * i + b)))) ∧
    (((s.part.dev ≠ .ready ∧ s.part.dev ≠ .safe) ∨ s.part.flag DBG_STAT.DBG_LOCK = true) →
      exec (.requestChallenge 0xA5) s = .next (s.withPart ((s.part.set DBG_STAT.LAST 3).refuse .jtag 0xA0100))) ∧
    (∀ z : Bool,
      (s.part.flag DBG_STAT.SESSION = false → exec (.submitResponse 0xA5 z) s = .next s) ∧
      (s.part.flag DBG_STAT.SESSION = true → ∃ t, exec (.submitResponse 0xA5 z) s = .next t ∧
        t.part.flag DBG_STAT.SESSION = false ∧
        (s.part.responseOk = true → t.part.get DBG_STAT.LAST = 1) ∧
        (s.part.responseOk = true → z = true → t.part.flag DBG_STAT.UNLOCKED = true ∧
          t.part.flag DBG_STAT.ZERO_OK = true ∧ t.part.flag DBG_STAT.OTP_KEY_BLOCK = true ∧
          ((s.part.dev = .ready ∨ s.part.dev = .safe) → t.part.dev = .test)) ∧
        (s.part.responseOk = true → z = false → s.part.live = true → t.part.dev = .safe ∧
          t.part.get SYS_STATE.SAFE_CAUSE = 5 ∧ t.part.get SAFE_DETAIL.DETAIL = 4) ∧
        (s.part.responseOk = false → t.part.dev = s.part.dev ∧ t.part.get DBG_STAT.LAST = 2 ∧
          t.part.get DBG_STAT.DBG_FAIL_CNT =
            satInc (2 ^ DBG_STAT.DBG_FAIL_CNT.width - 1) (s.part.get DBG_STAT.DBG_FAIL_CNT) % 2 ^ DBG_STAT.DBG_FAIL_CNT.width ∧
          (s.part.get DBG_STAT.DBG_FAIL_CNT = 2 → t.part.flag DBG_STAT.DBG_LOCK = true)))) ∧
    exec (.closeSession 0xA5) s = .next (s.withPart (s.part.set DBG_STAT.SESSION 0)) ∧
    (∀ (key : Nat) (c : Instr), key ≠ 0xA5 →
      (c = .requestChallenge key ∨ (∃ z, c = .submitResponse key z) ∨ c = .closeSession key) →
      exec c s = .next (s.withPart (s.part.refuse .jtag 0xA0100))) ∧
    (s.part.flag DBG_STAT.SESSION = true → ∃ t, exec .sessionTimeout s = .next t ∧
      t.part.flag DBG_STAT.SESSION = false ∧ t.part.tb = max s.part.tb (s.part.test.sessionAt + 1250000000) ∧
      t.part.regs = (s.part.set DBG_STAT.SESSION 0).regs ∧ t.part.dev = s.part.dev) ∧
    (s.part.flag DBG_STAT.SESSION = false → exec .sessionTimeout s = .next s)

/-- The JTAG port (R587, R588). With VDD33 and VAON above their thresholds each instruction is held as loaded, EXTEST and SCAN as BYPASS
outside TEST, and changes nothing else; without them nothing reaches the port. REGACC outside TEST reaches 0xA0100 to 0xA012C alone: a
read of another address gives 0 and a write to it is ignored; a write of a word of DBG_RESP stores it. A read that reaches its address
gives the word of that register. -/
def Obligations.JtagInstructions : Prop :=
  ∀ (s : State) (code addr v : Nat),
    ((s.part.supplies.vaonPor = false ∨ s.part.supplies.vdd33 = false) →
      ∀ c ∈ ([.extest, .scan, .samplePreload, .bypass code, .regacc addr v true, .regacc addr v false] : List Instr),
        exec c s = .next s) ∧
    (s.part.supplies.vaonPor = true → s.part.supplies.vdd33 = true →
      exec .extest s = .next (s.withPart (s.part.modTest fun x => { x with
        jtagIr := if s.part.dev = .test then 0 else 0xFF })) ∧
      exec .scan s = .next (s.withPart (s.part.modTest fun x => { x with
        jtagIr := if s.part.dev = .test then 0x30 else 0xFF })) ∧
      exec .samplePreload s = .next (s.withPart (s.part.modTest fun x => { x with jtagIr := 2 })) ∧
      exec (.bypass code) s = .next (s.withPart (s.part.modTest fun x => { x with jtagIr := 0xFF })) ∧
      (s.part.dev ≠ .test → (addr < 0xA0100 ∨ 0xA012C < addr) →
        exec (.regacc addr v true) s = .next (s.withPart (s.part.modTest fun x => { x with jtagIr := 0x21 })) ∧
        exec (.regacc addr v false) s = .next (s.withPart (s.part.modTest fun x => { x with
          jtagIr := 0x21, jtagData := 0 }))) ∧
      ((s.part.dev = .test ∨ (0xA0100 ≤ addr ∧ addr ≤ 0xA012C)) →
        ∃ t, exec (.regacc addr v false) s = .next t ∧ t.part.test.jtagIr = 0x21 ∧
          t.part.test.jtagData = (s.part.regRead s.otp addr).2) ∧
      (∀ i : Fin 4, ∃ t, exec (.regacc (0xA0120 + 4 * i.val) v true) s = .next t ∧ t.part.test.jtagIr = 0x21 ∧
        t.part.get DBG_RESP.RESP 0 i = v % 2 ^ 32))

/-! The NVM. -/

/-- NVM_OP_DONE (R553, R737, R738). Without an operation it changes nothing. Where the readback is right, the unit's bytes stand in
the array at its address, and the bytes before and after its page are unchanged, as are those of its page that a write without an erase
does not reach. Where the verification fails in READY, RUN or SAFE, the page is bad from then on, and its event counts; the bytes outside
the page stand. Where the NVM block works no longer, the operation has ended, and the block keeps nothing. -/
def Obligations.NvmOperations : Prop :=
  (∀ (s : State) (ok : Bool), s.part.nvm.op = none → exec (.nvmOpDone ok) s = .next s) ∧
  (∀ (s : State) (o : NvmOp), s.Good → s.part.nvm.op = some o → o.bytes.length = unitSize o.unit → o.page < 128 →
    o.index * unitSize o.unit + unitSize o.unit ≤ 512 →
    ∃ t, exec (.nvmOpDone true) s = .next t ∧ t.otp = s.otp ∧
      (∀ i, i < unitSize o.unit → nvmRead t.array (o.addr + i) = nth o.bytes i 0) ∧
      (∀ a, (a < o.page * 512 ∨ o.page * 512 + 512 ≤ a) → nvmRead t.array a = nvmRead s.array a) ∧
      (o.erase = false → ∀ a, (a < o.addr ∨ o.addr + unitSize o.unit ≤ a) → nvmRead t.array a = nvmRead s.array a)) ∧
  (∀ (s : State) (o : NvmOp), s.Good → s.part.nvm.op = some o → o.page < 128 →
    o.index * unitSize o.unit + unitSize o.unit ≤ 512 →
    ∃ t, exec (.nvmOpDone false) s = .next t ∧
      (s.part.hostActive = true → bitOf t.part.nvm.bad o.page = 1 ∧ t.part.flag NVM_STAT.BAD_EV = true) ∧
      (∀ a, (a < o.page * 512 ∨ o.page * 512 + 512 ≤ a) → nvmRead t.array a = nvmRead s.array a)) ∧
  (∀ (s : State) (o : NvmOp) (ok : Bool), s.part.nvm.op = some o → s.part.nvmRuns = false →
    (s.part.dev ≠ .hotlatch ∨ s.part.clocksStopped = true) →
    ∃ t, exec (.nvmOpDone ok) s = .next t ∧ t.part.nvm = {} ∧ t.part.regs = s.part.regs ∧ t.part.dev = s.part.dev)


/-! The ring. -/

/-- The ring ports (R620, R631). A port that is enabled, in service, not up and has its delay exchange comes up, with its event; a port
that is up goes down, with its event, and goes out of service for a loopback failure. DELAY_EXCHANGE at an enabled port in service sends
DELAY_REQ at its next instant, every 1 ms, and notes it; DELAY_REQ there is answered with DELAY_RESP; DELAY_RESP at an enabled port that
awaits it gives the link delay of the port and completes the exchange. A link frame whose CRC fails is counted; in the other cases
nothing but the frames sent changes. -/
def Obligations.RingPorts : Prop :=
  ∀ (s : State) (port : HalPort) (rx : HalRx),
    (s.part.hostActive = true → s.part.portEn port = true → s.part.outOf port = false → s.part.portIsUp port = false →
      nth s.part.hal.delayDone (portIx port) false = true →
      ∃ t, exec (.portUp port) s = .next t ∧ t.part.portIsUp port = true ∧ t.part.flag HAL_STAT.LINK_EV = true) ∧
    ((s.part.hostActive = false ∨ s.part.portEn port = false ∨ s.part.outOf port = true ∨ s.part.portIsUp port = true ∨
        nth s.part.hal.delayDone (portIx port) false = false) →
      exec (.portUp port) s = .next (s.withPart s.part.hal0)) ∧
    (∀ why,
      (s.part.hostActive = true → s.part.portIsUp port = true →
        ∃ t, exec (.portDown port why) s = .next t ∧ t.part.portIsUp port = false ∧ t.part.flag HAL_STAT.LINK_EV = true) ∧
      (s.part.hostActive = true → s.part.hal.out_.length = 2 → why = .loopback →
        ∃ t, exec (.portDown port why) s = .next t ∧ t.part.outOf port = true ∧ t.part.portIsUp port = false) ∧
      ((s.part.hostActive = false ∨ (s.part.portIsUp port = false ∧ why ≠ .loopback)) →
        exec (.portDown port why) s = .next (s.withPart s.part.hal0))) ∧
    (s.part.hostActive = true → s.part.portEn port = true → s.part.outOf port = false → s.part.hal.delayAt.length = 2 →
      ∃ t, exec (.delayExchange port) s = .next t ∧
        t.part.tb = max s.part.tb (nextOn (nth s.part.hal.exchAt (portIx port) none) 1250000 s.part.tb) ∧
        nth t.part.hal.delayAt (portIx port) none = some t.part.nowSt ∧
        t.part.hal.sent = [.frame port (s.part.linkFrame 0x02 []) false] ∧ t.part.regs = s.part.regs) ∧
    ((s.part.hostActive = false ∨ s.part.portEn port = false ∨ s.part.outOf port = true) →
      exec (.delayExchange port) s = .next (s.withPart s.part.hal0)) ∧
    (s.part.hostActive = true → s.part.portEn rx.port = true → rx.crcOk = true →
      (s.part.outOf rx.port = false →
        ∃ t f, exec (.delayReq rx) s = .next t ∧ t.part.hal.sent = [.frame rx.port f false] ∧ f.type = 0x03 ∧
          f.payload.length = 4 ∧ t.part.regs = s.part.regs) ∧
      (s.part.outOf rx.port = true →
        ∃ t, exec (.delayReq rx) s = .next t ∧ t.part.hal.sent = [] ∧ t.part.regs = s.part.regs) ∧
      (∀ at_, nth s.part.hal.delayAt (portIx rx.port) none = some at_ → s.part.hal.delayDone.length = 2 →
        ∃ t, exec (.delayResp rx) s = .next t ∧ nth t.part.hal.delayDone (portIx rx.port) false = true ∧
          t.part.get (dlyFld rx.port) = satU 16 (roundQ (((s.part.nowSt - at_ : Nat) : Rat) / 2 -
            (leAt rx.frame.payload 0 4 : Rat) / 2 + (s.part.asym rx.port : Rat) / 25)) ∧ t.part.tb = s.part.tb) ∧
      (nth s.part.hal.delayAt (portIx rx.port) none = none →
        exec (.delayResp rx) s = .next (s.withPart s.part.hal0))) ∧
    (∀ c, (c = .delayReq rx ∨ c = .delayResp rx) →
      (s.part.hostActive = true → s.part.portEn rx.port = true → rx.crcOk = false →
        exec c s = .next (s.withPart (s.part.hal0.crcBad rx.port))) ∧
      ((s.part.hostActive = false ∨ s.part.portEn rx.port = false) → exec c s = .next (s.withPart s.part.hal0)))

/-- The time base of the ring (R628, R630, R633, R634). SYNC of a node that this one follows makes it the master and its TB the
estimate, and gives N and INTACT; while every rail is in OFF, a TB that is behind by more than 100 ns steps forward by the offset, else TB
stays. SYNC of a node that this one does not follow changes no register. SYNC_SEND of an eligible node that has heard no SYNC for 30 µs
at its next instant, every 10 µs, makes it the master. 100 µs without a SYNC end the lock of a node that is not the master. DISCOVER_SEND of
the master, every 1 ms, sends DISCOVER; a DISCOVER of its own that returns over WEST within 100 µs gives N and INTACT, and the timeout ends
INTACT. In the other cases of the sending and timeout commands no register changes. -/
def Obligations.RingTimeBase : Prop :=
  ∀ (s : State) (rx : HalRx),
    (s.part.takesBcast rx 0x01 = true →
      ∀ est : Int, est = (leAt rx.frame.payload 0 8 * 32 : Nat) + corrOf rx.frame.payload + s.part.get (dlyFld rx.port) →
      (s.part.follows (nodeOf rx.frame.src) est = true →
        ∃ t, exec (.sync rx) s = .next t ∧ t.part.hal.lastSync = some t.part.tb ∧ t.part.hal.masterTb = est ∧
          t.part.get HAL_RING.MASTER_ID = nodeOf rx.frame.src ∧ t.part.flag HAL_STAT.IS_MASTER = false ∧
          t.part.flag HAL_STAT.HOLDOVER = false ∧
          t.part.get HAL_RING.RING_N = leAt rx.frame.payload 12 2 % 2 ^ HAL_RING.RING_N.width ∧
          t.part.get HAL_STAT.INTACT = bitOf (leAt rx.frame.payload 14 1) 0 ∧
          (s.part.anyRailOn = false → (s.part.nowSt : Int) + 4000 < est → (t.part.nowSt : Int) = est) ∧
          ((s.part.anyRailOn = true ∨ est ≤ (s.part.nowSt : Int) + 4000) → t.part.tb = s.part.tb)) ∧
      (s.part.follows (nodeOf rx.frame.src) est = false →
        ∃ t, exec (.sync rx) s = .next t ∧ t.part.regs = s.part.regs ∧ t.part.tb = s.part.tb)) ∧
    (∀ at_, at_ = nextOn s.part.hal.syncAt 12500 s.part.tb →
      (s.part.hostActive = true → s.part.flag HAL_CFG.MASTER_ELIG = true →
        (∀ x, s.part.hal.lastSync = some x → x + 37500 < max s.part.tb at_) →
        ∃ t, exec .syncSend s = .next t ∧ t.part.flag HAL_STAT.IS_MASTER = true ∧ t.part.tb = max s.part.tb at_ ∧
          t.part.get HAL_RING.MASTER_ID = s.part.nodeId % 2048 ∧ t.part.flag HAL_STAT.HOLDOVER = false) ∧
      ((s.part.hostActive = false ∨ s.part.flag HAL_CFG.MASTER_ELIG = false ∨
          ∃ x, s.part.hal.lastSync = some x ∧ max s.part.tb at_ ≤ x + 37500) →
        exec .syncSend s = .next (s.withPart s.part.hal0))) ∧
    (s.part.hostActive = true → s.part.flag HAL_STAT.IS_MASTER = false →
      ∃ t, exec .tbLockTimeout s = .next t ∧ t.part.flag HAL_STAT.TB_LOCK = false ∧ t.part.flag HAL_STAT.HOLDOVER = true ∧
        t.part.tb = s.part.hal.lastSync.elim s.part.tb fun x => max s.part.tb (x + 125000)) ∧
    ((s.part.hostActive = false ∨ s.part.flag HAL_STAT.IS_MASTER = true) → exec .tbLockTimeout s = .next s) ∧
    (s.part.hostActive = true → s.part.flag HAL_STAT.IS_MASTER = true →
      ∃ t, exec .discoverSend s = .next t ∧ t.part.tb = max s.part.tb (nextOn s.part.hal.discAt 1250000 s.part.tb) ∧
        t.part.hal.discoverAt = some t.part.tb ∧ t.part.regs = s.part.regs ∧
        (s.part.portIsUp .east = true → ∃ f, t.part.hal.sent = [.frame .east f false] ∧ f.type = 0x04)) ∧
    ((s.part.hostActive = false ∨ s.part.flag HAL_STAT.IS_MASTER = false) →
      exec .discoverSend s = .next (s.withPart s.part.hal0) ∧ exec .discoverTimeout s = .next s) ∧
    (s.part.hostActive = true → s.part.flag HAL_STAT.IS_MASTER = true → rx.crcOk = true → s.part.portIsUp rx.port = true →
      nodeOf rx.frame.src = s.part.nodeId →
      (∀ at_, rx.port = .west → s.part.hal.discoverAt = some at_ → s.part.tb ≤ at_ + 125000 →
        ∃ t, exec (.discover rx) s = .next t ∧ t.part.get HAL_RING.RING_N = (rx.frame.hops + 1) % 4096 ∧
          t.part.flag HAL_STAT.INTACT = true) ∧
      ((rx.port = .east ∨ s.part.hal.discoverAt = none ∨ ∃ at_, s.part.hal.discoverAt = some at_ ∧ at_ + 125000 < s.part.tb) →
        exec (.discover rx) s = .next (s.withPart s.part.hal0))) ∧
    (s.part.hostActive = true → s.part.portIsUp rx.port = true → rx.crcOk = true →
      (nodeOf rx.frame.src ≠ s.part.nodeId ∨ s.part.flag HAL_STAT.IS_MASTER = false) →
      ∃ t, exec (.discover rx) s = .next t ∧ t.part.regs = s.part.regs ∧ t.part.tb = s.part.tb) ∧
    (s.part.hostActive = true → s.part.flag HAL_STAT.IS_MASTER = true → ∀ at_, s.part.hal.discoverAt = some at_ →
      ∃ t, exec .discoverTimeout s = .next t ∧ t.part.flag HAL_STAT.INTACT = false ∧
        t.part.tb = max s.part.tb (at_ + 125000)) ∧
    (s.part.hal.discoverAt = none → exec .discoverTimeout s = .next s)

/-- Received frames (R624, R625, R643). A FAULT frame is stored with its event; a frame of no known type counts as unknown. A frame whose
CRC fails is counted at its port, stored nowhere and leads to nothing else; a frame at a port that is not up, and a second copy of a
broadcast, change no register (a second copy of SYNC apart). RING_BROKEN_CLEAR (R645) ends the service cause once both ports have been
up with INTACT for 10 ms, and does nothing without it; a read of HAL_TBLO (R669) takes TB into the two words. -/
def Obligations.RingReception : Prop :=
  ∀ (s : State) (rx : HalRx),
    (s.part.takesBcast rx 0x10 = true → ∃ t, exec (.faultFrame rx) s = .next t ∧
      t.part.flag HAL_STAT.RXFAULT_EV = true ∧
      t.part.get HAL_RXFAULT.CODE = leAt rx.frame.payload 0 1 % 2 ^ HAL_RXFAULT.CODE.width ∧
      t.part.get HAL_RXFAULT.CLASS = leAt rx.frame.payload 1 1 % 2 ^ HAL_RXFAULT.CLASS.width ∧
      t.part.get HAL_RXFAULT.RAIL = leAt rx.frame.payload 2 1 % 2 ^ HAL_RXFAULT.RAIL.width ∧
      t.part.get HAL_RXFAULT.SRC = rx.frame.src % 2 ^ HAL_RXFAULT.SRC.width) ∧
    (s.part.hostActive = true → s.part.portIsUp rx.port = true → rx.crcOk = true → knownTypes.contains rx.frame.type = false →
      ∃ t, exec (.unknownTypeFrame rx) s = .next t ∧ t.part.flag HAL_STAT.UNK_EV = true ∧
        t.part.regs = (s.part.event HAL_STAT.UNK_EV HAL_ERRCNT.UNK_CNT).regs) ∧
    (knownTypes.contains rx.frame.type = true → exec (.unknownTypeFrame rx) s = .next (s.withPart s.part.hal0)) ∧
    (∀ c : HalRx → Instr, (c ∈ ([.sync, .discover, .faultFrame, .barToken, .barRelease, .snapSched, .snapCollect, .snapResp,
        .resetFrame] : List (HalRx → Instr)) ∨ (c = .unknownTypeFrame ∧ knownTypes.contains rx.frame.type = false)) →
      (s.part.hostActive = true → s.part.portIsUp rx.port = true → rx.crcOk = false →
        ∃ t, exec (c rx) s = .next t ∧ t.part.hal.seen = s.part.hal.seen ∧ t.part.dev = s.part.dev ∧
          t.part.tb = s.part.tb ∧
          t.part.regs = (match rx.port with
            | .east => s.part.bump HAL_ERRCNT.CRC_E_CNT
            | .west => s.part.bump HAL_ERRCNT.CRC_W_CNT).regs) ∧
      ((s.part.hostActive = false ∨ s.part.portIsUp rx.port = false) →
        ∃ t, exec (c rx) s = .next t ∧ t.part.hal.seen = s.part.hal.seen ∧ t.part.dev = s.part.dev ∧
          t.part.tb = s.part.tb ∧ t.part.regs = s.part.regs)) ∧
    (∀ (c : HalRx → Instr) (type : Nat), (c, type) ∈ ([(.faultFrame, 0x10), (.barRelease, 0x21), (.snapSched, 0x30),
        (.snapCollect, 0x31), (.resetFrame, 0x40)] : List ((HalRx → Instr) × Nat)) → rx.crcOk = true →
      frameBcast rx.frame = true → s.part.seenCopy { rx.frame with type := type } = true →
      ∃ t, exec (c rx) s = .next t ∧ t.part.dev = s.part.dev ∧ t.part.regs = s.part.regs) ∧
    (s.part.hostActive = true → ∀ at_, s.part.hal.intactSince = some at_ → s.part.bit SVC_STATUS.CAUSE 7 = true →
      ∃ t, exec .ringBrokenClear s = .next t ∧ t.part.bit SVC_STATUS.CAUSE 7 = false ∧
        t.part.tb = max s.part.tb (at_ + 12500000)) ∧
    ((s.part.hostActive = false ∨ s.part.hal.intactSince = none ∨ s.part.bit SVC_STATUS.CAUSE 7 = false) →
      exec .ringBrokenClear s = .next s) ∧
    (s.part.pmbActive = true → exec .halTbloRead s =
      .next (s.withPart ((s.part.set HAL_TBLO.TBLO (s.part.tb % 2 ^ 32)).set HAL_TBHI.TBHI (s.part.tb / 2 ^ 32)))) ∧
    (s.part.pmbActive = false → exec .halTbloRead s = .next s)

/-- Barriers (R638, R646, R670). A request with a wrong key, or while an operation runs, or that finds no slot is refused with RESULT =
2 and counted; a node that arrives at a barrier takes a free slot as ARRIVED, or its WAITING slot becomes ARRIVED, and ends well; the node
that launches it is its origin and its operation runs on. A token of an unknown barrier takes a free slot as WAITING and is held, as is one
of a WAITING barrier; the origin's own token on an intact ring releases the barrier and ends the launch well. A release frees the slot and
counts, once; a released slot becomes free 1 ms later, and goes to a token that waits for a slot; a launch that runs ends at 10 ms with RESULT
= 4. Of a slot in another state the last two change nothing. -/
def Obligations.Barriers : Prop :=
  ∀ (s : State) (rx : HalRx) (id key b : Nat) (n : Fin 4), b = id % 65536 →
    (∀ (c : Instr) (op : Nat), ((c = .barrierArrive key id ∧ op = 1) ∨ (c = .barrierLaunch key id ∧ op = 2)) →
      (s.part.pmbActive = false → exec c s = .next s) ∧
      (s.part.pmbActive = true → (key ≠ 0xA5 ∨ s.part.flag HAL_OPSTAT.BUSY = true ∨
          (s.part.barOf b = none ∧ s.part.barFree = none)) →
        exec c s = .next (s.withPart (((s.part.hal0.set HAL_OPSTAT.OP op).set HAL_OPSTAT.RESULT 2).refuse .pmbus 0xB0030)))) ∧
    (s.part.opFree = true →
      ((s.part.barOf b = none ∧ s.part.barFree = some n.val) ∨ (s.part.barOf b = some n.val ∧ s.part.barState n = 1)) →
      (∃ t, exec (.barrierArrive 0xA5 id) s = .next t ∧ t.part.barState n = 2 ∧ t.part.get HAL_BAR.BID 0 n = b ∧
        t.part.get HAL_OPSTAT.RESULT = 1 ∧ t.part.flag HAL_OPSTAT.BUSY = false) ∧
      (∃ t, exec (.barrierLaunch 0xA5 id) s = .next t ∧ t.part.barState n = 2 ∧ t.part.get HAL_BAR.BID 0 n = b ∧
        t.part.flag HAL_BAR.ORIG 0 n = true ∧ t.part.flag HAL_OPSTAT.BUSY = true ∧ t.part.hal.runOp = 2)) ∧
    (s.part.hostActive = true → s.part.portIsUp rx.port = true → rx.crcOk = true → rx.frame.id = b →
      (s.part.barOf b = none → s.part.hal.released.any (fun x => x.1 == b && decide (s.part.tb < x.2 + tickMs)) = false →
        s.part.barFree = some n.val →
        ∃ t, exec (.barToken rx) s = .next t ∧ t.part.barState n = 1 ∧ t.part.get HAL_BAR.BID 0 n = b ∧
          t.part.hal.tokens = s.part.hal.tokens ++ [(rx.port, { rx.frame with type := 0x20, hops := rx.frame.hops + 1 })]) ∧
      (s.part.barOf b = some n.val → s.part.barState n = 1 →
        (nodeOf rx.frame.src ≠ s.part.nodeId ∨ s.part.flag HAL_BAR.ORIG 0 n = false) →
        ∃ t, exec (.barToken rx) s = .next t ∧ t.part.regs = s.part.regs ∧
          t.part.hal.tokens = s.part.hal.tokens ++ [(rx.port, { rx.frame with type := 0x20, hops := rx.frame.hops + 1 })]) ∧
      (s.part.barOf b = some n.val → s.part.barState n ≠ 3 → nodeOf rx.frame.src = s.part.nodeId →
        s.part.flag HAL_BAR.ORIG 0 n = true → s.part.flag HAL_STAT.INTACT = true →
        ∃ t, exec (.barToken rx) s = .next t ∧ t.part.barState n = 3 ∧ t.part.flag HAL_BAR.REL_EV 0 n = true ∧
          (s.part.hal.runOp = 2 → t.part.get HAL_OPSTAT.RESULT = 1 ∧ t.part.flag HAL_OPSTAT.BUSY = false))) ∧
    (s.part.takesBcast rx 0x21 = true → rx.frame.id = b →
      (s.part.barOf b = some n.val → s.part.barState n ≠ 3 →
        ∃ t, exec (.barRelease rx) s = .next t ∧ t.part.barState n = 3 ∧ t.part.flag HAL_BAR.REL_EV 0 n = true ∧
          t.part.get HAL_BARCNT.REL_CNT n =
            satInc (2 ^ HAL_BARCNT.REL_CNT.width - 1) (s.part.get HAL_BARCNT.REL_CNT n) % 2 ^ HAL_BARCNT.REL_CNT.width) ∧
      ((s.part.barOf b = none ∨ (s.part.barOf b = some n.val ∧ s.part.barState n = 3)) →
        ∃ t, exec (.barRelease rx) s = .next t ∧ t.part.regs = s.part.regs)) ∧
    (s.part.hostActive = true → s.part.barState n = 3 →
      (∃ t, exec (.barrierSlotFree n) s = .next t ∧ (t.part.barState n = 0 ∨ t.part.barState n = 1) ∧
        (s.part.hal.tokens = [] → t.part.barState n = 0) ∧
        t.part.tb = max s.part.tb (nth s.part.hal.relAt n 0 + 1250000)) ∧
      (∀ port f, s.part.hal.tokens = [(port, f)] → f.id < 65536 →
        (∀ m : Fin 4, m ≠ n → s.part.barState m = 0 ∨ s.part.get HAL_BAR.BID 0 m ≠ f.id) →
        ∃ t, exec (.barrierSlotFree n) s = .next t ∧ t.part.barState n = 1 ∧ t.part.get HAL_BAR.BID 0 n = f.id)) ∧
    ((s.part.hostActive = false ∨ s.part.barState n ≠ 3) → exec (.barrierSlotFree n) s = .next s) ∧
    (s.part.hostActive = true → s.part.barState n = 2 → s.part.flag HAL_BAR.ORIG 0 n = true → s.part.hal.runOp = 2 →
      ∃ t, exec (.barrierTimeout n) s = .next t ∧ t.part.get HAL_OPSTAT.RESULT = 4 ∧
        t.part.flag HAL_OPSTAT.BUSY = false ∧ t.part.hal.runOp = 0 ∧
        t.part.tb = max s.part.tb (nth s.part.hal.launchAt n 0 + 12500000)) ∧
    ((s.part.hostActive = false ∨ s.part.barState n ≠ 2 ∨ s.part.flag HAL_BAR.ORIG 0 n = false ∨ s.part.hal.runOp ≠ 2) →
      exec (.barrierTimeout n) s = .next s)

/-- Snapshots (R640, R641). A schedule in time and with TB_LOCK is kept and ends well; one too soon is refused with RESULT = 3, and one
without TB_LOCK, or with a wrong key, or while an operation runs, with RESULT = 2; of one both too soon and without TB_LOCK RESULT = 3 is the model's choice (assumption log 53). A received one waits for
its instant, or latches late.
The earliest instant latches, with TB there. A collection keeps what it waits for, and a collector that is itself named stores its own
response first; a named node answers a collection, another does not; each response in time is stored, and the last ends the operation
well; the timeout ends it partial with the number that is missing. Without a snapshot or a collection the last two change nothing. -/
def Obligations.Snapshots : Prop :=
  ∀ (s : State) (rx : HalRx) (id key : Nat),
    (∀ (c : Instr) (op : Nat), ((c = .snapshotSchedule key id ∧ op = 3) ∨ (c = .snapshotCollect key id ∧ op = 4)) →
      (s.part.pmbActive = false → exec c s = .next s) ∧
      (s.part.pmbActive = true → (key ≠ 0xA5 ∨ s.part.flag HAL_OPSTAT.BUSY = true) →
        exec c s = .next (s.withPart (((s.part.hal0.set HAL_OPSTAT.OP op).set HAL_OPSTAT.RESULT 2).refuse .pmbus 0xB0030)))) ∧
    (∀ ts, ts = s.part.get HAL_OPT_LO.T_LO + 2 ^ 32 * s.part.get HAL_OPT_HI.T_HI → s.part.opFree = true →
      (s.part.tb + s.part.tBcast ≤ ts → s.part.flag HAL_STAT.TB_LOCK = true →
        ∃ t, exec (.snapshotSchedule 0xA5 id) s = .next t ∧ t.part.get HAL_OPSTAT.RESULT = 1 ∧
          t.part.hal.snaps =
            s.part.hal.snaps ++ [⟨id % 65536, ts, s.part.get HAL_OPARG.SCOPE, s.part.get HAL_OPARG.GROUP⟩]) ∧
      (∀ k, ((ts < s.part.tb + s.part.tBcast ∧ k = 3) ∨
          (s.part.tb + s.part.tBcast ≤ ts ∧ s.part.flag HAL_STAT.TB_LOCK = false ∧ k = 2)) →
        ∃ t, exec (.snapshotSchedule 0xA5 id) s = .next t ∧ t.part.get HAL_OPSTAT.RESULT = k ∧
          t.part.hal.snaps = s.part.hal.snaps ∧ t.part.get HOST_REFADDR.ADDR = 0xB0030)) ∧
    (s.part.takesBcast rx 0x30 = true →
      (s.part.tb ≤ leAt rx.frame.payload 0 8 → ∃ t, exec (.snapSched rx) s = .next t ∧
        t.part.hal.snaps.length = s.part.hal.snaps.length + 1 ∧ t.part.regs = s.part.regs) ∧
      (leAt rx.frame.payload 0 8 < s.part.tb → ∃ t, exec (.snapSched rx) s = .next t ∧
        t.part.flag HAL_SNAPSTAT.LATE = true ∧ t.part.hal.latched = [rx.frame.id] ∧ t.part.hal.snaps = s.part.hal.snaps)) ∧
    (∀ (sn : Snap) (ts : Nat), s.part.hostActive = true → ts = minN (s.part.hal.snaps.map Snap.ts) →
      (s.part.hal.snaps.filter fun x => x.ts == ts).head? = some sn →
      ∃ t, exec .snapLatch s = .next t ∧ t.part.tb = max s.part.tb ts ∧
        t.part.hal.snaps = (s.part.hal.snaps.filter fun x => !(x.ts == ts)) ∧
        sn.id ∈ t.part.hal.latched ∧ t.part.get HAL_SNAPSTAT.ID = sn.id % 65536 ∧
        t.part.flag HAL_SNAPSTAT.LATE = false) ∧
    ((s.part.hostActive = false ∨ s.part.hal.snaps = []) → exec .snapLatch s = .next s) ∧
    (∀ k, k = clampN 1 64 (s.part.get HAL_OPARG.COUNT) → s.part.opFree = true →
      (s.part.named (nodeOf (s.part.get HAL_OPARG.DEST)) k = false →
        ∃ t, exec (.snapshotCollect 0xA5 id) s = .next t ∧ t.part.flag HAL_OPSTAT.BUSY = true ∧
          t.part.get HAL_OPSTAT.RCVD = 0 ∧
          t.part.hal.collect = some ⟨id % 65536, k, 0, s.part.tb + s.part.tColl k⟩) ∧
      (s.part.named (nodeOf (s.part.get HAL_OPARG.DEST)) k = true →
        ∃ t, exec (.snapshotCollect 0xA5 id) s = .next t ∧ t.part.get HAL_OPSTAT.RCVD = 1 ∧
          t.part.get HAL_COLL_SRC.SRC 0 = s.part.ownSrc % 2 ^ HAL_COLL_SRC.SRC.width ∧
          (k = 1 → t.part.get HAL_OPSTAT.RESULT = 1 ∧ t.part.flag HAL_OPSTAT.BUSY = false) ∧
          (1 < k → t.part.hal.collect = some ⟨id % 65536, k, 1, s.part.tb + s.part.tColl k⟩))) ∧
    (s.part.takesBcast rx 0x31 = true →
      (s.part.named (leAt rx.frame.payload 0 2) (leAt rx.frame.payload 2 1) = true → s.part.portIsUp .east = true →
        ∃ t f, exec (.snapCollect rx) s = .next t ∧ Sent.frame .east f false ∈ t.part.hal.sent ∧ f.type = 0x32 ∧
          f.dest = rx.frame.src ∧ f.id = rx.frame.id ∧ t.part.regs = s.part.regs) ∧
      (s.part.named (leAt rx.frame.payload 0 2) (leAt rx.frame.payload 2 1) = false →
        ∃ t, exec (.snapCollect rx) s = .next t ∧ t.part.regs = s.part.regs ∧
          ∀ p f, Sent.frame p f false ∈ t.part.hal.sent → f.type ≠ 0x32)) ∧
    (s.part.takesOwn rx = true →
      (∀ c : Collect, s.part.hal.collect = some c → c.id = rx.frame.id → s.part.tb ≤ c.endAt → c.got < 64 →
        ∃ t, exec (.snapResp rx) s = .next t ∧ t.part.get HAL_OPSTAT.RCVD = c.got + 1 ∧
          t.part.get HAL_COLL_SRC.SRC c.got = rx.frame.src % 2 ^ HAL_COLL_SRC.SRC.width ∧
          (c.got + 1 < c.count → t.part.hal.collect = some { c with got := c.got + 1 }) ∧
          (c.count ≤ c.got + 1 → t.part.hal.collect = none ∧ t.part.get HAL_OPSTAT.RESULT = 1 ∧
            t.part.flag HAL_OPSTAT.BUSY = false)) ∧
      ((∀ c : Collect, s.part.hal.collect = some c → c.id ≠ rx.frame.id ∨ c.endAt < s.part.tb) →
        ∃ t, exec (.snapResp rx) s = .next t ∧ t.part.regs = s.part.regs ∧ t.part.hal.collect = s.part.hal.collect)) ∧
    (∀ c : Collect, s.part.hostActive = true → s.part.hal.collect = some c →
      ∃ t, exec .collectTimeout s = .next t ∧ t.part.hal.collect = none ∧ t.part.get HAL_OPSTAT.RESULT = 5 ∧
        t.part.get HAL_OPSTAT.MISSING = (c.count - c.got) % 2 ^ HAL_OPSTAT.MISSING.width ∧
        t.part.flag HAL_OPSTAT.BUSY = false ∧ t.part.tb = max s.part.tb c.endAt) ∧
    ((s.part.hostActive = false ∨ s.part.hal.collect = none) → exec .collectTimeout s = .next s)

/-- RESET over the ring (R642, R670). The originator of OP 5 resets, with code 5; OP 6 sends the frame to its destination and ends well
without a reset; a wrong key, or an operation that runs, is refused with RESULT = 2. A node with RESET_EN that receives RESET resets; one
without it does not. -/
def Obligations.RingResets : Prop :=
  ∀ (s : State) (rx : HalRx) (id key : Nat),
    (∀ (c : Instr) (op : Nat), ((c = .resetAll key id ∧ op = 5) ∨ (c = .resetNode key id ∧ op = 6)) →
      (s.part.pmbActive = false → exec c s = .next s) ∧
      (s.part.pmbActive = true → (key ≠ 0xA5 ∨ s.part.flag HAL_OPSTAT.BUSY = true) →
        exec c s = .next (s.withPart (((s.part.hal0.set HAL_OPSTAT.OP op).set HAL_OPSTAT.RESULT 2).refuse .pmbus 0xB0030)))) ∧
    (s.part.opFree = true → ∃ t, exec (.resetAll 0xA5 id) s = .next t ∧ t.part.dev = .off ∧
      t.part.get SYS_RESET.LAST_RESET = 5 ∧ t.array = s.array ∧
      (s.part.portIsUp .east = true → ∃ f, Sent.frame .east f false ∈ t.part.hal.sent ∧ f.type = 0x40)) ∧
    (s.part.opFree = true → ∃ t, exec (.resetNode 0xA5 id) s = .next t ∧ t.part.dev = s.part.dev ∧
      t.part.get HAL_OPSTAT.RESULT = 1 ∧ t.part.get HAL_OPSTAT.OP = 6 ∧
      (s.part.portIsUp .east = true → ∃ f, Sent.frame .east f false ∈ t.part.hal.sent ∧ f.type = 0x40 ∧
        f.dest = s.part.get HAL_OPARG.DEST)) ∧
    (s.part.takesBcast rx 0x40 = true → s.part.flag HAL_CFG.RESET_EN = true →
      ∃ t, exec (.resetFrame rx) s = .next t ∧ t.part.dev = .off ∧ t.part.get SYS_RESET.LAST_RESET = 5) ∧
    (s.part.takesBcast rx 0x40 = true → s.part.flag HAL_CFG.RESET_EN = false →
      ∃ t, exec (.resetFrame rx) s = .next t ∧ t.part.dev = s.part.dev ∧ t.part.regs = s.part.regs)

/-! Redundant pairs. -/

/-- Heartbeats (R650 to R652, R656). HB_SEND in READY and RUN over an up pair port sends the set with its sequence, every 1,000 ticks,
and else nothing. A received HB is noted with the partner's ARMED bit; a MAIN's HB with the self-fault bit makes an armed MIZZEN that does
not own the stages take over. 4 µs without one end PARTNER_HB and ARMED, and on an armed MIZZEN that does not own the stages lead to the
takeover. 12 µs after a self-fault without a takeover no takeover is awaited any more. In the other cases none of them changes a register. -/
def Obligations.Heartbeats : Prop :=
  ∀ (s : State) (rx : HalRx),
    (s.part.live = true → s.part.paired = true → s.part.portIsUp s.part.pairPort = true →
      ∃ t, exec .hbSend s = .next t ∧ t.part.tb = max s.part.tb (nextOn s.part.pair.hbAt 1000 s.part.tb) ∧
        t.part.hal.sent = [.hb s.part.pairPort s.part.hbChar] ∧ t.part.pair.hbSeq = (s.part.pair.hbSeq + 1) % 16 ∧
        t.part.regs = s.part.regs) ∧
    ((s.part.live = false ∨ s.part.paired = false ∨ s.part.portIsUp s.part.pairPort = false) →
      exec .hbSend s = .next (s.withPart s.part.hal0)) ∧
    (s.part.hostActive = true → s.part.paired = true → rx.port = s.part.pairPort → s.part.portIsUp rx.port = true →
      rx.crcOk = true → ∃ t, exec (.hb rx) s = .next t ∧ t.part.flag PAIR_STAT.PARTNER_HB = true ∧
        t.part.get PAIR_STAT.PARTNER_ARMED = bitOf (leAt rx.frame.payload 0 1) 2 ∧ t.part.pair.lastHb = some s.part.tb ∧
        (s.part.role = .mizzen → t.part.pair.partnerSelf = (bitOf (leAt rx.frame.payload 0 1) 1 == 1)) ∧
        (s.part.shadowing = true → s.part.live = true → s.part.flag HAL_STAT.TB_LOCK = true →
          (∃ x, s.part.pair.lastHb = some x ∧ s.part.tb ≤ x + 5000) → s.part.pair.hbSince + 1250000 ≤ s.part.tb →
          (bitOf (leAt rx.frame.payload 0 1) 1 = 1 → t.part.flag PAIR_STAT.OWNER = true ∧
            t.part.flag PAIR_STAT.TAKEOVER_EV = true) ∧
          (bitOf (leAt rx.frame.payload 0 1) 1 = 0 → t.part.flag PAIR_STAT.ARMED = true))) ∧
    ((s.part.hostActive = false ∨ s.part.paired = false ∨ rx.port ≠ s.part.pairPort ∨ s.part.portIsUp rx.port = false ∨
        rx.crcOk = false) → exec (.hb rx) s = .next (s.withPart s.part.hal0)) ∧
    (s.part.hostActive = true → s.part.paired = true →
      (s.part.pair.lastHb ≠ none ∨ s.part.bit SVC_STATUS.CAUSE 6 = false) →
      ∃ t, exec .hbTimeout s = .next t ∧ t.part.flag PAIR_STAT.PARTNER_HB = false ∧ t.part.flag PAIR_STAT.ARMED = false ∧
        t.part.flag PAIR_STAT.HBLOST_EV = true ∧ t.part.pair.lastHb = none ∧
        t.part.tb = (s.part.pair.lastHb.elim s.part.tb fun x => max s.part.tb (x + 5000)) ∧
        (s.part.mayTake = true → t.part.flag PAIR_STAT.OWNER = true ∧ t.part.flag PAIR_STAT.TAKEOVER_EV = true) ∧
        (s.part.mayTake = false → t.part.flag PAIR_STAT.OWNER = s.part.flag PAIR_STAT.OWNER)) ∧
    ((s.part.hostActive = false ∨ s.part.paired = false ∨
        (s.part.pair.lastHb = none ∧ s.part.bit SVC_STATUS.CAUSE 6 = true)) → exec .hbTimeout s = .next s) ∧
    (s.part.role = .main → s.part.pair.selfFault = true → s.part.pair.noTakeover = false →
      ∃ t, exec .selfFaultTimeout s = .next t ∧ t.part.pair.noTakeover = true ∧ t.part.pair.waitRails = [] ∧
        t.part.tb = max s.part.tb (s.part.pair.selfFaultAt + 15000) ∧
        (s.part.pair.waitRails = [] → t.part.regs = s.part.regs)) ∧
    ((s.part.role ≠ .main ∨ s.part.pair.selfFault = false ∨ s.part.pair.noTakeover = true) →
      exec .selfFaultTimeout s = .next s)

/-- The cross-check of a pair (R658, R659). The MAIN ends its window and sends the 48 bytes of its sums; the MIZZEN counts the window that
it compares; a window that ends without its frame counts as skipped, and no register but that count changes. A frame whose CRC fails is
counted; outside READY and RUN, in another role or at another port nothing changes but the frames sent. -/
def Obligations.CrossCheck : Prop :=
  ∀ (s : State) (rx : HalRx),
    (s.part.live = true → s.part.role = .main →
      ∃ t, exec .pairxSend s = .next t ∧ t.part.tb = max s.part.tb s.part.windowEnd ∧ t.part.regs = s.part.regs ∧
        (s.part.portIsUp s.part.pairPort = true → ∃ f, t.part.hal.sent = [.frame s.part.pairPort f false] ∧ f.type = 0x60 ∧
          f.payload.length = 48) ∧
        (s.part.portIsUp s.part.pairPort = false → t.part.hal.sent = [])) ∧
    ((s.part.live = false ∨ s.part.role ≠ .main) → exec .pairxSend s = .next (s.withPart s.part.hal0)) ∧
    (s.part.live = true → s.part.role = .mizzen → rx.port = s.part.pairPort → s.part.portIsUp rx.port = true →
      (rx.crcOk = true → ∃ t, exec (.pairx rx) s = .next t ∧ t.part.pair.pairxSeen = true ∧
        t.part.get PAIR_XCNT.XWIN_CNT = (s.part.get PAIR_XCNT.XWIN_CNT + 1) % 2 ^ PAIR_XCNT.XWIN_CNT.width) ∧
      (rx.crcOk = false → exec (.pairx rx) s = .next (s.withPart (s.part.hal0.crcBad rx.port)))) ∧
    ((s.part.live = false ∨ s.part.role ≠ .mizzen ∨ rx.port ≠ s.part.pairPort ∨ s.part.portIsUp rx.port = false) →
      exec (.pairx rx) s = .next (s.withPart s.part.hal0)) ∧
    (s.part.live = true → s.part.role = .mizzen →
      ∃ t, exec .pairxWindowSkip s = .next t ∧
        t.part.regs = (if s.part.pair.pairxSeen then s.part else s.part.bump PAIR_XCNT.XSKIP_CNT).regs ∧
        t.part.tb = max s.part.tb s.part.windowEnd) ∧
    ((s.part.live = false ∨ s.part.role ≠ .mizzen) → exec .pairxWindowSkip s = .next s)

/-! Samples and commits. -/

/-- The decimated window of a rail (R127, R128, R133, R135). Each of its N codes is the distance in 0.1 mV of the voltage at t_k − 16 j
from the code of the DAC, held between −1,024 and 1,023; e is the trimmed window sum less the telltale compensation and plus the
dither of its sign, saturated to 16 bits, and it is published as it stands, with the latest raw code and the saturation mark. A window that
holds 1,023 is marked SAT_HI, sets SATH_EV and counts; one that holds −1,024 is marked SAT_LO, sets SATL_EV and counts; any other
leaves these flags. -/
def Obligations.WindowPublished : Prop :=
  ∀ (p : Part) (n : Rail) (uv cs : List Int),
    cs = (List.range (p.rail n).windowN).map (fun j =>
      clampI (-1024) 1023 (roundDiv (nth uv j 0 - (125 * (p.rail n).dac : Nat)) 100)) →
    (p.window n uv).e = satS 16 (roundDiv (p.get SEN_CAL.GTRIM n *
      ((16 / (p.rail n).windowN : Nat) * sumI cs - p.getS SEN_CAL.OFS n)) 32768 - p.get SEN_CFG.TT_COMP n +
      20 * (p.rail n).signNow) ∧
    (p.window n uv).hi = cs.contains 1023 ∧ (p.window n uv).lo = cs.contains (-1024) ∧
    -32768 ≤ (p.window n uv).e ∧ (p.window n uv).e ≤ 32767 ∧
    (p.showWindow n (p.window n uv)).getS SEN_ERR.ECODE n = (p.window n uv).e ∧
    (p.showWindow n (p.window n uv)).getS SEN_ERR.RAW n = nth cs 0 0 ∧
    (p.showWindow n (p.window n uv)).flag SEN_ERR.WSAT n = (cs.contains 1023 || cs.contains (-1024)) ∧
    (p.showWindow n (p.window n uv)).flag SEN_STAT.SATH_EV n = (cs.contains 1023 || p.flag SEN_STAT.SATH_EV n) ∧
    (p.showWindow n (p.window n uv)).flag SEN_STAT.SATL_EV n = (cs.contains (-1024) || p.flag SEN_STAT.SATL_EV n) ∧
    (p.showWindow n (p.window n uv)).get SEN_EVCNT.SATH_CNT n =
      (if cs.contains 1023 then p.bump SEN_EVCNT.SATH_CNT n else p).get SEN_EVCNT.SATH_CNT n ∧
    (p.showWindow n (p.window n uv)).get SEN_EVCNT.SATL_CNT n =
      (if cs.contains (-1024) then p.bump SEN_EVCNT.SATL_CNT n else p).get SEN_EVCNT.SATL_CNT n

/-- CONTROL_SAMPLE of a rail whose converters run in READY or RUN falls on its slot of the control grid, which TB has then reached
(R135, R137; a slot between two steps of 25 ps counts as the lower one, the model's choice, assumption log 55); of another it
changes nothing.
COMMIT (R187, R257, R387, R798). Before the first sample, in OFF, and outside READY and RUN it changes nothing. While the converters
run it falls on the update instant in native timing, else now; outside an exchange and a hand-over it leaves a duty of a rail that ramps
up or has committed before, and none of another; without current-hold, open segment, repeat and burst start that duty is the valid
entry's of its slot, or else the native one. In a gap it takes a rail that is due to leave BURST to REGULATE, and changes nothing else.
TELLTALE_FILTER while the PWM clock runs (R149, R166): the telltale of the side shows its level, a rise is an event and counts, and
no other register changes; while the clock stands it changes nothing. -/
def Obligations.SampleAndCommit : Prop :=
  (∀ (s : State) (n : Rail) (uv : List Int) (k : Checks) (sp : List Bool),
    (s.part.live = true → s.part.convRun n = true →
      ∃ t, exec (.controlSample n uv k sp) s = .next t ∧ t.array = s.array ∧ t.otp = s.otp ∧
        t.part.tb = max s.part.tb (s.part.gridAt n (s.part.rail n).baseSt (s.part.rail n).divM (s.part.rail n).kIdx / 32)) ∧
    ((s.part.live && s.part.convRun n) = false → exec (.controlSample n uv k sp) s = .next s)) ∧
  (∀ (s : State) (n : Rail), s.part.rails.length = 8 →
    ((s.part.live = false ∨ s.part.rst n = .off ∨ (s.part.rail n).samples = 0) → exec (.commit n) s = .next s) ∧
    (s.part.live = true → (s.part.rail n).samples ≠ 0 → s.part.convRun n = true →
      ∃ t, exec (.commit n) s = .next t ∧ t.array = s.array ∧ t.otp = s.otp ∧
        t.part.tb = (if s.part.native n then
          max s.part.tb (s.part.gridAt n (s.part.rail n).baseSt (s.part.rail n).divM (s.part.rail n).kIdx / 32) else s.part.tb) ∧
        (s.part.eng.cur = none → (s.part.rail n).pbStage = 0 →
          (((s.part.rail n).dutyCom = none ∧ s.part.rst n ≠ .rampUp) → (t.part.rail n).dutyCom = none) ∧
          (((s.part.rail n).dutyCom ≠ none ∨ s.part.rst n = .rampUp) → (t.part.rail n).dutyCom ≠ none ∧
            ((s.part.rail n).curHold = none → s.part.openCommit n = false → (s.part.rail n).repeatLast = false →
              (s.part.rail n).burstFirst = false → (t.part.rail n).dutyCom =
                some (match (s.part.rail n).entries.find? (fun e => e.slot == (s.part.rail n).samples + 1 && e.valid) with
                  | some e => e.duty
                  | none => (s.part.rail n).dutyShadow.getD 0))))) ∧
    (s.part.live = true → (s.part.rail n).samples ≠ 0 → s.part.convRun n = false →
      ((s.part.rail n).gap = true → (s.part.rail n).pbOwns = false → (s.part.rail n).pendBurst = true →
        s.part.rst n = .burst → ∃ t, exec (.commit n) s = .next t ∧ t.part.rst n = .regulate ∧
          t.part.tb = max s.part.tb (s.part.gridAt n (s.part.rail n).baseSt (s.part.rail n).divM (s.part.nextSlot n) / 32)) ∧
      (((s.part.rail n).gap && !(s.part.rail n).pbOwns && (s.part.rail n).pendBurst) = false →
        exec (.commit n) s = .next s))) ∧
  (∀ (s : State) (n : Rail) (side : SenseSide) (level : Bool) (f : Fld),
    f = (match side with | .pos => SEN_STAT.TT_P | .neg => SEN_STAT.TT_N) →
    (s.part.pwmRuns = true → (level = false ∨ s.part.flag f n = true) →
      exec (.telltaleFilter n side level) s = .next (s.withPart (s.part.put f level n))) ∧
    (s.part.pwmRuns = true → level = true → s.part.flag f n = false →
      ∃ t, exec (.telltaleFilter n side level) s = .next t ∧ t.part.flag f n = true ∧ t.part.flag SEN_STAT.TT_EV n = true ∧
        t.part.get SEN_EVCNT.TT_CNT n = (s.part.bump SEN_EVCNT.TT_CNT n).get SEN_EVCNT.TT_CNT n ∧
        ∀ (g : Fld) (i j : Nat), g.at i j ∉ [f.at n 0, SEN_STAT.TT_EV.at n 0, SEN_EVCNT.TT_CNT.at n 0] →
          t.part.get g i j = s.part.get g i j) ∧
    (s.part.pwmRuns = false → exec (.telltaleFilter n side level) s = .next s))

/-! Run-ahead. -/

/-- DISARM, INTENT_MISSED and PREP_DONE (R246, R269, R275). An armed rail whose ARM_HOLD samples have passed is disarmed, and nothing
else; a pending intent whose sample lies at or after t_x + MISS_WIN ends, with every entry squashed and the miss counted; a preparation
whose phases all have their sixteen samples shows so, and nothing else. In every other case the command changes nothing.
LIP_STROBE (R262 to R267). A strobe less than 50 ticks after the one before on its port is a violation, counts, and does nothing else
but end a park entry; another shows its code and counts. On a rail that its port alone reaches and that takes step codes, a step code
becomes the pending intent; on one that refuses, a step or cancel code is counted as refused; a code of another kind leaves its
intent. Outside READY, RUN and SAFE a strobe changes nothing. -/
def Obligations.RunAheadCommands : Prop :=
  (∀ (s : State) (n : Rail),
    (s.part.flag RA_STAT.ARMED n = true → s.part.armHold n ≤ (s.part.rail n).raIdle →
      exec (.disarm n) s = .next (s.withPart (s.part.set RA_STAT.ARMED 0 n))) ∧
    ((s.part.flag RA_STAT.ARMED n = false ∨ (s.part.rail n).raIdle < s.part.armHold n) → exec (.disarm n) s = .next s) ∧
    (∀ x, s.part.get RA_STAT.INTENT n = 1 → (s.part.rail n).intent = some x →
      x.tx + s.part.missWin n ≤ (s.part.rail n).lastSt → s.part.rails.length = 8 →
      ∃ t, exec (.intentMissed n) s = .next t ∧ t.part.get RA_STAT.INTENT n = 0 ∧ (t.part.rail n).intent = none ∧
        (t.part.rail n).entries = [] ∧ t.part.flag RA_STAT.MISS_EV n = true ∧ t.part.betaShown n = 0 ∧
        t.part.get RA_EVCNT.MISS_CNT n = (s.part.bump RA_EVCNT.MISS_CNT n).get RA_EVCNT.MISS_CNT n) ∧
    ((s.part.get RA_STAT.INTENT n ≠ 1 ∨ (s.part.rail n).intent = none ∨
        (∃ x, (s.part.rail n).intent = some x ∧ (s.part.rail n).lastSt < x.tx + s.part.missWin n)) →
      exec (.intentMissed n) s = .next s) ∧
    ((s.part.rail n).prep ≠ [] → (∀ x ∈ (s.part.rail n).prep, 16 ≤ x.count) →
      exec (.prepDone n) s = .next (s.withPart (s.part.set RA_STAT.PREP_DONE 1 n))) ∧
    (((s.part.rail n).prep = [] ∨ ∃ x ∈ (s.part.rail n).prep, x.count < 16) → exec (.prepDone n) s = .next s)) ∧
  (∀ (s : State) (port : LipPort) (code ix : Nat) (viol violCnt shown cnt map other : Fld),
    (ix, viol, violCnt, shown, cnt, map, other) = (match port with
      | .a => (0, LIP_STAT.VIOL_A_EV, LIP_EVCNT.VIOL_A_CNT, LIP_STAT.CODE_A, LIP_EVCNT.STB_A_CNT, LIP_CFG.MAP_A, LIP_CFG.MAP_B)
      | .b => (1, LIP_STAT.VIOL_B_EV, LIP_EVCNT.VIOL_B_CNT, LIP_STAT.CODE_B, LIP_EVCNT.STB_B_CNT, LIP_CFG.MAP_B, LIP_CFG.MAP_A)) →
    (s.part.hostActive = false → exec (.lipStrobe port code) s = .next s) ∧
    (s.part.hostActive = true →
      (∀ at_, nth s.part.lipLast ix none = some at_ → s.part.tb < at_ + 50 →
        exec (.lipStrobe port code) s = .next (s.withPart (s.part.abortPark.event viol violCnt))) ∧
      (∀ n : Rail, (∀ at_, nth s.part.lipLast ix none = some at_ → at_ + 50 ≤ s.part.tb) →
        ∃ t, exec (.lipStrobe port code) s = .next t ∧ t.part.get shown = code % 2 ^ shown.width ∧
          t.part.get cnt = (s.part.get cnt + 1) % 2 ^ cnt.width ∧ t.part.parkReq = (s.part.parkReq && !s.part.live) ∧
          t.part.lipLast = upd s.part.lipLast ix (fun _ => some s.part.tb) ∧
          (s.part.rails.length = 8 → s.part.get map = 2 ^ n.val → Nat.land (2 ^ n.val) (s.part.get other) = 0 →
            (s.part.get RA_ITAB.KIND n (code % 16) = 0 → s.part.intentRefused n = false →
              t.part.get RA_STAT.INTENT n = 1 ∧ t.part.get RA_STAT.ICODE n = code % 16 ∧
              (t.part.rail n).intent.map Intent.step = some (s.part.getS RA_ITAB.STEP n (code % 16)) ∧
              (s.part.get RA_STAT.INTENT n ≠ 0 → (t.part.rail n).entries = [])) ∧
            (s.part.get RA_ITAB.KIND n (code % 16) = 1 → s.part.intentRefused n = false →
              t.part.get RA_STAT.INTENT n = 0 ∧ (t.part.rail n).intent = none ∧ (t.part.rail n).entries = []) ∧
            (s.part.get RA_ITAB.KIND n (code % 16) < 2 → s.part.intentRefused n = true →
              t.part.flag RA_STAT.LIPREF_EV n = true ∧ t.part.rail n = s.part.rail n) ∧
            (2 ≤ s.part.get RA_ITAB.KIND n (code % 16) → t.part.rail n = s.part.rail n ∧
              t.part.get RA_STAT.INTENT n = s.part.get RA_STAT.INTENT n)))))

/-! Rails. -/

/-- The debounced pins (R357 to R360). A level of ENn that has not held for EN_DEB, or that comes outside READY, RUN and SAFE, is not
taken; it can only end a park entry as a wake source. One that has held is taken, and the on request follows it; in SAFE nothing else
changes; in READY and RUN a rail in OFF that is not requested stays there, and one that is requested, eligible and without an input fault
or overvoltage leaves for DELAY_ON. A level of CONTROL is held to the EN_DEB of each rail in the same way: each rail that it has held for
takes it and shows its request, and in SAFE every other rail keeps its state. -/
def Obligations.PinLevels : Prop :=
  ∀ (s : State) (n : Rail) (level : Bool) (ns : Nat), s.part.rails.length = 8 →
    (s.part.debounced n ns = false → exec (.enDebounce n ⟨level, ns⟩) s = .next (s.withPart
      (if (level && !(s.part.rail n).enPin && s.part.flag SYS_WAKE.EN_WAKE) = true then s.part.abortPark else s.part))) ∧
    (s.part.debounced n ns = true →
      ∃ t, exec (.enDebounce n ⟨level, ns⟩) s = .next t ∧ (t.part.rail n).enPin = level ∧
        t.part.flag RAIL_STATUS.ON_REQ n = t.part.onReq n ∧
        (s.part.dev = .safe → t.part.dev = .safe ∧ (∀ m : Rail, t.part.rst m = s.part.rst m) ∧
          (∀ m : Rail, m ≠ n → t.part.rail m = s.part.rail m)) ∧
        (s.part.live = true → s.part.rst n = .off → t.part.onReq n = false → t.part.rst n = .off) ∧
        (s.part.live = true → s.part.rst n = .off → t.part.onReq n = true → s.part.eligible n = true → s.part.vinFresh = true →
          s.part.flag PROT_VIN.VIN_OV_ACT = false → s.part.flag PROT_VIN.VIN_UV_ACT = false →
          s.part.monReport (s.part.get PR_MON.MON_OV n) ≠ some 1 → t.part.rst n = .delayOn ∧ t.part.dev = .run)) ∧
    (s.part.hostActive = false → exec (.controlDebounce ⟨level, ns⟩) s = .next s) ∧
    (s.part.hostActive = true →
      ∃ t, exec (.controlDebounce ⟨level, ns⟩) s = .next t ∧
        (∀ m : Rail, s.part.debounced m ns = true →
          (t.part.rail m).ctlPin = level ∧ t.part.flag RAIL_STATUS.ON_REQ m = t.part.onReq m) ∧
        (∀ m : Rail, s.part.debounced m ns = false → (t.part.rail m).ctlPin = (s.part.rail m).ctlPin) ∧
        (s.part.dev = .safe → t.part.dev = .safe ∧ ∀ m : Rail, t.part.rst m = s.part.rst m ∧
          (s.part.debounced m ns = false → t.part.rail m = s.part.rail m)))

/-- The turn-on of a rail (R360, R371, R372, R423). DELAY_ON_END leads to RAMP_UP once the pre-bias search is over, at V_start and with
the open segment, no sooner than max(TON_DELAY, 15 µs) after the entry; so does HICCUP_RETRY once the waits are over. Each step of the
search, 1 µs after the one before, goes on while its window saturates, and ends with V_pre = 0 at a low first window, with 2.5 V at the
pins at a high last one, else at the level that the code shows. In other states these commands change nothing. The model's choice
(assumption log 6): a low last window ends the search at a level that no rule states. -/
def Obligations.RailTurnsOn : Prop :=
  ∀ (s : State) (n : Rail) (uv code : Int) (j : Nat), s.part.rails.length = 8 →
    (s.part.rst n = .delayOn → (s.part.rail n).prebiasDone = true →
      ∃ t, exec (.delayOnEnd n) s = .next t ∧ t.part.rst n = .rampUp ∧ t.part.flag RAIL_STATUS.OPEN_SEG n = true ∧
        t.part.get RAIL_VSP.VALUE n = s.part.vStart n % 2 ^ 24 ∧
        t.part.tb = max s.part.tb (((s.part.rail n).entrySt + s.part.tonDelay n) / 32)) ∧
    ((s.part.rst n ≠ .delayOn ∨ (s.part.rail n).prebiasDone = false) → exec (.delayOnEnd n) s = .next s) ∧
    (s.part.rst n = .hiccup → (s.part.rail n).waitClear = [] → (s.part.rail n).prebiasDone = true →
      ∃ t, exec (.hiccupRetry n) s = .next t ∧ t.part.rst n = .rampUp ∧ t.part.flag RAIL_STATUS.OPEN_SEG n = true ∧
        t.part.get RAIL_VSP.VALUE n = s.part.vStart n % 2 ^ 24 ∧
        t.part.tb = max s.part.tb (((s.part.rail n).waitSt + s.part.tonDelay n) / 32)) ∧
    ((s.part.rst n ≠ .hiccup ∨ (s.part.rail n).waitClear ≠ [] ∨ (s.part.rail n).prebiasDone = false) →
      exec (.hiccupRetry n) s = .next s) ∧
    (s.part.searching n = false → exec (.prebiasStep n uv) s = .next s) ∧
    (s.part.searching n = true → j = (s.part.rail n).prebiasJ →
      code = clampI (-1024) 1023 (roundDiv (uv - (200000 * (j + 1) : Nat)) 100) →
      ∃ t, exec (.prebiasStep n uv) s = .next t ∧
        t.part.tb = max s.part.tb ((s.part.searchFrom n + (j + 1) * 40000) / 32) ∧
        (code = -1024 → j = 0 → (t.part.rail n).prebiasDone = true ∧
          t.part.get RAIL_VPRE.VALUE n = 0 ∧ t.part.flag RAIL_STATUS.PREBIAS_FOUND n = false) ∧
        (code = 1023 → j = 11 → (t.part.rail n).prebiasDone = true ∧
          t.part.get RAIL_VPRE.VALUE n = s.part.prebiasV n 25000 % 2 ^ 24) ∧
        (code = -1024 → j = 11 → (t.part.rail n).prebiasDone = true ∧
          t.part.get RAIL_VPRE.VALUE n = Config.unstated s.part.free % 2 ^ 24) ∧
        ((code = 1023 ∨ (code = -1024 ∧ j ≠ 0)) → j ≠ 11 →
          (t.part.rail n).prebiasDone = false ∧ (t.part.rail n).prebiasJ = j + 1) ∧
        (code ≠ -1024 → code ≠ 1023 → (t.part.rail n).prebiasDone = true ∧
          t.part.get RAIL_VPRE.VALUE n = s.part.prebiasV n ((2000 * (j + 1) : Nat) + code) % 2 ^ 24))

/-- The turn-off of a rail and the outputs that follow rails (R360, R376, R380). TOFF_DELAY_END with OFF_PEND and no current-hold leads
to RAMP_DOWN, TOFF_DELAY after OFF_PEND; OFF_WAIT_EXPIRY in DELAY_OFF leads to OFF, OFF_WAIT after its entry, while the rail is not
requested. PG_RELEASE raises PGn once its conditions have held for PG_DLY, and THR_HOLD_END releases its output at the end of THR_HOLD
where no rail asks for it; neither changes another register. In every other case these commands change nothing. -/
def Obligations.RailTurnsOff : Prop :=
  ∀ (s : State) (n : Rail) (k : Fin 4), s.part.rails.length = 8 →
    (s.part.rst n = .regulate → s.part.flag RAIL_STATUS.OFF_PEND n = true → (s.part.rail n).curHold = none →
      ∃ t, exec (.toffDelayEnd n) s = .next t ∧ t.part.rst n = .rampDown ∧
        (t.part.rail n).softStop = (s.part.rail n).pendSoft ∧
        t.part.tb = max s.part.tb (((s.part.rail n).pendSt + min 1000000 (s.part.get RAIL_TOFFDLY.TIME n) * 40000) / 32)) ∧
    ((s.part.rst n ≠ .regulate ∨ s.part.flag RAIL_STATUS.OFF_PEND n = false ∨ (s.part.rail n).curHold ≠ none) →
      exec (.toffDelayEnd n) s = .next s) ∧
    (s.part.rst n = .delayOff → s.part.onReq n = false →
      ∃ t, exec (.offWaitExpiry n) s = .next t ∧ t.part.rst n = .off ∧ t.part.get RAIL_VSP.VALUE n = 0 ∧
        t.part.tb = max s.part.tb (((s.part.rail n).entrySt + orDefault (s.part.get RAIL_STOPCFG.OFF_WAIT n) 1 * 400000) / 32)) ∧
    (s.part.rst n ≠ .delayOff → exec (.offWaitExpiry n) s = .next s) ∧
    (∀ since, (s.part.rail n).pgSt = some since → (s.part.rst n = .regulate ∨ s.part.rst n = .burst) →
      s.part.flag RAIL_STATUS.OFF_PEND n = false → (s.part.rail n).curHold = none →
      exec (.pgRelease n) s = .next (s.withPart
        ((s.part.advanceSt (since + s.part.get RAIL_PGDLY.PG_DLY n * 40000)).set RAIL_STATUS.PG 1 n))) ∧
    (((s.part.rail n).pgSt = none ∨ (s.part.rst n ≠ .regulate ∧ s.part.rst n ≠ .burst) ∨
        s.part.flag RAIL_STATUS.OFF_PEND n = true ∨ (s.part.rail n).curHold ≠ none) →
      exec (.pgRelease n) s = .next s) ∧
    (∀ end_, nth s.part.thrHold k none = some end_ → s.part.thrAsking k = [] →
      ∃ t, exec (.thrHoldEnd k) s = .next t ∧ t.part.regs = (s.part.clearBit THR_STAT.THR k).regs ∧
        t.part.tb = max s.part.tb (end_ / 32) ∧ t.part.thrHold = upd s.part.thrHold k (fun _ => none)) ∧
    ((nth s.part.thrHold k none = none ∨ s.part.thrAsking k ≠ []) → exec (.thrHoldEnd k) s = .next s)

/-- Burst (R382, R386, R387). A rail without OFF_PEND and current-hold whose dwell is over enters BURST at the next update instant and counts
the entry; another one changes nothing. A trip in an engine burst's gap ends the gap, the next sample is that of the next slot, a second
short gap in a row calls for the end of the burst, and no register changes but what the DAC shows for the next window. A trip in no
gap of an engine burst, in another rail state, and outside READY and RUN changes nothing. A trip while the parked-burst generator owns the
rail begins the hand-over once its slice is loaded (R397), and else changes nothing. -/
def Obligations.BurstEntryAndTrip : Prop :=
  ∀ (s : State) (n : Rail), s.part.rails.length = 8 →
    (∀ at_, (s.part.rail n).burstDwellSt = some at_ →
      (s.part.rst n = .regulate → s.part.flag RAIL_STATUS.OFF_PEND n = false → (s.part.rail n).curHold = none →
        at_ + orDefault (s.part.get RAIL_BURST2.BURST_DWELL n) 1 * 40000 ≤ (s.part.rail n).lastSt →
        ∃ t, exec (.burstEntry n) s = .next t ∧ t.part.rst n = .burst ∧ t.part.flag RAIL_STATUS.BURST_EV n = true ∧
          t.part.get RAIL_EVCNT.BURST_CNT n = (s.part.bump RAIL_EVCNT.BURST_CNT n).get RAIL_EVCNT.BURST_CNT n ∧
          (t.part.rail n).shortGaps = 0 ∧ t.part.tb = max s.part.tb (s.part.nextTk n / 32)) ∧
      ((s.part.rst n ≠ .regulate ∨ s.part.flag RAIL_STATUS.OFF_PEND n = true ∨ (s.part.rail n).curHold ≠ none ∨
          (s.part.rail n).lastSt < at_ + orDefault (s.part.get RAIL_BURST2.BURST_DWELL n) 1 * 40000) →
        exec (.burstEntry n) s = .next s)) ∧
    ((s.part.rail n).burstDwellSt = none → exec (.burstEntry n) s = .next s) ∧
    (s.part.live = true → s.part.rst n = .burst → (s.part.rail n).pbOwns = false → (s.part.rail n).gap = true →
      ∃ t, exec (.burstTrip n) s = .next t ∧ (t.part.rail n).gap = false ∧ (t.part.rail n).burstFirst = true ∧
        (t.part.rail n).kIdx = s.part.nextSlot n ∧ (∀ m : Rail, m ≠ n → t.part.rail m = s.part.rail m) ∧
        (s.part.tb < (s.part.rail n).gapStart + orDefault (s.part.get RAIL_BURST2.BURST_MINGAP n) 1 * 125 →
          (t.part.rail n).shortGaps = (s.part.rail n).shortGaps + 1 ∧
          ((s.part.rail n).shortGaps ≠ 0 → (t.part.rail n).pendBurst = true)) ∧
        ((s.part.rail n).gapStart + orDefault (s.part.get RAIL_BURST2.BURST_MINGAP n) 1 * 125 ≤ s.part.tb →
          (t.part.rail n).shortGaps = 0 ∧ (t.part.rail n).pendBurst = (s.part.rail n).pendBurst) ∧
        ∀ (f : Fld) (i j : Nat), f.at i j ∉ [SEN_SPDAC.SP_CODE.at n 0, SEN_SPDAC.SP_CLAMP.at n 0, SEN_SPDAC.DITHER_S.at n 0] →
          t.part.get f i j = s.part.get f i j) ∧
    ((s.part.live = false ∨ s.part.rst n ≠ .burst ∨ ((s.part.rail n).pbOwns = false ∧ (s.part.rail n).gap = false)) →
      exec (.burstTrip n) s = .next s) ∧
    (s.part.live = true → s.part.rst n = .burst → (s.part.rail n).pbOwns = true →
      (∀ sl, s.part.servingOf n = some sl → s.part.sst sl = .track → (s.part.rail n).pbStopped = false →
        (s.part.rail n).pbStage = 0 →
        ∃ t, exec (.burstTrip n) s = .next t ∧ (t.part.rail n).pbStage = 1 ∧ (t.part.rail n).gap = false ∧
          (t.part.rail n).dutyCom = some (s.part.dPb n) ∧ (t.part.rail n).kIdx = s.part.nextSlot n) ∧
      (((∀ sl, s.part.servingOf n = some sl → s.part.sst sl ≠ .track) ∨ (s.part.rail n).pbStopped = true ∨
          (s.part.rail n).pbStage ≠ 0) →
        exec (.burstTrip n) s = .next s))

/-! Protection. -/

/-- OV_EC (fault code 3), UV_EC (4) and SHORT_AT_START (7) of a rail (R417 to R426). Below its limit the command changes nothing; of a rail
in OFF it changes no register. Elsewhere it raises the flag of its code and LAST_FAULT. In class C and D, in a shadowing MIZZEN, and in
LATCHED of an earlier instant the rail keeps its state. Else, outside HICCUP and current-hold and with no soft stop due: class A, but for
SOFTSTOP of a ramp or a running rail, leads to OFF with the rail not requested, to LATCHED once its retries are used up, and to HICCUP
otherwise; SOFTSTOP leads to an open-loop RAMP_DOWN, and class B to a closed-loop one at the next sample. In HICCUP a code without a
retry left leads to LATCHED while the rail is requested, and one with retries leaves the state. -/
def Obligations.FaultResponses : Prop :=
  ∀ (s : State) (n : Rail) (c : Instr) (f : Nat) (met : Bool) (latch : Bool), s.part.rails.length = 8 →
    ((c = .ovEc n ∧ f = 3 ∧ met = decide (orDefault (s.part.get PR_VLIM.OV_N n) 1 ≤ (s.part.rail n).ovRun)) ∨
      (c = .uvEc n ∧ f = 4 ∧ met = decide (orDefault (s.part.get PR_VLIM.UV_N n) 1 ≤ (s.part.rail n).uvRun)) ∨
      (c = .shortAtStart n ∧ f = 7 ∧ met = (s.part.rst n == .rampUp && (match (s.part.rail n).trkSinceSt with
        | some at_ => decide (at_ + clampN 2 64 (s.part.get PR_TRK.TRACK_T n) * 40000 ≤ (s.part.rail n).lastSt)
        | none => false)))) →
    latch = (s.part.get PR_RESP.RETRY n (f - 1) != 7 &&
      decide (s.part.get PR_RESP.RETRY n (f - 1) ≤ s.part.get PR_STAT.HIC_CNT n)) →
    (met = false → exec c s = .next s) ∧
    (met = true →
      (s.part.rst n = .off → ∃ t, exec c s = .next t ∧ t.part.regs = s.part.regs) ∧
      (s.part.rst n ≠ .off →
        ∃ t, exec c s = .next t ∧ t.part.bit PR_STAT.FLT_EV (f - 1) n = true ∧ t.part.get PR_STAT.LAST_FAULT n = f ∧
          ((2 ≤ s.part.get PR_RESP.CLASS n (f - 1) ∨ s.part.shadowing = true ∨
              (s.part.rst n = .latched ∧ (s.part.rail n).respAt ≠ some s.part.tb)) →
            t.part.rst n = s.part.rst n ∧ t.part.dev = s.part.dev) ∧
          (s.part.get PR_RESP.CLASS n (f - 1) < 2 → s.part.shadowing = false → s.part.rst n ≠ .latched →
            s.part.rst n ≠ .hiccup → (s.part.rail n).curHold = none → (s.part.rail n).softStop = none →
            (s.part.rail n).pendSoft = none →
            ((s.part.get PR_RESP.CLASS n (f - 1) = 0 ∧ s.part.get PR_RESP.ACTION n (f - 1) ≠ 2) ∨
                (s.part.rst n).stoppable = false →
              t.part.rst n = (if s.part.onReq n = false then .off else if latch then .latched else .hiccup)) ∧
            (s.part.get PR_RESP.CLASS n (f - 1) = 0 → s.part.get PR_RESP.ACTION n (f - 1) = 2 → (s.part.rst n).stoppable = true →
              t.part.rst n = .rampDown ∧ (t.part.rail n).softStop.map (fun x => (x.openLoop, x.ends, x.code)) =
                some (true, if latch then .latched else .hiccup, f)) ∧
            (s.part.get PR_RESP.CLASS n (f - 1) = 1 → (s.part.rst n).stoppable = true →
              t.part.rst n = s.part.rst n ∧ (t.part.rail n).pendSoft.map (fun x => (x.openLoop, x.ends, x.code)) =
                some (false, if latch then .latched else .hiccup, f))) ∧
          (s.part.get PR_RESP.CLASS n (f - 1) < 2 → s.part.shadowing = false → s.part.rst n = .hiccup →
            (s.part.rail n).respAt ≠ some s.part.tb → s.part.onReq n = true →
            t.part.rst n = (if latch then .latched else .hiccup))))

/-- FROZEN (fault code 9), current-hold and retries (R424, R437, R450, R451, R452). In a state with closed loop a rail whose probe is
absent, or whose codes have stood for 32 samples while the duty moved by FRZ_DMOVE, is frozen: the flag of code 9 and LAST_FAULT are set
unless a hold for it runs; in class A or B without a hold, and not in a shadowing MIZZEN, the rail enters current-hold at the current of two
samples before and keeps its state. Else the command changes nothing.
CURRENT_HOLD_END ends the hold, CH_TIME after its entry, with the response of the one code that waits; OV_LOW_END ends the low
time of LOW_THEN_TRISTATE, in an end state with tri-state; RETRY_CLEAR in REGULATE or BURST without hold and due soft stop returns HIC_CNT
to 0, RETRY_CLR ms after the last event. They change no other register, and in other cases nothing. -/
def Obligations.HoldAndRetry : Prop :=
  ∀ (s : State) (n : Rail) (froz : Bool), s.part.rails.length = 8 →
    froz = (s.part.sigState n && (s.part.flag SEN_STAT.PROBE_ABSENT n || (decide (32 ≤ (s.part.rail n).frozenRun) &&
      decide ((s.part.get PR_CH.FRZ_DMOVE n * 128 : Nat) ≤ spanI (s.part.rail n).frozenDs)))) →
    ((froz = false ∨ ((s.part.rail n).curHold.map CurrentHold.code) = some 9) → exec (.frozen n) s = .next s) ∧
    (froz = true → ((s.part.rail n).curHold.map CurrentHold.code) ≠ some 9 →
      ∃ t, exec (.frozen n) s = .next t ∧ t.part.bit PR_STAT.FLT_EV 8 n = true ∧ t.part.get PR_STAT.LAST_FAULT n = 9 ∧
        ((2 ≤ s.part.get PR_RESP.CLASS n 8 ∨ s.part.shadowing = true) → t.part.rst n = s.part.rst n ∧
          (t.part.rail n).curHold = (s.part.rail n).curHold) ∧
        (s.part.get PR_RESP.CLASS n 8 < 2 → s.part.shadowing = false → (s.part.rail n).curHold = none →
          t.part.rst n = s.part.rst n ∧ t.part.flag PR_STAT.CH_ACT n = true ∧
          ((t.part.rail n).curHold.map fun h => (h.code, h.iHold, h.pending, h.since)) =
            some (9, (s.part.rail n).ifPrev2, [9], s.part.nowSt))) ∧
    (∀ h, (s.part.rail n).curHold = some h →
      ∃ t, exec (.currentHoldEnd n) s = .next t ∧ (t.part.rail n).curHold = none ∧ t.array = s.array ∧
        t.part.tb = max s.part.tb ((h.since + clampN 2 20 (s.part.get PR_SL.CH_TIME n) * 40000) / 32) ∧
        (∀ f, h.pending = [f] → s.part.get PR_RESP.CLASS n (f - 1) = 0 → s.part.get PR_RESP.ACTION n (f - 1) ≠ 2 →
          (s.part.rail n).softStop = none → (s.part.rail n).pendSoft = none →
          t.part.rst n = (if s.part.onReq n = false then .off
            else if s.part.callsLatch n f (s.part.get PR_STAT.HIC_CNT n) then .latched else .hiccup))) ∧
    ((s.part.rail n).curHold = none → exec (.currentHoldEnd n) s = .next s) ∧
    ((s.part.rail n).safeAct = some true →
      ∃ t, exec (.ovLowEnd n) s = .next t ∧ t.part.regs = s.part.regs ∧
        (t.part.rail n).safeAct = (if s.part.rst n = .hiccup ∨ s.part.rst n = .latched then some false else none) ∧
        t.part.tb = max s.part.tb (((s.part.rail n).lowSt + s.part.lowLen n) / 32)) ∧
    ((s.part.rail n).safeAct ≠ some true → exec (.ovLowEnd n) s = .next s) ∧
    ((s.part.rst n = .regulate ∨ s.part.rst n = .burst) → (s.part.rail n).curHold = none → (s.part.rail n).pendSoft = none →
      exec (.retryClear n) s = .next (s.withPart ((s.part.advanceSt
        ((s.part.rail n).clrSt + orDefault (s.part.get PR_SC.RETRY_CLR n) 1 * 40000000)).set PR_STAT.HIC_CNT 0 n))) ∧
    (((s.part.rst n ≠ .regulate ∧ s.part.rst n ≠ .burst) ∨ (s.part.rail n).curHold ≠ none ∨ (s.part.rail n).pendSoft ≠ none) →
      exec (.retryClear n) s = .next s)

/-- VINS_SAMPLE (R438 to R440): every 64 ticks, from the first one on, a code held between 0 and 4,095 enters the last four; with four codes
V_IN is that of their sum, and with fewer no register changes. VIN_FAULT (R441, R442): four values at or beyond a level, with its hysteresis
for its end, set or clear its level; an overvoltage or undervoltage raises its fault code on every enabled rail that is not in OFF, an end begins
the waits of every rail that count from it, and a warning counts. Where the converter does not run or the level is not met, neither changes
anything.
STAGE_FAULT and SFLT_CLEAR (R443) of a group whose STGEN is high and whose level has passed the filter: an assertion is an event of the
group, counts, and raises code 10 on its rails that are not in OFF; its end clears the level and nothing else in the registers, and the waits
of a rail without another asserted group begin. Else neither changes anything. -/
def Obligations.InputFaults : Prop :=
  (∀ (s : State) (code : Int) (at_ : Nat) (codes : List Int), at_ = nextOn s.part.vinAt 64 s.part.tb →
    codes = (clampI 0 4095 code :: s.part.vinCodes).take 4 →
    (s.part.vinRuns = true →
      (codes.length < 4 → exec (.vinsSample code) s =
        .next (s.withPart ({ s.part.advance at_ with vinAt := some at_, vinCodes := codes }))) ∧
      (4 ≤ codes.length → ∃ t, exec (.vinsSample code) s = .next t ∧ t.part.vinCodes = codes ∧ t.part.vinAt = some at_ ∧
        t.part.tb = max s.part.tb at_ ∧ t.part.get PROT_VIN.V_IN = s.part.vinOf (sumI codes) ∧
        t.part.vinValues = (s.part.vinOf (sumI codes) :: s.part.vinValues).take 4 ∧
        (4 ≤ s.part.vinCodes.length → t.part.regs = (s.part.set PROT_VIN.V_IN (s.part.vinOf (sumI codes))).regs))) ∧
    (s.part.vinRuns = false → exec (.vinsSample code) s = .next s)) ∧
  (∀ (s : State) (l : VinLevel) (act : Fld) (f : Nat) (set met : Bool), s.part.rails.length = 8 →
    (act, f, set, met) = (match l with
      | .overSet => (PROT_VIN.VIN_OV_ACT, 11, true, s.part.vinAll (vinAtLeast (s.part.get PROT_VINLIM.VIN_OV)))
      | .overClear => (PROT_VIN.VIN_OV_ACT, 11, false, s.part.vinAll fun v =>
          !vinAtLeast ((s.part.get PROT_VINLIM.VIN_OV : Int) - (s.part.get PROT_VINCFG.VIN_HYS : Int)) v)
      | .underSet => (PROT_VIN.VIN_UV_ACT, 12, true, s.part.vinAll fun v => !vinAtLeast (s.part.get PROT_VINLIM.VIN_UV) v)
      | .underClear => (PROT_VIN.VIN_UV_ACT, 12, false, s.part.vinAll (vinAtLeast (s.part.get PROT_VINLIM.VIN_ON)))
      | .warnSet => (PROT_VIN.VIN_UVW_ACT, 0, true, s.part.vinAll fun v => !vinAtLeast (s.part.get PROT_VINWARN.VIN_UVW) v)
      | .warnClear => (PROT_VIN.VIN_UVW_ACT, 0, false, s.part.vinAll (vinAtLeast
          ((s.part.get PROT_VINWARN.VIN_UVW : Int) + (s.part.get PROT_VINCFG.VIN_HYS : Int))))) →
    ((s.part.vinRuns = false ∨ met = false ∨ (set = true ∧ s.part.flag act = true) ∨
        (f ≠ 0 ∧ set = false ∧ s.part.flag act = false)) → exec (.vinFault l) s = .next s) ∧
    (s.part.vinRuns = true → met = true → set = false → s.part.flag act = true →
      ∃ t, exec (.vinFault l) s = .next t ∧ t.part.regs = (s.part.set act 0).regs ∧ t.part.tb = s.part.tb ∧
        (f ≠ 0 → ∀ n : Rail, f ∉ (t.part.rail n).waitClear)) ∧
    (s.part.vinRuns = true → met = true → set = true → s.part.flag act = false →
      ∃ t, exec (.vinFault l) s = .next t ∧ t.part.flag act = true ∧
        (f ≠ 0 → ∀ n : Rail, s.part.railEn n = true → s.part.rst n ≠ .off →
          t.part.bit PR_STAT.FLT_EV (f - 1) n = true ∧ t.part.get PR_STAT.LAST_FAULT n = f) ∧
        (f = 0 → t.part.flag PROT_VIN.VINW_EV = true ∧
          t.part.get PROT_VINWCNT.VINW_CNT = (s.part.bump PROT_VINWCNT.VINW_CNT).get PROT_VINWCNT.VINW_CNT))) ∧
  (∀ (s : State) (k : Fin 8) (ns : Nat) (taken : Bool), s.part.rails.length = 8 →
    taken = (s.part.live && s.part.stgen k && decide (s.part.get PROT_SFLT.SFLT_FILT * 10 ≤ ns)) →
    (taken = false → exec (.stageFault ⟨k, ns⟩) s = .next s ∧ exec (.sfltClear ⟨k, ns⟩) s = .next s) ∧
    (s.part.bit PROT_SFLT.SFLT_LVL k = true → exec (.stageFault ⟨k, ns⟩) s = .next s) ∧
    (taken = true → s.part.bit PROT_SFLT.SFLT_LVL k = false →
      ∃ t, exec (.stageFault ⟨k, ns⟩) s = .next t ∧ t.part.bit PROT_SFLT.SFLT_EV k = true ∧ t.array = s.array ∧
        t.part.get (byteFld PROT_SFLTCNT.G0 k) =
          (s.part.bump (byteFld PROT_SFLTCNT.G0 k)).get (byteFld PROT_SFLTCNT.G0 k) ∧
        ∀ n : Rail, s.part.ownsGroup n k = true → s.part.rst n ≠ .off → t.part.bit PR_STAT.FLT_EV 9 n = true ∧
          t.part.get PR_STAT.LAST_FAULT n = 10) ∧
    (taken = true →
      ∃ t, exec (.sfltClear ⟨k, ns⟩) s = .next t ∧ t.part.regs = (s.part.clearBit PROT_SFLT.SFLT_LVL k).regs ∧
        t.part.bit PROT_SFLT.SFLT_LVL k = false ∧ t.part.tb = s.part.tb ∧
        ∀ n : Rail, s.part.ownsGroup n k = true →
          (∀ j : Fin 8, j ≠ k → (s.part.ownsGroup n j && s.part.bit PROT_SFLT.SFLT_LVL j) = false) →
          10 ∉ (t.part.rail n).waitClear))

/-! The control engine. -/

/-- One computation of the compensator law (R178 to R186), for any law whose clamps are in order: y stays within ±YLIM and d within
DMIN to DMAX; the new x enters its history first; the y history takes the new y, or its newest value again where the anti-windup is on
and d_c lies outside the clamps; without the large-signal path u_ls is 0. -/
def Obligations.LawClamps : Prop :=
  ∀ (l : Law) (i : LawIn) (xh yh : List Int), 0 ≤ l.ylim → l.dmin ≤ l.dmax → -(2 ^ 23) ≤ l.dmin → l.dmax < 2 ^ 23 →
    l.dmin ≤ (l.step i xh yh).d ∧ (l.step i xh yh).d ≤ l.dmax ∧
    -l.ylim ≤ (l.step i xh yh).yNow ∧ (l.step i xh yh).yNow ≤ l.ylim ∧
    -(2 ^ 23) ≤ (l.step i xh yh).dc ∧ (l.step i xh yh).dc < 2 ^ 23 ∧
    (l.step i xh yh).x = ((i.xc * 256) :: xh).take 4 ∧
    ((l.step i xh yh).y = ((l.step i xh yh).yNow :: yh).take 4 ∨
      (l.awEn = true ∧ (l.step i xh yh).y = (yh.headD 0 :: yh).take 4 ∧
        ((l.dmax < (l.step i xh yh).dc ∧ (l.step i xh yh).d = l.dmax) ∨
          ((l.step i xh yh).dc < l.dmin ∧ (l.step i xh yh).d = l.dmin)))) ∧
    ((l.lsEn = false ∨ (i.xc.natAbs : Int) ≤ l.band) → (l.step i xh yh).uls = 0)

/-- Exchange requests (R211, R213 to R215, R794). Without an address no request acts. A wrong key, a request while BUSY, a swap or a
reservation while OVERDUE, a swap onto a slice that is not reserved or breaks a law rule, or of a rail in OFF, a move that its rule forbids,
a reservation without an OPEN spare, and a release of no reservation end with their result and one refusal. Any other swap or move waits
for its grant, but for a move to the timing that the rail has, which ends well at once; a reservation takes the first OPEN spare, and a
release ends one. Where no OPEN spare exists while OVERDUE, the result of OVERDUE is the model's choice (assumption log 51).
RESERVATION_EXPIRY ends a reservation 20 ms after it was made, and with it a swap that waits for the slice (assumption log 50); it changes
nothing without one.
EXCHANGE_GRANT (R205 to R207, R219, R221). With an exchange in progress, and with none that waits, it changes nothing. Of the exchanges
that wait one of the highest priority, and among these of the earliest request, is looked at; a swap takes its OPEN reserved slice, a move
or a rotation the first OPEN spare, a replacement that one, else a reserved one, else one in test: it serves a rail in OFF at once, and else
the exchange runs with the slice in TRACK for the rail; a compare of the incoming slice that fails at a sample fails the slice. A rotation of a slice that no longer
serves its rail leaves the queue, its step to start again. A move or rotation without a spare, and a swap whose reservation has gone, wait on;
a replacement without any spare leaves the queue (R208, R209). -/
def Obligations.Exchanges : Prop :=
  (∀ (s : State) (n : Rail) (sl key op result : Nat) (b : Bool) (c : Instr),
    ((c = .coefficientSwap key n sl ∧ op = 1) ∨ (c = .timingMove key n b ∧ op = 2) ∨ (c = .reserveSpare key ∧ op = 3) ∨
      (c = .releaseReservation key sl ∧ op = 4)) →
    (s.part.pmbActive = false → exec c s = .next s) ∧
    (s.part.pmbActive = true →
      ((key ≠ 0xA5 ∧ result = 11) ∨ (key = 0xA5 ∧ s.part.flag ENG_XSTAT.BUSY = true ∧ result = 10) ∨
        (key = 0xA5 ∧ s.part.flag ENG_XSTAT.BUSY = false ∧
          (((op = 1 ∨ op = 3) ∧ s.part.flag ENG_ROT.OVERDUE = true ∧ result = 9) ∨
            (op = 1 ∧ s.part.flag ENG_ROT.OVERDUE = false ∧ result = 11 ∧ (9 ≤ sl ∨ s.part.flag SLICE_STATE.RESERVED sl = false ∨
              s.part.rst n = .off ∨ s.part.lawOk sl = false ∨ s.part.servingOf n = none)) ∨
            (op = 2 ∧ result = 11 ∧ (s.part.railEn n = false ∨ (s.part.get RAIL_ENGINE.TIMING n ≠ b2n b ∧
              (s.part.servingOf n = none ∨
                (b = true ∧ (s.part.get RA_CFG.DEPTH n ≠ 0 ∨ s.part.forerunnerOk n = false)))))) ∨
            (op = 3 ∧ s.part.flag ENG_ROT.OVERDUE = false ∧ result = 8 ∧ s.part.openSpares false = []) ∨
            (op = 4 ∧ result = 11 ∧ (9 ≤ sl ∨ s.part.flag SLICE_STATE.RESERVED sl = false))))) →
      ∃ t, exec c s = .next t ∧ t.part.get ENG_XSTAT.OP = op ∧ t.part.eng = s.part.eng ∧ t.part.slices = s.part.slices ∧
        t.part.get ENG_XSTAT.RESULT = result ∧ t.part.flag ENG_XSTAT.XDONE_EV = true ∧
        t.part.get HOST_REFADDR.ADDR = 0x22400 ∧ t.part.refusals = s.part.refusals + 1)) ∧
  (∀ (s : State) (n : Rail) (sl : Slice) (b : Bool), s.part.pmbActive = true → s.part.slices.length = 9 →
    (s.part.flag ENG_XSTAT.BUSY = false → s.part.flag ENG_ROT.OVERDUE = false →
      s.part.flag SLICE_STATE.RESERVED sl = true → s.part.rst n ≠ .off → s.part.lawOk sl = true →
      ∀ o, s.part.servingOf n = some o →
      ∃ t x, exec (.coefficientSwap 0xA5 n sl) s = .next t ∧ t.part.eng.waiting = s.part.eng.waiting ++ [x] ∧
        x.kind = .swap ∧ x.rail = n.val ∧ x.inc = sl.val ∧ x.outSlice = o ∧ x.fw = true ∧ x.at_ = s.part.nowSt ∧
        t.part.flag ENG_XSTAT.BUSY = true) ∧
    (s.part.flag ENG_XSTAT.BUSY = false → s.part.railEn n = true → s.part.get RAIL_ENGINE.TIMING n = b2n b →
      ∃ t, exec (.timingMove 0xA5 n b) s = .next t ∧ t.part.get ENG_XSTAT.RESULT = 1 ∧ t.part.get ENG_XSTAT.OP = 2 ∧
        t.part.get ENG_XSTAT.RAIL = n ∧ t.part.eng = s.part.eng ∧ t.part.flag ENG_XSTAT.XDONE_EV = true) ∧
    (s.part.flag ENG_XSTAT.BUSY = false → s.part.railEn n = true → s.part.get RAIL_ENGINE.TIMING n ≠ b2n b →
      (b = false ∨ (s.part.get RA_CFG.DEPTH n = 0 ∧ s.part.forerunnerOk n = true)) →
      ∀ o, s.part.servingOf n = some o →
      ∃ t x, exec (.timingMove 0xA5 n b) s = .next t ∧ t.part.eng.waiting = s.part.eng.waiting ++ [x] ∧
        x.kind = .timing ∧ x.rail = n.val ∧ x.timing = b2n b ∧ x.outSlice = o ∧ x.fw = true ∧ x.at_ = s.part.nowSt ∧
        t.part.flag ENG_XSTAT.BUSY = true) ∧
    (s.part.flag ENG_XSTAT.BUSY = false → s.part.flag ENG_ROT.OVERDUE = false →
      ∀ sp rest, s.part.openSpares false = sp :: rest → ∃ t, exec (.reserveSpare 0xA5) s = .next t ∧
        t.part.flag SLICE_STATE.RESERVED sp = true ∧ (t.part.slice sp).reservedAt = some s.part.tb ∧
        t.part.get ENG_XSTAT.RESULT = 1 ∧ t.part.get ENG_XSTAT.SLICE = sp) ∧
    (s.part.flag ENG_XSTAT.BUSY = false → s.part.flag SLICE_STATE.RESERVED sl = true →
      ∃ t, exec (.releaseReservation 0xA5 sl) s = .next t ∧ t.part.flag SLICE_STATE.RESERVED sl = false ∧
        (t.part.slice sl).reservedAt = none ∧ t.part.get ENG_XSTAT.RESULT = 1 ∧ t.part.get ENG_XSTAT.SLICE = sl)) ∧
  (∀ (s : State) (sl : Slice), s.part.slices.length = 9 →
    (s.part.flag SLICE_STATE.RESERVED sl = false → exec (.reservationExpiry sl) s = .next s) ∧
    (s.part.flag SLICE_STATE.RESERVED sl = true →
      ∃ t, exec (.reservationExpiry sl) s = .next t ∧ t.part.flag SLICE_STATE.RESERVED sl = false ∧
        (t.part.slice sl).reservedAt = none ∧
        (∀ at_, (s.part.slice sl).reservedAt = some at_ → t.part.tb = max s.part.tb (at_ + 25000000)) ∧
        ((∃ x ∈ s.part.eng.waiting, x.kind = .swap ∧ x.inc = sl.val) →
          t.part.get ENG_XSTAT.RESULT = 6 ∧ t.part.flag ENG_XSTAT.XDONE_EV = true) ∧
        ((∀ x ∈ s.part.eng.waiting, ¬(x.kind = .swap ∧ x.inc = sl.val)) → t.part.eng = s.part.eng))) ∧
  (∀ s : State,
    (s.part.eng.cur ≠ none → exec .exchangeGrant s = .next s) ∧
    (s.part.eng.waiting = [] → exec .exchangeGrant s = .next s) ∧
    (∀ x, bestExch s.part.eng.waiting = some x → x ∈ s.part.eng.waiting ∧ ∀ y ∈ s.part.eng.waiting,
      x.kind.prio ≤ y.kind.prio ∧ (x.kind.prio = y.kind.prio → x.at_ ≤ y.at_)) ∧
    (∀ (x : Exch) (n : Rail), s.part.eng.cur = none → bestExch s.part.eng.waiting = some x → x.rail = n.val →
      (s.part.stale x = true →
        ∃ t, exec .exchangeGrant s = .next t ∧ t.part.eng.cur = none ∧ t.part.eng.rotSlice = none ∧
          t.part.eng.waiting = s.part.eng.waiting.erase x) ∧
      (s.part.stale x = false → (((x.kind = .timing ∨ x.kind = .rotate) ∧ s.part.openSpares false = []) ∨
          (x.kind = .swap ∧ (s.part.sst x.inc ≠ .open_ ∨ s.part.flag SLICE_STATE.RESERVED x.inc = false))) →
        ∃ t, exec .exchangeGrant s = .next t ∧ t.part.eng = s.part.eng ∧ t.part.slices = s.part.slices) ∧
      (x.kind = .replace → s.part.spares = [] →
        ∃ t, exec .exchangeGrant s = .next t ∧ t.part.eng.cur = none ∧ ∀ y ∈ t.part.eng.waiting, y.kind ≠ .replace) ∧
      (∀ sp, sp < 9 → s.part.stale x = false →
        ((x.kind = .swap ∧ sp = x.inc ∧ s.part.sst sp = .open_ ∧ s.part.flag SLICE_STATE.RESERVED sp = true) ∨
          (x.kind ≠ .swap ∧ (s.part.openSpares false).head? = some sp) ∨
          (x.kind = .replace ∧ s.part.openSpares false = [] ∧ (s.part.openSpares true).head? = some sp) ∨
          (x.kind = .replace ∧ s.part.openSpares false = [] ∧ s.part.openSpares true = [] ∧
            (s.part.spares.filter fun k => s.part.sst k == .test).head? = some sp)) →
        ∃ t, exec .exchangeGrant s = .next t ∧ (s.part.sst sp = .open_ → t.part.flag SLICE_STATE.RESERVED sp = false) ∧
          ((x.kind = .swap ∨ s.part.openSpares false ≠ []) → s.part.rst n ≠ .off →
            t.part.eng.waiting = s.part.eng.waiting.erase x) ∧
          (s.part.rst n ≠ .off →
            t.part.eng.cur = some { s.part.aimed x with inc := sp } ∧ t.part.sst sp = .track ∧
            t.part.get SLICE_STATE.RAIL sp = n ∧ t.part.get SLICE_STATE.TIMING sp = x.timing % 2 ∧
            t.part.flag ENG_XSTAT.BUSY = true) ∧
          (s.part.rst n = .off → t.part.eng.cur = none ∧ t.part.get ENG_XSTAT.RESULT = 2 ∧
            t.part.get RAIL_ENGINE.SLICE n = sp)))) ∧
  (∀ (p : Part) (x : Exch) (vsp : Nat) (xc d : Int), p.eng.cur = some x → x.inc < 9 → p.sst x.inc = .track →
    (p.incoming x.rail vsp xc d false).sst x.inc = .failed ∧
      (p.incoming x.rail vsp xc d false).flag ENG_EVENT.LOCKSTEP_EV = true)

/-- LOAD16 (R193) writes its law field of an OPEN slice, is refused for another slice or index, and does nothing without an address.
DIGEST_CHECK (R195, R199, R201, R202): a digest that agrees changes nothing; one corrected bit counts, but for a FAILED slice; a mismatch
and a double error of a slice that is not FAILED fail it with cause 2 and 3 and raise the event, a reservation of it is lost, and a rail that
it served repeats its duty while a replacement waits for a spare. With the PWM clock standing nothing is checked.
ROTATION_DUE and ROTATION_START (R216, R217): with rotation on in READY or RUN a step falls due every ROT_INT and waits, nine at
most; the oldest one starts when no other runs: the slice tested longest ago goes into TEST if it is OPEN and not reserved, waits for
an exchange if it serves a running rail, and the step waits on otherwise. OVERDUE (R218): a step that has waited longer than two intervals
sets OVERDUE, its event, and its service cause.
SLICE_TEST_END (R195, R576, R585, R586): a test that passes returns its slice to OPEN with its verdict, an aborted one leaves NOT_RUN, and
one that fails fails its slice, with cause 4 or 5. Of a slice not in TEST it changes nothing. -/
def Obligations.SliceTests : Prop :=
  (∀ (s : State) (sl : Slice) (v k : Nat),
    (s.part.pmbActive = true → s.part.sst sl = .open_ → k < 9 → exec (.load16 sl v k) s =
      .next (s.withPart (s.part.setS SLICE_COEF.COEF (toS 16 (v % 65536) * 128) sl k))) ∧
    (s.part.pmbActive = true → s.part.sst sl = .open_ → exec (.load16 sl v 9) s =
      .next (s.withPart (s.part.setS SLICE_LSGAIN.LS_GAIN (toS 16 (v % 65536) * 128) sl))) ∧
    (s.part.pmbActive = true → (s.part.sst sl ≠ .open_ ∨ 10 ≤ k) → exec (.load16 sl v k) s =
      .next (s.withPart (s.part.refuse .pmbus (0x20048 + sl.val * 0x400)))) ∧
    (s.part.pmbActive = false → exec (.load16 sl v k) s = .next s)) ∧
  (∀ (s : State) (sl : Slice) (o : DigestOutcome) (n : Rail),
    ((s.part.pwmRuns = false ∨ o = .equal ∨ s.part.sst sl = .failed) → exec (.digestCheck sl o) s = .next s) ∧
    (s.part.pwmRuns = true → s.part.sst sl ≠ .failed →
      exec (.digestCheck sl .singleBit) s = .next (s.withPart (s.part.bump SLICE_CHK.ECC_CORR_CNT sl))) ∧
    (s.part.pwmRuns = true → s.part.sst sl ≠ .failed → (o = .mismatch ∨ o = .doubleBit) → s.part.eng.cur = none →
      ∃ t, exec (.digestCheck sl o) s = .next t ∧ t.part.sst sl = .failed ∧ t.part.flag ENG_EVENT.LOCKSTEP_EV = true ∧
        t.part.get SLICE_STATE.FAIL_CAUSE sl = (if o = .mismatch then 2 else 3) ∧
        t.part.flag SLICE_STATE.RESERVED sl = false ∧
        (s.part.flag SLICE_STATE.RESERVED sl = true → t.part.flag ENG_EVENT.RES_LOST_EV = true) ∧
        (s.part.flag SLICE_STATE.ASSIGNED sl = true → s.part.get SLICE_STATE.RAIL sl = n → s.part.spares ≠ [] →
          s.part.rails.length = 8 →
          (t.part.rail n).repeatLast = true ∧ t.part.flag ENG_XSTAT.BUSY = true ∧
          ∃ x ∈ t.part.eng.waiting, x.kind = .replace ∧ x.rail = n.val ∧ x.outSlice = sl.val))) ∧
  (∀ s : State,
    ((s.part.live = false ∨ s.part.get ENG_ROT.ROT_INT = 0) → exec .rotationDue s = .next s) ∧
    (s.part.live = true → s.part.get ENG_ROT.ROT_INT ≠ 0 → exec .rotationDue s =
      .next (s.withPart ((s.part.advance s.part.eng.rotNext).modEng fun e => { e with
        rotNext := e.rotNext + s.part.get ENG_ROT.ROT_INT * 1250000
        rotDue := if e.rotDue.length < 9 then e.rotDue ++ [e.rotNext] else e.rotDue }))) ∧
    ((s.part.live = false ∨ s.part.eng.rotSlice ≠ none ∨ s.part.eng.rotDue = [] ∨ s.part.nextTest = none) →
      exec .rotationStart s = .next s) ∧
    (∀ (sl : Slice) due rest, s.part.live = true → s.part.eng.rotSlice = none → s.part.eng.rotDue = due :: rest →
      s.part.nextTest = some sl.val →
      (s.part.sst sl = .open_ → s.part.flag SLICE_STATE.RESERVED sl = false →
        ∃ t, exec .rotationStart s = .next t ∧ t.part.sst sl = .test ∧ t.part.eng.rotSlice = some (sl.val, due) ∧
          t.part.eng.rotDue = rest ∧ t.part.eng.waiting = s.part.eng.waiting) ∧
      (∀ n, (s.part.sst sl ≠ .open_ ∨ s.part.flag SLICE_STATE.RESERVED sl = true) → s.part.servedBy sl = some n →
        s.part.busySlice sl = true →
        ∃ t x, exec .rotationStart s = .next t ∧ t.part.sst sl = s.part.sst sl ∧ t.part.eng.rotSlice = some (sl.val, due) ∧
          t.part.eng.rotDue = rest ∧ t.part.eng.waiting = s.part.eng.waiting ++ [x] ∧ x.kind = .rotate ∧ x.rail = n ∧
          x.outSlice = sl.val ∧ t.part.flag ENG_XSTAT.BUSY = true) ∧
      ((s.part.sst sl ≠ .open_ ∨ s.part.flag SLICE_STATE.RESERVED sl = true) →
        (s.part.servedBy sl = none ∨ s.part.busySlice sl = false) → exec .rotationStart s = .next s)) ∧
    (∀ due, ((s.part.eng.rotSlice = none ∧ s.part.eng.rotDue.head? = some due) ∨
        (∃ k, s.part.eng.rotSlice = some (k, due) ∧ s.part.sst k ≠ .test) ∨
        (∃ k d, s.part.eng.rotSlice = some (k, d) ∧ s.part.sst k = .test ∧ s.part.eng.rotDue.head? = some due)) →
      s.part.flag ENG_ROT.OVERDUE = false →
      ∃ t, exec .overdue s = .next t ∧ t.part.flag ENG_ROT.OVERDUE = true ∧ t.part.flag ENG_ROT.OVERDUE_EV = true ∧
        t.part.bit SVC_STATUS.CAUSE 5 = true ∧
        t.part.tb = max s.part.tb (due + 2 * s.part.get ENG_ROT.ROT_INT * 1250000 + 1)) ∧
    ((s.part.flag ENG_ROT.OVERDUE = true ∨ (s.part.eng.rotSlice = none ∧ s.part.eng.rotDue = []) ∨
        (∃ k d, s.part.eng.rotSlice = some (k, d) ∧ s.part.sst k = .test ∧ s.part.eng.rotDue = [])) →
      exec .overdue s = .next s)) ∧
  (∀ (s : State) (sl : Slice) (run : TestRun),
    (s.part.sst sl ≠ .test → exec (.sliceTestEnd sl run) s = .next s) ∧
    (s.part.sst sl = .test →
      (∀ r, verdictOf r = 1 → ∃ t, exec (.sliceTestEnd sl (.done r)) s = .next t ∧ t.part.sst sl = .open_ ∧
        t.part.get IF_SLICE.S sl = 1 ∧ t.part.eng.rotSlice = none ∧ t.part.eng.testSeq = s.part.eng.testSeq + 1) ∧
      (∃ t, exec (.sliceTestEnd sl .aborted) s = .next t ∧ t.part.sst sl = .open_ ∧ t.part.get IF_SLICE.S sl = 4 ∧
        t.part.flag IF_STAT.NOTRUN_EV = true ∧ t.part.eng.rotSlice = none) ∧
      (∀ r, verdictOf r ≠ 1 → s.part.eng.cur = none →
        ∃ t, exec (.sliceTestEnd sl (.done r)) s = .next t ∧ t.part.sst sl = .failed ∧
          t.part.get SLICE_STATE.FAIL_CAUSE sl = (if verdictOf r = 2 then 4 else 5) ∧ t.part.get IF_SLICE.S sl = verdictOf r ∧
          t.part.flag IF_STAT.IFFAIL_EV = true)))

/-! The phase fabric. -/

/-- PHASE_SAMPLE (R140 to R142): while the converters of its rail run in READY or RUN, a sample falls on the converter grid at or after the
sample before, which TB has then reached; its code, held between −2,048 and 2,047, enters the phase's history as a current; a code of 2,047
or −2,048 sets SAT, its event and its count for that sample, and any other clears SAT.
PERIOD_START (R301 to R303, R798) of an ACTIVE phase of a rail outside OFF takes the period's bounds; the phase offers its pattern where
its rail pulses and the generators held a duty two ticks before, on its own part, and emits a pulse of the on-time for that duty, unless it is
too short and SKIP_EN is set; otherwise it emits none.
BOOKKEEPING_PASS (R313, R451) of a slice that serves a rail with balancing on and no current-hold leaves every trim of the ACTIVE phases
within ±TRIM_MAX, and the others as they were. In every other case, and of a phase of no rail, these commands change nothing. -/
def Obligations.PhasePeriods : Prop :=
  ∀ (s : State) (q : Phase), s.part.phases.length = 64 →
    (∀ code, s.part.railOf q = none →
      exec (.phaseSample q code) s = .next s ∧ exec (.periodStart q) s = .next s) ∧
    (∀ (n : Rail) (code c : Int) (sat : Bool), s.part.railOf q = some n.val → c = clampI (-2048) 2047 code →
      sat = (c == 2047 || c == -2048) →
      ((s.part.live && s.part.convRun n) = false → exec (.phaseSample q code) s = .next s) ∧
      (s.part.live = true → s.part.convRun n = true →
        ∃ t, exec (.phaseSample q code) s = .next t ∧ t.part.tb = max s.part.tb (s.part.nextGrid n q / 32) ∧
          (t.part.ph q).samples = ((⟨s.part.nextGrid n q, s.part.phaseCurrent q c, sat, false⟩ : PhSample) ::
            (s.part.ph q).samples).take 256 ∧
          t.part.flag PCS_STAT.SAT q = sat ∧ t.part.flag PCS_STAT.SAT_EV q = (sat || s.part.flag PCS_STAT.SAT_EV q) ∧
          t.part.get PCS_STAT.SAT_CNT q = (if sat then s.part.bump PCS_STAT.SAT_CNT q else s.part).get PCS_STAT.SAT_CNT q ∧
          t.array = s.array) ∧
      ((s.part.live = false ∨ s.part.rst n = .off ∨ s.part.pst q ≠ .active ∨ s.part.per n = 0) →
        exec (.periodStart q) s = .next s) ∧
      (s.part.live = true → s.part.rst n ≠ .off → s.part.pst q = .active → s.part.per n ≠ 0 →
        ∃ t, exec (.periodStart q) s = .next t ∧ t.part.tb = max s.part.tb ((s.part.ph q).next / 32) ∧
          (t.part.ph q).startSt = (s.part.ph q).next ∧
          (t.part.ph q).next = (((s.part.ph q).next : Int) + s.part.per n + (s.part.ph q).late).toNat ∧
          (t.part.ph q).judged = false ∧ (t.part.ph q).late = 0 ∧ (t.part.ph q).truncNow = false ∧
          ((s.part.pulsing n = false ∨ s.part.dutyIn n (s.part.ph q).next = none) →
            (t.part.ph q).pulse = false ∧ (t.part.ph q).offered = false ∧ (t.part.ph q).onSt = 0) ∧
          (∀ d, s.part.pulsing n = true → d = (if (s.part.rail n).comSt + 64 ≤ (s.part.ph q).next then (s.part.rail n).dutyCom
              else (s.part.rail n).dutyOld) → ∀ v, d = some v →
            (t.part.ph q).nOn = s.part.nOnOf n q v ∧ (t.part.ph q).offered = !s.part.shadowing ∧
            (t.part.ph q).pulse = !(decide (s.part.nOnOf n q v < s.part.get FAB_PWM.TON_MIN n) && s.part.flag FAB_PWM.SKIP_EN n) ∧
            (t.part.ph q).onSt = (if (t.part.ph q).pulse then max (s.part.nOnOf n q v) (s.part.get FAB_PWM.TON_MIN n) else 0)))) ∧
    (∀ (sl : Slice), s.part.servedBy sl = none → exec (.bookkeepingPass sl) s = .next s) ∧
    (∀ (n : Rail) (sl : Slice) (runs : Bool), s.part.servedBy sl = some n.val →
      runs = (s.part.live && s.part.convRun n && (s.part.sst sl == .drive || s.part.sst sl == .track) &&
        s.part.flag FAB_BAL.BAL_EN n && (s.part.rail n).curHold.isNone) →
      (runs = false → exec (.bookkeepingPass sl) s = .next s) ∧
      (runs = true → s.part.get FAB_BAL.TRIM_MAX n < 2 ^ (PH_TRIM.TRIM.width - 1) →
        ∃ t, exec (.bookkeepingPass sl) s = .next t ∧ t.part.dev = s.part.dev ∧ ∀ m : Phase,
          (m.val ∈ s.part.active n → -(s.part.get FAB_BAL.TRIM_MAX n : Int) ≤ t.part.getS PH_TRIM.TRIM m ∧
            t.part.getS PH_TRIM.TRIM m ≤ s.part.get FAB_BAL.TRIM_MAX n) ∧
          (m.val ∉ s.part.active n → t.part.get PH_TRIM.TRIM m = s.part.get PH_TRIM.TRIM m)))

/-- Short circuit and retirement of phases (R20, R260, R324, R325, R327, R328, R330, R334, R428 to R430, R797). FAST_SC_TRIP: an excursion of
20 mV over the threshold for 5 ns, counted from the end of blanking, ends the on-time in progress of an engine pulse or of a pulse of the
parked-burst generator at the later of its begin and that end, with TRUNC, its count, and the rail's entries squashed; one of less
than 1 ns, or not over the threshold, ends none.
PHASE_OPEN and PHASE_SENSE_FAULT at their counts decide the retirement of a phase with its cause; in OFF it takes effect at once. PHASE_RETIRE
retires every phase of a rail whose retirement is decided, at the rail's next t_k, with cause and event; too few phases that are left soft-stop
the rail, and none left latches it. HEALTH_FORECAST raises the flag of an indicator that has stayed beyond its limit; PHASE_SC at SC_N
truncated periods raises fault code 1 of a rail outside OFF. Below their counts, and of a phase of no rail, none changes anything. -/
def Obligations.PhaseFaults : Prop :=
  (∀ (s : State) (q : Phase) (c : Instr), s.part.railOf q = none →
    ((∃ uv ps, c = .fastScTrip q uv ps) ∨ c = .phaseOpen q ∨ (∃ x, c = .phaseSenseFault q x) ∨ (∃ i, c = .healthForecast q i) ∨
      c = .phaseSc q) → exec c s = .next s) ∧
  (∀ (s : State) (q : Phase) (n : Rail) (uv : Int) (ps : Nat), s.part.railOf q = some n.val → s.part.phases.length = 64 →
    s.part.rails.length = 8 →
    ((s.part.live = false ∨ (s.part.rst n).switching = false ∨ uv ≤ s.part.iscUv q ∨ ps < 1000) →
      exec (.fastScTrip q uv ps) s = .next (s.withPart s.part.tick)) ∧
    (s.part.live = true → (s.part.rst n).switching = true → s.part.iscUv q + 20000 ≤ uv →
      (∀ begin_ at_ : Nat, begin_ = max s.part.nowSt (s.part.ph q).startSt →
        at_ = max begin_ ((s.part.ph q).startSt + s.part.get PR_SC.SC_BLANK n * 40) → 5000 + (at_ - begin_) * 25 ≤ ps →
        (s.part.ph q).pulse = true → (s.part.ph q).truncNow = false → at_ < (s.part.ph q).startSt + (s.part.ph q).onSt →
        ∃ t, exec (.fastScTrip q uv ps) s = .next t ∧ t.part.flag PSC.TRUNC q = true ∧ (t.part.ph q).truncNow = true ∧
          (t.part.ph q).onSt = at_ - (s.part.ph q).startSt ∧
          t.part.get PSC.TRUNC_CNT q = (s.part.bumpWrap PSC.TRUNC_CNT q).get PSC.TRUNC_CNT q ∧
          (t.part.rail n).entries = [] ∧ (t.part.rail n).truncSt = some at_) ∧
      (∀ i rise at_ : Nat, s.part.pbPulse n q s.part.clockSt = some (i, rise) → s.part.pst q = .active →
        (s.part.ph q).pulse = false → (∀ j at', (s.part.rail n).pbTrunc = some (j, at') → j ≠ i) →
        at_ = max s.part.clockSt (rise + s.part.get PR_SC.SC_BLANK n * 40) → 5000 + (at_ - s.part.clockSt) * 25 ≤ ps →
        at_ < rise + s.part.pbOn n →
        ∃ t, exec (.fastScTrip q uv ps) s = .next t ∧ t.part.flag PSC.TRUNC q = true ∧
          (t.part.rail n).pbTrunc = some (i, at_) ∧ (t.part.rail n).entries = []))) ∧
  (∀ (s : State) (q : Phase) (n : Rail) (c : Instr) (due : Bool) (cause : Nat), s.part.railOf q = some n.val →
    s.part.phases.length = 64 → s.part.rails.length = 8 →
    ((c = .phaseOpen q ∧ cause = 1 ∧ due = decide (3 ≤ (s.part.ph q).openCnt)) ∨
      (c = .phaseSenseFault q .outOfRange ∧ cause = 2 ∧
        due = (decide (4 ≤ (s.part.ph q).oorCnt) && (s.part.ph q).retirePend.isNone)) ∨
      (c = .phaseSenseFault q .noRipple ∧ cause = 3 ∧
        due = (decide (8 ≤ (s.part.ph q).ripCnt) && (s.part.ph q).retirePend.isNone)) ∨
      (c = .phaseSenseFault q .inconsistent ∧ cause = 4 ∧
        due = (decide (8 ≤ (s.part.ph q).incCnt) && (s.part.ph q).retirePend.isNone))) →
    ((due = false ∨ (s.part.pst q ≠ .active ∧ s.part.pst q ≠ .shed)) → exec c s = .next s) ∧
    (due = true → (s.part.pst q = .active ∨ s.part.pst q = .shed) →
      (s.part.rst n ≠ .off → ∃ t, exec c s = .next t ∧ (t.part.ph q).retirePend = some cause ∧ t.part.pst q = s.part.pst q ∧
        (t.part.rail n).entries = []) ∧
      (s.part.rst n = .off → ∃ t, exec c s = .next t ∧ t.part.pst q = .retired ∧ t.part.get PH_STAT.RET_CAUSE q = cause ∧
        t.part.flag PH_STAT.RETIRE_EV q = true ∧ t.part.rst n = .off))) ∧
  (∀ (s : State) (n : Rail) (left : Nat), s.part.phases.length = 64 → s.part.rails.length = 8 →
    left = ((s.part.avail n).filter fun k => !(s.part.pendingRetire n).any fun x => x.1 == k).length →
    (s.part.pendingRetire n = [] → exec (.phaseRetire n) s = .next s) ∧
    (s.part.pendingRetire n ≠ [] → (s.part.eng.cur = none ∨ s.part.minAvail n ≤ left) →
      ∃ t, exec (.phaseRetire n) s = .next t ∧
        t.part.tb = (if s.part.rst n = .off then s.part.tb else max s.part.tb (s.part.nextTk n / 32)) ∧
        (∀ (q : Phase) (cause : Nat), (q.val, cause) ∈ s.part.pendingRetire n → cause < 8 →
          t.part.pst q = .retired ∧ t.part.get PH_STAT.RET_CAUSE q = cause ∧ t.part.flag PH_STAT.RETIRE_EV q = true ∧
          (t.part.ph q).retirePend = none) ∧
        ((s.part.minAvail n ≤ left ∨ s.part.shadowing = true ∨ s.part.rst n = .off) → t.part.rst n = s.part.rst n) ∧
        (s.part.shadowing = false → s.part.rst n ≠ .off → left = 0 →
          t.part.rst n = (if s.part.rst n = .latched then .latched else if s.part.onReq n then .latched else .off)) ∧
        (s.part.shadowing = false → left ≠ 0 → left < s.part.minAvail n → (s.part.rst n).stoppable = true →
          (s.part.rail n).softStop = none → t.part.rst n = s.part.rst n ∧
          (t.part.rail n).pendSoft.map (fun x => (x.openLoop, x.ends)) = some (false, .latched)))) ∧
  (∀ (s : State) (q : Phase) (n : Rail), s.part.railOf q = some n.val → s.part.phases.length = 64 → s.part.rails.length = 8 →
    (∀ i : Fin 4, s.part.flag (hfBit i) q = false →
      orDefault (s.part.get FAB_HCFG.FORECAST_HOLD n) 1 * 1000 < nth (s.part.ph q).beyond i 0 →
      ∃ t, exec (.healthForecast q i) s = .next t ∧ t.part.flag (hfBit i) q = true ∧
        t.part.flag PH_STAT.FORECAST_EV q = true ∧ t.part.bit SVC_STATUS.CAUSE 3 = true ∧
        t.part.get PH_EVCNT.FORECAST_CNT q = (s.part.bump PH_EVCNT.FORECAST_CNT q).get PH_EVCNT.FORECAST_CNT q) ∧
    (∀ i : Fin 4, (s.part.flag (hfBit i) q = true ∨
        nth (s.part.ph q).beyond i 0 ≤ orDefault (s.part.get FAB_HCFG.FORECAST_HOLD n) 1 * 1000) →
      exec (.healthForecast q i) s = .next s) ∧
    ((s.part.ph q).scCnt < orDefault (s.part.get PR_SC.SC_N n) 1 → exec (.phaseSc q) s = .next s) ∧
    (orDefault (s.part.get PR_SC.SC_N n) 1 ≤ (s.part.ph q).scCnt →
      ∃ t, exec (.phaseSc q) s = .next t ∧ t.part.flag PSC.SCF_EV q = true ∧ (t.part.ph q).scCnt = 0 ∧
        t.part.get PSC.SCF_CNT q = (s.part.bump PSC.SCF_CNT q).get PSC.SCF_CNT q ∧
        (s.part.rst n ≠ .off → t.part.get PR_STAT.LAST_FAULT n = 1 ∧ t.part.bit PR_STAT.FLT_EV 0 n = true) ∧
        (2 ≤ s.part.get PR_RESP.CLASS n 0 → t.part.rst n = s.part.rst n)))

/-- Reef levels and the period's end (R316, R319, R320, R323, R326, R331, R335, R451, R799). In REGULATE without current-hold an add takes the
lowest level of the ADD_CONFIRM last samples once each of them asked for one, and a shed one level more once its condition has held for
SHED_DWELL, unless the reef set is bad, the level is LMAX, or an add is due; both at the next update instant, with their event, and both start
the dwells anew; else nothing changes.
PHASE_PERIOD_END while the converters run: the period of an ACTIVE phase that waits, else the one in progress, is evaluated once and counts as an
active period, with TRUNC for a truncated one; of a phase that does not switch the carrier interval ends. A retired phase, and a
period evaluated before, change nothing.
HEALTH_UPDATE comes every 1 ms in READY and RUN, keeps the rails' states, and leaves the phases of a rail outside REGULATE or below
HEALTH_IMIN; elsewhere it changes nothing. -/
def Obligations.ReefLevels : Prop :=
  (∀ (s : State) (n : Rail) (lvl need : Nat), s.part.rails.length = 8 →
    need = orDefault (s.part.get FAB_REEF.ADD_CONFIRM n) 1 → lvl = minN ((s.part.rail n).addRun.take need) →
    (s.part.rst n = .regulate → (s.part.rail n).curHold = none → need ≤ (s.part.rail n).addRun.length →
      lvl < s.part.get FAB_STAT.LEVEL n →
      ∃ t, exec (.reefAdd n) s = .next t ∧ t.part.flag FAB_STAT.ADD_EV n = true ∧
        t.part.get FAB_STAT.LEVEL n = lvl % 2 ^ FAB_STAT.LEVEL.width ∧ (t.part.rail n).addRun = [] ∧
        (t.part.rail n).shedDwellSt = none ∧ t.part.rst n = .regulate ∧ t.part.tb = max s.part.tb (s.part.nextTk n / 32)) ∧
    ((s.part.rst n ≠ .regulate ∨ (s.part.rail n).curHold ≠ none ∨ (s.part.rail n).addRun.length < need ∨
        s.part.get FAB_STAT.LEVEL n ≤ lvl) → exec (.reefAdd n) s = .next s) ∧
    (∀ at_, (s.part.rail n).shedDwellSt = some at_ →
      (s.part.rst n = .regulate → (s.part.rail n).curHold = none → s.part.reefBad n = false →
        s.part.get FAB_STAT.LEVEL n < s.part.get FAB_REEF.LMAX n → (s.part.rail n).addRun.length < need →
        at_ + orDefault (s.part.get FAB_REEF.SHED_DWELL n) 1 * 40000 ≤ (s.part.rail n).lastSt →
        ∃ t, exec (.reefShed n) s = .next t ∧ t.part.flag FAB_STAT.SHED_EV n = true ∧
          t.part.get FAB_STAT.LEVEL n = (s.part.get FAB_STAT.LEVEL n + 1) % 2 ^ FAB_STAT.LEVEL.width ∧
          (t.part.rail n).addRun = [] ∧ (t.part.rail n).shedDwellSt = none ∧ t.part.rst n = .regulate ∧
          t.part.tb = max s.part.tb (s.part.nextTk n / 32)) ∧
      ((s.part.rst n ≠ .regulate ∨ (s.part.rail n).curHold ≠ none ∨ s.part.reefBad n = true ∨
          s.part.get FAB_REEF.LMAX n ≤ s.part.get FAB_STAT.LEVEL n ∨ need ≤ (s.part.rail n).addRun.length ∨
          (s.part.rail n).lastSt < at_ + orDefault (s.part.get FAB_REEF.SHED_DWELL n) 1 * 40000) →
        exec (.reefShed n) s = .next s)) ∧
    ((s.part.rail n).shedDwellSt = none → exec (.reefShed n) s = .next s)) ∧
  (∀ (s : State) (q : Phase), s.part.phases.length = 64 →
    (s.part.railOf q = none → exec (.phasePeriodEnd q) s = .next s) ∧
    (∀ n : Rail, s.part.railOf q = some n.val →
      (((s.part.live && s.part.convRun n) = false ∨ s.part.per n = 0 ∨ s.part.pst q = .retired ∨ s.part.pst q = .unassigned) →
        exec (.phasePeriodEnd q) s = .next s) ∧
      (s.part.live = true → s.part.convRun n = true → s.part.per n ≠ 0 →
        (s.part.pst q = .active → (s.part.rst n).switching = true →
          (∀ e, (s.part.ph q).due = some e → ∃ t, exec (.phasePeriodEnd q) s = .next t ∧ (t.part.ph q).due = none ∧
            (t.part.ph q).oorEnd = e.stop ∧ (t.part.ph q).actPeriods = (s.part.ph q).actPeriods + 1 ∧
            t.part.flag PSC.TRUNC q = e.trunc ∧ (t.part.ph q).scCnt = (if e.trunc then (s.part.ph q).scCnt + 1 else 0) ∧
            t.part.tb = s.part.tb) ∧
          ((s.part.ph q).due = none → (s.part.ph q).judged = true → exec (.phasePeriodEnd q) s = .next s) ∧
          ((s.part.ph q).due = none → (s.part.ph q).judged = false →
            ∃ t, exec (.phasePeriodEnd q) s = .next t ∧ (t.part.ph q).judged = true ∧
              (t.part.ph q).oorEnd = (s.part.ph q).next ∧ (t.part.ph q).actPeriods = (s.part.ph q).actPeriods + 1 ∧
              t.part.flag PSC.TRUNC q = (s.part.ph q).truncNow ∧
              (t.part.ph q).scCnt = (if (s.part.ph q).truncNow then (s.part.ph q).scCnt + 1 else 0) ∧
              t.part.tb = max s.part.tb ((s.part.ph q).next / 32))) ∧
        (∀ e stop : Nat, (s.part.pst q = .shed ∨ (s.part.pst q = .active ∧ (s.part.rst n).switching = false)) →
          e = (if s.part.nowSt < (s.part.rail n).originSt then (s.part.rail n).originSt else (s.part.rail n).originSt +
            (s.part.nowSt - (s.part.rail n).originSt) / s.part.per n * s.part.per n) →
          stop = (if (s.part.ph q).oorEnd < e then e else e + s.part.per n) →
          ∃ t, exec (.phasePeriodEnd q) s = .next t ∧ (t.part.ph q).oorEnd = stop ∧ (t.part.ph q).judged = true ∧
            (t.part.ph q).due = none ∧ (t.part.ph q).actPeriods = (s.part.ph q).actPeriods ∧
            t.part.tb = max s.part.tb (stop / 32) ∧ t.part.regs = s.part.regs)))) ∧
  (∀ s : State, (s.part.live = false → exec .healthUpdate s = .next s) ∧
    (s.part.live = true →
      ∃ t, exec .healthUpdate s = .next t ∧ t.part.dev = s.part.dev ∧
        t.part.tb = max s.part.tb (nextOn s.part.healthAt 1250000 s.part.tb) ∧ (∀ n : Rail, t.part.rst n = s.part.rst n) ∧
        ∀ q : Phase, (∀ n : Rail, q.val ∈ s.part.active n → (s.part.rst n ≠ .regulate ∨ (s.part.rail n).iReef.getD 0 <
          (s.part.get FAB_HCFG.HEALTH_IMIN n * (s.part.active n).length : Nat))) → t.part.ph q = s.part.ph q))

/-! The housekeeping converters. -/

/-- The result queue (R492): a read of HK_QLO returns the low word of the head entry and copies the high word into HK_QHI; a read of HK_QHI
returns the copy and removes the head; a read of HK_QLO of an empty queue returns 0 and sets QUNDER_EV, with its count. Without an address no
read comes.
CONVERSION_DONE (R475, R478, R479, R489 to R491, R507) in READY, RUN and SAFE of a converter that converts, 1,250 ticks after its begin: an entry of a
sequence and an injected request give a queue entry behind what stands there, with its code, its raw or calibrated value and the stamp of
its sample instant, or, with the queue full or switched off, an overflow event; a readback conversion adds to its sum, and the fourth gives the mean and
names the next DAC. Of a converter without a conversion of these, and in other states, it changes nothing. -/
def Obligations.HkResults : Prop :=
  (∀ s : State,
    (s.part.pmbActive = false → exec .hkQloRead s = .next s ∧ exec .hkQhiRead s = .next s) ∧
    (s.part.pmbActive = true →
      (∀ e l, s.part.hk.queue = e :: l →
        exec .hkQloRead s = .next (s.withPart ((s.part.set HK_QLO.ENTRY_LO (e % 2 ^ 32)).set HK_QHI.ENTRY_HI (e / 2 ^ 32)))) ∧
      (s.part.hk.queue = [] → exec .hkQloRead s =
        .next (s.withPart ((s.part.event HK_STAT.QUNDER_EV HK_EVCNT0.QUNDER_CNT).set HK_QLO.ENTRY_LO 0))) ∧
      exec .hkQhiRead s = .next (s.withPart (s.part.modHk fun h => { h with queue := h.queue.tail })))) ∧
  (∀ (s : State) (conv : HkConv) (x : HkInputs),
    ((s.part.hostActive = false ∨ s.part.job (convIx conv) = none ∨ s.part.job (convIx conv) = some .capture) →
      exec (.conversionDone conv x) s = .next s) ∧
    (s.part.hostActive = true →
      (∀ (ch raw : Nat) (src : Nat),
        ((∃ (slot : Nat) (r : InjReq), s.part.job (convIx conv) = some (.inj slot) ∧ nth s.part.hk.store slot none = some r ∧
            ch = r.ch ∧ raw = s.part.rawCode x r.ch r.dac ∧ src = 8 + slot) ∨
          (∃ k e, s.part.job (convIx conv) = some (.seq k e) ∧ ch = s.part.entryCh k e ∧ src = k ∧
            raw = s.part.rawCode x (s.part.entryCh k e) (s.part.entryDac k e))) →
        ∃ t, exec (.conversionDone conv x) s = .next t ∧ t.array = s.array ∧
          t.part.tb = max s.part.tb (s.part.began (convIx conv) + 1250) ∧
          ((s.part.flag IF_STAT.QUEUE_OFF = true ∨ 256 ≤ s.part.hk.queue.length) →
            t.part.flag HK_STAT.QOVF_EV = true ∧ t.part.hk.queue = s.part.hk.queue) ∧
          (s.part.flag IF_STAT.QUEUE_OFF = false → s.part.hk.queue.length < 256 →
            ∃ e l, t.part.hk.queue = s.part.hk.queue ++ e :: l ∧ e / 2 ^ 16 % 64 = ch % 64 ∧ e / 2 ^ 22 % 16 = src % 16 ∧
              e / 2 ^ 40 = (s.part.began (convIx conv) + 312) / 16 % 2 ^ 24 ∧
              e % 65536 = (match s.part.calSetOf ch (convIx conv) with
                | some c => ofS 16 (s.part.calValue c raw)
                | none => raw) % 65536)) ∧
      (∀ r, s.part.job (convIx conv) = some .readback → s.part.hk.rb = some r → r.conv = some (convIx conv) →
        ∃ t, exec (.conversionDone conv x) s = .next t ∧
          t.part.tb = max s.part.tb (s.part.began (convIx conv) + 1250) ∧
          (r.count ≠ 3 → t.part.hk.rb = some { r with sum := r.sum + s.part.rawCode x 59 r.dac, count := r.count + 1 } ∧
            t.part.job (convIx conv) = some .readback) ∧
          (r.count = 3 → r.dac < 48 → t.part.hk.rb = none ∧ t.part.get MON_RBCFG.RB_NEXT = (r.dac + 1) % 48 ∧
            t.part.get (if r.dac % 2 = 0 then MON_RB.RB_LOWER else MON_RB.RB_UPPER) (r.dac / 2) =
              (roundDiv (r.sum + s.part.rawCode x 59 r.dac : Nat) 4).toNat % 2 ^ 16))))

/-- Triggers of sequences (R481 to R486, R490). While both converters work on: a software trigger acts on every sequence of its mask with TRIG = 1 and
on no other; PWM_TRIGGER on the sequences of its rail with the earliest instant, which TB has then reached, while the rail is not OFF;
TB_TRIGGER on an armed sequence with TRIG = 3, at its instant, and arms the next one where there is a period; a write of TB0_HI arms the
sequence at the first instant from now on, and fires a past one at once. With a converter idle and nothing else to do for it, a software trigger starts the
sequence. EN = 0 removes what waits, and ends a running sequence at once or at its converter's next boundary.
Injected requests (R487): one that may enter takes a free place in the store, with its arrival number, and is converted at once by a
converter that is idle with no other work; another is refused and counted. Without an address no command of the host acts. -/
def Obligations.HkTriggers : Prop :=
  (∀ (s : State) (k : Fin 8) (v : Nat) (c : Instr), s.part.pmbActive = false →
    (c = .softwareTrigger v ∨ c = .seqTbhiWrite k v ∨ c = .seqDisable k ∨ c = .injectedRequest v) → exec c s = .next s) ∧
  (∀ (s : State) (v : Nat), s.part.hk.seqs.length = 8 → s.part.pmbActive = true →
    (s.part.job 0).isSome = true → (s.part.job 1).isSome = true →
    ∃ t, exec (.softwareTrigger v) s = .next t ∧ t.part.tb = s.part.tb ∧ ∀ k : Fin 8,
      (bitOf v k = 1 → s.part.get SEQ_CFG.TRIG k = 1 → s.part.triggered t.part k) ∧
      ((bitOf v k ≠ 1 ∨ s.part.get SEQ_CFG.TRIG k ≠ 1) → t.part.seqC k = s.part.seqC k ∧
        t.part.get SEQ_STAT.PENDING k = s.part.get SEQ_STAT.PENDING k ∧ t.part.get SEQ_STAT.HELD k = s.part.get SEQ_STAT.HELD k)) ∧
  (∀ (s : State) (k : Fin 8) (c : Nat), s.part.pmbActive = true → s.part.get SEQ_CFG.TRIG k = 1 →
    s.part.flag SEQ_CFG.EN k = true → s.part.flag SEQ_STAT.PENDING k = false → s.part.flag SEQ_STAT.RUNNING k = false →
    c = s.part.get SEQ_CFG.CONV k → c < 2 → s.part.job c = none → (s.part.job (1 - c)).isSome = true → s.part.hk.rb = none →
    s.part.hk.cal = none → (∀ x ∈ s.part.hk.store, x = none) → s.part.runningOn c = none → s.part.pendingOn c = none →
    (s.part.seqC k).stopAtBoundary = false →
    ∃ t, exec (.softwareTrigger (2 ^ k.val)) s = .next t ∧ t.part.flag SEQ_STAT.RUNNING k = true ∧
      t.part.flag SEQ_STAT.PENDING k = false ∧ t.part.job c = some (.seq k 0)) ∧
  (∀ (s : State) (n : Rail) (l : List Nat), s.part.hk.seqs.length = 8 →
    l = ((List.range 8).filter fun k => s.part.get SEQ_CFG.TRIG k == 2 && s.part.get SEQ_TRIG.RAIL k == n.val &&
      s.part.flag SEQ_CFG.EN k) →
    ((s.part.live = false ∨ s.part.rst n = .off ∨ l = []) → exec (.pwmTrigger n) s = .next s) ∧
    (s.part.live = true → s.part.rst n ≠ .off → (s.part.job 0).isSome = true → (s.part.job 1).isSome = true →
      ∀ k : Fin 8, k.val ∈ l → (∀ j ∈ l, s.part.pwmInstant n k ≤ s.part.pwmInstant n j) →
      ∃ t, exec (.pwmTrigger n) s = .next t ∧ t.part.tb = max s.part.tb (s.part.pwmInstant n k / 32) ∧
        (t.part.seqC k).pwmNext = s.part.pwmInstant n k + 1 ∧ s.part.triggered t.part k)) ∧
  (∀ (s : State) (k : Fin 8), s.part.hk.seqs.length = 8 →
    ((s.part.hostActive = false ∨ (s.part.seqC k).tbArmed = false ∨ s.part.get SEQ_CFG.TRIG k ≠ 3) →
      exec (.tbTrigger k) s = .next s) ∧
    (s.part.hostActive = true → (s.part.seqC k).tbArmed = true → s.part.get SEQ_CFG.TRIG k = 3 →
      (s.part.job 0).isSome = true → (s.part.job 1).isSome = true →
      ∃ t, exec (.tbTrigger k) s = .next t ∧ t.part.tb = max s.part.tb (s.part.seqC k).tbNext ∧
        (t.part.seqC k).tbNext = (s.part.seqC k).tbNext + s.part.get SEQ_PERIOD.PERIOD k * 1250 ∧
        (t.part.seqC k).tbArmed = (s.part.get SEQ_PERIOD.PERIOD k != 0) ∧ s.part.triggered t.part k)) ∧
  (∀ (s : State) (k : Fin 8) (v t0 per past : Nat), s.part.hk.seqs.length = 8 → s.part.pmbActive = true →
    (s.part.job 0).isSome = true → (s.part.job 1).isSome = true →
    t0 = s.part.get SEQ_TBLO.TB0_LO k + 2 ^ 32 * (v % 2 ^ SEQ_TBHI.TB0_HI.width) →
    per = s.part.get SEQ_PERIOD.PERIOD k * 1250 →
    past = (if s.part.tb ≤ t0 then 0 else if per = 0 then 1 else (s.part.tb - t0 - 1) / per + 1) →
    ∃ t, exec (.seqTbhiWrite k v) s = .next t ∧ t.part.get SEQ_TBHI.TB0_HI k = v % 2 ^ SEQ_TBHI.TB0_HI.width ∧
      t.part.tb = s.part.tb ∧ (t.part.seqC k).tbArmed = (past == 0 || per != 0) ∧ (t.part.seqC k).tbNext = t0 + past * per ∧
      (past = 1 → s.part.get SEQ_CFG.TRIG k = 3 → s.part.triggered t.part k) ∧
      (past = 0 → t.part.get SEQ_STAT.PENDING k = s.part.get SEQ_STAT.PENDING k)) ∧
  (∀ (s : State) (k : Fin 8), s.part.hk.seqs.length = 8 → s.part.pmbActive = true →
    (s.part.flag SEQ_STAT.RUNNING k = false → exec (.seqDisable k) s =
      .next (s.withPart (((s.part.set SEQ_CFG.EN 0 k).set SEQ_STAT.PENDING 0 k).set SEQ_STAT.HELD 0 k))) ∧
    (s.part.flag SEQ_STAT.RUNNING k = true → ∃ t, exec (.seqDisable k) s = .next t ∧ t.part.flag SEQ_CFG.EN k = false ∧
      t.part.flag SEQ_STAT.PENDING k = false ∧ t.part.flag SEQ_STAT.HELD k = false ∧
      ((s.part.job (s.part.get SEQ_CFG.CONV k)).isSome = true →
        (t.part.seqC k).stopAtBoundary = true ∧ t.part.flag SEQ_STAT.RUNNING k = true) ∧
      (s.part.job (s.part.get SEQ_CFG.CONV k) = none → t.part.flag SEQ_STAT.RUNNING k = false))) ∧
  (∀ (s : State) (v : Nat) (bad : Bool), s.part.pmbActive = true →
    bad = (s.part.hk.store.all Option.isSome || (s.part.hk.store.any fun r => r.any fun q => q.ch == bitsOf v 0 6) ||
      decide (60 ≤ bitsOf v 0 6) || bitsOf v 6 2 == 3 || (bitsOf v 0 6 == 59 && decide (47 < bitsOf v 8 6))) →
    (bad = true → exec (.injectedRequest v) s =
      .next (s.withPart ((s.part.event HK_STAT.INJREF_EV HK_EVCNT0.INJREF_CNT).refuse .pmbus 0x70014))) ∧
    (bad = false → (s.part.job 0).isSome = true → (s.part.job 1).isSome = true →
      ∃ t slot, exec (.injectedRequest v) s = .next t ∧ nth s.part.hk.store slot none = none ∧
        t.part.hk.store = upd s.part.hk.store slot (fun _ =>
          some ⟨bitsOf v 0 6, bitsOf v 6 2, bitsOf v 8 6, s.part.hk.injOrder⟩) ∧
        t.part.hk.injOrder = s.part.hk.injOrder + 1 ∧ t.part.regs = s.part.regs) ∧
    (∀ c : Nat, bad = false → c < 2 → s.part.job c = none → (s.part.job (1 - c)).isSome = true →
      (∀ k, s.part.job (1 - c) ≠ some (.inj k)) → s.part.hk.rb = none →
      s.part.hk.cal = none → s.part.hk.store = [none, none, none, none] → (bitsOf v 6 2 = c ∨ bitsOf v 6 2 = 2) →
      ∃ t, exec (.injectedRequest v) s = .next t ∧ t.part.job c = some (.inj 0)))

/-- Calibration and readback (R493 to R498, R507, R511, R512, R526). CAL_ZERO is taken while none is in service, and CAL_FULL with the zero of its
set; both are refused else, with their result. CAL_ABORT ends a command that still waits with result 7, and marks a running capture to stop at its
next boundary. CAPTURE_END of a running capture, after 256 conversions or at that boundary: a stopped one ends with result 7; one with a
code at either end of the range fails with result 4; a zero capture keeps its sum; a full one of too small a span fails with result 2, of
too small a slope with 3, and else binds its set with offset and gain. CALc_BIND takes the fields that keep the rule of R511 and counts the
refusal of another, and is refused while its set is under capture. DAC_READBACK in READY, RUN and SAFE puts the next DAC's readback on its 208 µs grid
while none is under way. In other cases, and without an address for the commands of the host, nothing changes. -/
def Obligations.HkCalibration : Prop :=
  (∀ (s : State) (c ref v : Nat) (k : Fin 16) (cmd : Instr), s.part.pmbActive = false →
    (cmd = .calZero c ref ∨ cmd = .calFull c ref ∨ cmd = .calAbort ∨ cmd = .calBindWrite k v) → exec cmd s = .next s) ∧
  (∀ (s : State) (c ref : Nat) (cmd : Instr) (full : Bool), s.part.pmbActive = true →
    ((cmd = .calZero c ref ∧ full = false) ∨ (cmd = .calFull c ref ∧ full = true)) →
    (s.part.hk.cal = none → (full = true → nth s.part.hk.zeros c none ≠ none) → (s.part.job 0).isSome = true →
      (s.part.job 1).isSome = true →
      ∃ t, exec cmd s = .next t ∧ t.part.hk.cal = some ⟨c, full, ref, false, none⟩ ∧ t.part.get HK_CALSTAT.SET = c % 16 ∧
        t.part.get HK_CALSTAT.PHASE = 1) ∧
    (s.part.hk.cal = none → full = true → nth s.part.hk.zeros c none = none → exec cmd s =
      .next (s.withPart (((s.part.set HK_CALSTAT.SET c).set HK_CALSTAT.LAST 6).refuse .pmbus 0x70018))) ∧
    (s.part.hk.cal ≠ none → exec cmd s = .next (s.withPart ((s.part.set HK_CALSTAT.LAST 5).refuse .pmbus 0x70018)))) ∧
  (∀ s : State,
    (s.part.hk.cal = none → exec .calAbort s = .next s) ∧
    (∀ k, s.part.pmbActive = true → s.part.hk.cal = some k →
      (k.running = false → ∃ t, exec .calAbort s = .next t ∧ t.part.hk.cal = none ∧ t.part.get HK_CALSTAT.LAST = 7 ∧
        t.part.get HK_CALSTAT.PHASE = (if (nth s.part.hk.zeros k.set none).isSome then 3 else 0)) ∧
      (k.running = true → exec .calAbort s = .next (s.withPart (s.part.modHk fun h => { h with cal := some { k with
        stopAt := some (k.stopAt.getD (s.part.began (s.part.calConv k) +
          ((s.part.tb - s.part.began (s.part.calConv k)) / 1250 + 1) * 1250)) } }))))) ∧
  (∀ (s : State) (l : List Int) (aux : Nat),
    ((s.part.hostActive = false ∨ s.part.hk.cal = none ∨ ∃ k, s.part.hk.cal = some k ∧ k.running = false) →
      exec (.captureEnd l aux) s = .next s) ∧
    (∀ (k : Capture) (c : Fin 16) (raws : List Nat) (sum : Nat) (z span ref : Int), s.part.hostActive = true →
      s.part.hk.zeros.length = 16 → s.part.hk.cal = some k → k.running = true → k.set = c.val →
      raws = s.part.captured k l aux → sum = sumN raws → z = (nth s.part.hk.zeros c none).getD 0 → span = sum - z →
      ref = toS 16 k.refVal →
      ∃ t, exec (.captureEnd l aux) s = .next t ∧ t.part.hk.cal = none ∧
        t.part.tb = max s.part.tb (k.stopAt.getD (s.part.began (s.part.calConv k) + 320000)) ∧
        (k.stopAt.isSome = true → t.part.get HK_CALSTAT.LAST = 7 ∧ t.part.hk.zeros = s.part.hk.zeros) ∧
        (k.stopAt = none → (raws.any fun r => r == 0 || r == 65535) = true → nth t.part.hk.zeros c none = none ∧
          t.part.get HK_CALSTAT.LAST = 4 ∧ t.part.flag HK_STAT.CALFAIL_EV = true) ∧
        (k.stopAt = none → (raws.any fun r => r == 0 || r == 65535) = false →
          (k.full = false → nth t.part.hk.zeros c none = some sum ∧ t.part.get HK_CALSTAT.LAST = 1 ∧
            t.part.get HK_CALSTAT.PHASE = 3) ∧
          (k.full = true → span.natAbs < 65536 → t.part.get HK_CALSTAT.LAST = 2 ∧ t.part.flag HK_STAT.CALFAIL_EV = true) ∧
          (k.full = true → 65536 ≤ span.natAbs → 2 * span.natAbs ≤ ref.natAbs * 256 → t.part.get HK_CALSTAT.LAST = 3 ∧
            t.part.flag HK_STAT.CALFAIL_EV = true) ∧
          (k.full = true → 65536 ≤ span.natAbs → ref.natAbs * 256 < 2 * span.natAbs →
            t.part.flag CAL_BIND.VALID c = true ∧ t.part.get CAL_OFS.OFFSET c = z.toNat % 2 ^ CAL_OFS.OFFSET.width ∧
            t.part.get CAL_GAIN.GAIN c =
              (s.part.setS CAL_GAIN.GAIN (span.sign * roundDiv (ref * 2 ^ 38) span.natAbs) c).get CAL_GAIN.GAIN c ∧
            t.part.get HK_CALSTAT.LAST = 1 ∧ t.part.flag HK_STAT.CALDONE_EV = true ∧ nth t.part.hk.zeros c none = none)))) ∧
  (∀ (s : State) (c : Fin 16) (v : Nat), s.part.pmbActive = true →
    (s.part.setBusy c = true → exec (.calBindWrite c v) s =
      .next (s.withPart (s.part.refuse .pmbus (0x70400 + c.val * 16)))) ∧
    (s.part.setBusy c = false → (bitOf v 8 = 0 ∨ bitsOf v 0 6 ≤ 56) →
      ∃ t, exec (.calBindWrite c v) s = .next t ∧ t.part.regs = (((s.part.set CAL_BIND.CH (bitsOf v 0 6) c).set CAL_BIND.CONV
        (bitOf v 6) c).set CAL_BIND.VALID (bitOf v 8) c).regs ∧ t.part.refusals = s.part.refusals) ∧
    (s.part.setBusy c = false → bitOf v 8 = 1 → 57 ≤ bitsOf v 0 6 →
      (s.part.flag CAL_BIND.VALID c = false ∨ s.part.get CAL_BIND.CH c ≤ 56) →
      ∃ t, exec (.calBindWrite c v) s = .next t ∧ t.part.get CAL_BIND.VALID c = s.part.get CAL_BIND.VALID c ∧
        t.part.get CAL_BIND.CONV c = bitOf v 6 ∧
        t.part.get CAL_BIND.CH c = (if s.part.flag CAL_BIND.VALID c then s.part.get CAL_BIND.CH c else bitsOf v 0 6) ∧
        t.part.refusals = s.part.refusals + 1 ∧ t.part.get HOST_REFADDR.ADDR = 0x70400 + c.val * 16)) ∧
  (∀ s : State,
    ((s.part.hostActive = false ∨ s.part.hk.rb ≠ none) → exec .dacReadback s = .next s) ∧
    (∀ at_, s.part.hostActive = true → s.part.hk.rb = none → (s.part.job 0).isSome = true → (s.part.job 1).isSome = true →
      at_ = nextOn s.part.hk.rbAt 260000 s.part.tb →
      exec .dacReadback s = .next (s.withPart ((s.part.advance at_).modHk fun h => { h with
        rbAt := some at_, rb := some ⟨s.part.get MON_RBCFG.RB_NEXT, at_, none, 0, 0⟩ }))))

/-! The window monitors. -/

/-- The output of a monitor follows the table of R500 with its thresholds and its hysteresis: at a sample of a sampled monitor that has started
(R503), and at a crossing of a continuous one (R502); a change is an event. A monitor that starts takes the level of its input, or inside
a band SAFE_STATE with START_HOLD, which a later input outside the bands ends (R501). A forced output stays (R509). A sample ends its window,
2 µs after it opened; a command for a monitor that does not run in its way changes nothing.
PB_BURST_END (R389 to R391): a burst of the parked-burst generator ends with its last pulse period, and the next sample is the first after
it; of one sample that came during it, IN clears the count of failed bursts and BELOW counts and, with no trip, starts the next burst. Without
a burst it changes nothing. -/
def Obligations.Monitors : Prop :=
  (∀ (s : State) (m : Fin 24) (uv : Nat) (x : Straps) (v u l h : Int) (next_ level : Nat) (band : Bool),
    v = (uv * 100000 : Nat) → u = (s.part.get MON_THR.UPPER m * 244140625 : Nat) →
    l = (s.part.get MON_THR.LOWER m * 244140625 : Nat) → h = (s.part.get MON_CFG.HYS m * 200000000 : Nat) →
    next_ = (if s.part.get MON_STAT.STATE m = 1 then (if v < l then 2 else if v < u - h then 0 else 1)
      else if s.part.get MON_STAT.STATE m = 2 then (if u < v then 1 else if l + h < v then 0 else 2)
      else if u < v then 1 else if v < l then 2 else 0) →
    level = (if u < v then 1 else if v < l then 2 else 0) →
    band = ((decide (u - h ≤ v) && decide (v ≤ u)) || (decide (l ≤ v) && decide (v ≤ l + h))) →
    ((s.part.mon m).runs ≠ 2 → exec (.monSample m ⟨uv, x⟩) s = .next s) ∧
    ((s.part.mon m).runs ≠ 1 → exec (.monCrossing m uv) s = .next s) ∧
    (∀ c, ((c = .monSample m ⟨uv, x⟩ ∧ (s.part.mon m).runs = 2 ∧ (s.part.mon m).started = true) ∨
        (c = .monCrossing m uv ∧ (s.part.mon m).runs = 1)) →
      ∃ t, exec c s = .next t ∧
        (s.part.flag MON_STAT.FORCED m = true → t.part.get MON_STAT.STATE m = s.part.get MON_STAT.STATE m) ∧
        (s.part.flag MON_STAT.FORCED m = false → s.part.flag MON_STAT.START_HOLD m = true → band = true →
          t.part.get MON_STAT.STATE m = s.part.get MON_STAT.STATE m) ∧
        (∀ to_, s.part.flag MON_STAT.FORCED m = false → ((s.part.flag MON_STAT.START_HOLD m = false ∧ to_ = next_) ∨
            (s.part.flag MON_STAT.START_HOLD m = true ∧ band = false ∧ to_ = level)) →
          t.part.get MON_STAT.STATE m = to_ ∧ t.part.flag MON_STAT.START_HOLD m = false ∧
          (s.part.get MON_STAT.STATE m ≠ to_ → (to_ = 0 → t.part.flag MON_STAT.IN_EV m = true) ∧
            (to_ = 1 → t.part.flag MON_STAT.ABOVE_EV m = true) ∧ (to_ = 2 → t.part.flag MON_STAT.BELOW_EV m = true)))) ∧
    ((s.part.mon m).runs = 2 → s.part.dev ≠ .parked → s.part.dev ≠ .wakeResume →
      ∃ t, exec (.monSample m ⟨uv, x⟩) s = .next t ∧
        t.part.tb = max s.part.tb (((s.part.mon m).begSt + (s.part.mon m).count * s.part.winLen m + 80000) / 32)) ∧
    ((s.part.mon m).runs = 2 → (s.part.mon m).started = false → s.part.flag MON_STAT.FORCED m = false →
      ∃ t, exec (.monSample m ⟨uv, x⟩) s = .next t ∧ t.part.flag MON_STAT.START_HOLD m = band ∧
        t.part.get MON_STAT.STATE m = (if band then s.part.get MON_CFG.SAFE_STATE m % 4 else level))) ∧
  (∀ (s : State) (n : Rail) (x : Straps), s.part.rails.length = 8 →
    (((s.part.rail n).pbOwns = false ∨ (s.part.rail n).pbBursting = false) → exec (.pbBurstEnd ⟨n, x⟩) s = .next s) ∧
    ((s.part.rail n).pbOwns = true → (s.part.rail n).pbBursting = true →
      ((s.part.rail n).pbSeen = [] → exec (.pbBurstEnd ⟨n, x⟩) s = .next (s.withPart ((s.part.advanceClock
        ((s.part.rail n).pbStartSt + s.part.pbPulses n * s.part.pbPer n)).modRail n fun r => { r with
          pbBursting := false, pbFirst := true, pbSeen := [] }))) ∧
      ((s.part.rail n).pbSeen = [0] → (s.part.rail n).pbStopped = false → ∃ t, exec (.pbBurstEnd ⟨n, x⟩) s = .next t ∧
        (t.part.rail n).pbBursting = false ∧ (t.part.rail n).pbFails = 0 ∧ (t.part.rail n).pbFirst = false) ∧
      ((s.part.rail n).pbSeen = [2] → (s.part.rail n).pbStopped = false → ∃ t, exec (.pbBurstEnd ⟨n, x⟩) s = .next t ∧
        (t.part.rail n).pbFails = (s.part.rail n).pbFails + 1 ∧
        (t.part.rail n).pbBursting = ((s.part.rail n).pbStage == 0))))

/-! Thermal sensing. -/

/-- THERM_SAMPLE of a scanned, unbroken sensor (R535 to R537, R540, R541, R546) at the end of its 48 µs slot of the 1 ms frame: a reading is shown,
valid, clears the broken count, and moves the entry count of each inactive level and the exit count of each active one; a measurement that meets a
broken condition makes the reading invalid, keeps its cause and counts; one that is not of the sensor's mode shows nothing.
SENSOR_BROKEN (R541): the third frame in a row makes the sensor broken, with its flags, its level states and counts cleared, and service cause 1.
THERM_CHECK (R544) counts the frames in which each check lay more than 0.5 mV off, and FE_FAIL at the third sets FE_FAIL and breaks
the remote sensors, and with FE_SAFE is the SAFE reaction with detail 3. Of a sensor that is not scanned or is broken, and below the counts,
nothing changes. -/
def Obligations.ThermalSamples : Prop :=
  (∀ (s : State) (k : Fin 20) (m : ThermMeas),
    ((s.part.scanned k = false ∨ s.part.tsBroken k = true) →
      exec (.thermSample k m) s = .next s ∧ exec (.sensorBroken k) s = .next s) ∧
    (s.part.scanned k = true → s.part.tsBroken k = false → s.part.therm.length = 21 →
      (∀ f off : Nat, s.part.pwmRuns = true → s.part.thermAt = some f → off = 48 * (k.val + 1) * 1250 →
        ∃ t, exec (.thermSample k m) s = .next t ∧ s.part.tb ≤ t.part.tb ∧ t.part.tb % 1250000 = (f + off) % 1250000 ∧
          t.part.thermAt = some f) ∧
      (s.part.pwmRuns = false → ∃ t, exec (.thermSample k m) s = .next t ∧ t.part.tb = s.part.tb) ∧
      (s.part.thermRead k m = none → ∃ t, exec (.thermSample k m) s = .next t ∧ t.part.regs = s.part.regs ∧
        (t.part.thermC k).brokenRun = (s.part.thermC k).brokenRun ∧ (t.part.thermC k).enter = (s.part.thermC k).enter) ∧
      (∀ x, s.part.thermRead k m = some (.inl x) → (s.part.thermC k).enter.length = 3 → (s.part.thermC k).leave.length = 3 →
        ∃ t, exec (.thermSample k m) s = .next t ∧ t.part.getS TS_READ.TEMP k = satS 16 x ∧ t.part.flag TS_READ.VALID k = true ∧
          (t.part.thermC k).brokenRun = 0 ∧ ∀ l : ThermLevel,
          t.part.flag (levelAct l) k = s.part.flag (levelAct l) k ∧
          (s.part.flag (levelAct l) k = true → nth (t.part.thermC k).enter (levelIx l) 0 = nth (s.part.thermC k).enter (levelIx l) 0 ∧
            nth (t.part.thermC k).leave (levelIx l) 0 = (if x ≤ ((s.part.tsThr k l : Int) - s.part.tsHys k l) * 8 then
              min (s.part.tsExit k) (nth (s.part.thermC k).leave (levelIx l) 0 + 1) else 0)) ∧
          (s.part.flag (levelAct l) k = false → nth (t.part.thermC k).leave (levelIx l) 0 = nth (s.part.thermC k).leave (levelIx l) 0 ∧
            nth (t.part.thermC k).enter (levelIx l) 0 = (if (s.part.tsThr k l : Int) * 8 ≤ x then
              min (s.part.tsEnter k l) (nth (s.part.thermC k).enter (levelIx l) 0 + 1) else 0))) ∧
      (∀ c, s.part.thermRead k m = some (.inr c) →
        ∃ t, exec (.thermSample k m) s = .next t ∧ t.part.flag TS_READ.VALID k = false ∧ (t.part.thermC k).cause = c ∧
          (t.part.thermC k).brokenRun = min 3 ((s.part.thermC k).brokenRun + 1) ∧
          t.part.getS TS_READ.TEMP k = s.part.getS TS_READ.TEMP k) ∧
      ((s.part.thermC k).brokenRun < 3 → exec (.sensorBroken k) s = .next s) ∧
      (3 ≤ (s.part.thermC k).brokenRun → (s.part.thermC k).cause < 4 →
        ∃ t, exec (.sensorBroken k) s = .next t ∧ t.part.flag TS_READ.BROKEN k = true ∧
          t.part.get TS_READ.BRK_CAUSE k = (s.part.thermC k).cause ∧ t.part.flag TS_STAT.BRK_EV k = true ∧
          t.part.get TS_EVCNT.BRK_CNT k = (s.part.bump TS_EVCNT.BRK_CNT k).get TS_EVCNT.BRK_CNT k ∧
          (∀ l : ThermLevel, t.part.flag (levelAct l) k = false) ∧ t.part.thermC k = {} ∧
          t.part.bit SVC_STATUS.CAUSE 1 = true ∧ t.part.dev = s.part.dev))) ∧
  (∀ (s : State) (z r : Int),
    (s.part.scanned 16 = false → exec (.thermCheck z r) s = .next s) ∧
    (s.part.scanned 16 = true → ∃ t, exec (.thermCheck z r) s = .next t ∧ t.part.regs = s.part.regs ∧
      t.part.feBad = [if 500 < z.natAbs then min 3 (nth s.part.feBad 0 0 + 1) else 0,
        if 500 < (r - 80000).natAbs then min 3 (nth s.part.feBad 1 0 + 1) else 0] ∧
      (∀ f, s.part.pwmRuns = true → s.part.thermAt = some f → s.part.tb ≤ t.part.tb ∧
        t.part.tb % 1250000 = (f + 1250000) % 1250000))) ∧
  (∀ s : State,
    ((s.part.flag THERM_STAT.FE_FAIL = true ∨ (∀ k ∈ s.part.feBad, k < 3)) → exec .feFail s = .next s) ∧
    (∀ k, s.part.flag THERM_STAT.FE_FAIL = false → k ∈ s.part.feBad → 3 ≤ k →
      ∃ t, exec .feFail s = .next t ∧ t.part.flag THERM_STAT.FE_FAIL = true ∧ (∀ j : Fin 16, t.part.flag TS_READ.BROKEN j = true) ∧
        (s.part.flag THERM_CFG.FE_SAFE = false → t.part.dev = s.part.dev) ∧
        (s.part.flag THERM_CFG.FE_SAFE = true → s.part.live = true → t.part.dev = .safe ∧
          t.part.get SYS_STATE.SAFE_CAUSE = 5 ∧ t.part.get SAFE_DETAIL.DETAIL = 3)))

/-- The thermal levels (R260, R546, R549, R551 to R553). An inactive level of a scanned sensor whose entry count is reached becomes active, with its
event and count: WARN with nothing more, THROTTLE with the run-ahead entries and intents of the sensor's rails discarded, SHUTDOWN without SHUT_EN
likewise; SHUTDOWN with SHUT_EN, and the fixed die comparator, lead to HOTLATCH, whose latch stands in AON, from where R69 has them, with the
queued NVM writes cancelled and every rail in OFF, and with the clocks stopped at once where no record is formed. An active level whose exit count is
reached ends. HOTLATCH_CLOCK_STOP: in HOTLATCH the clocks stop, and nothing is queued or in progress. Elsewhere nothing changes. -/
def Obligations.ThermalLevels : Prop :=
  (∀ (s : State) (k : Fin 20) (l : ThermLevel),
    ((s.part.scanned k = false ∨ s.part.tsBroken k = true ∨ s.part.flag (levelAct l) k = true ∨
        nth (s.part.thermC k).enter (levelIx l) 0 < s.part.tsEnter k l) → exec (.thermalLevelEnter k l) s = .next s) ∧
    (s.part.scanned k = true → s.part.tsBroken k = false → s.part.flag (levelAct l) k = false → s.part.therm.length = 21 →
      s.part.tsEnter k l ≤ nth (s.part.thermC k).enter (levelIx l) 0 →
      (l = .warn → ∃ t, exec (.thermalLevelEnter k l) s = .next t ∧ t.part.flag TS_STAT.WARN_ACT k = true ∧
        t.part.flag TS_STAT.WARN_EV k = true ∧
        t.part.get TS_EVCNT.WARN_CNT k = (s.part.bump TS_EVCNT.WARN_CNT k).get TS_EVCNT.WARN_CNT k ∧
        nth (t.part.thermC k).enter 0 0 = 0 ∧ t.part.dev = s.part.dev ∧ t.part.rails = s.part.rails) ∧
      ((l = .throttle ∨ (l = .shutdown ∧ s.part.tsShutEn k = false)) → s.part.rails.length = 8 →
        ∃ t, exec (.thermalLevelEnter k l) s = .next t ∧ t.part.flag (levelAct l) k = true ∧
          nth (t.part.thermC k).enter (levelIx l) 0 = 0 ∧ t.part.dev = s.part.dev ∧
          (l = .throttle → t.part.flag TS_STAT.THR_EV k = true ∧
            t.part.get TS_EVCNT.THR_CNT k = (s.part.bump TS_EVCNT.THR_CNT k).get TS_EVCNT.THR_CNT k) ∧
          (l = .shutdown → t.part.flag TS_STAT.SHUT_EV k = true ∧
            t.part.get TS_EVCNT.SHUT_CNT k = (s.part.bump TS_EVCNT.SHUT_CNT k).get TS_EVCNT.SHUT_CNT k) ∧
          ∀ n : Rail, t.part.rst n = s.part.rst n ∧ (bitOf (s.part.tsRails k) n = 1 →
            (t.part.rail n).entries = [] ∧ t.part.get RA_STAT.INTENT n = 0)) ∧
      (l = .shutdown → s.part.tsShutEn k = true → s.part.dev ≠ .off → s.part.dev ≠ .hotlatch → s.part.dev ≠ .test →
        ∃ t, exec (.thermalLevelEnter k l) s = .next t ∧ t.part.dev = .hotlatch ∧ t.part.hotLatch = true ∧
          t.part.clocksStopped = !s.part.hostActive ∧ t.part.flag TS_STAT.SHUT_EV k = true ∧
          t.part.nvm.recs = [] ∧ t.part.nvm.logs = [] ∧ ∀ n : Rail, t.part.rst n = .off)) ∧
    ((s.part.scanned k = false ∨ s.part.flag (levelAct l) k = false ∨
        nth (s.part.thermC k).leave (levelIx l) 0 < s.part.tsExit k) → exec (.thermalLevelExit k l) s = .next s) ∧
    (s.part.scanned k = true → s.part.flag (levelAct l) k = true → s.part.therm.length = 21 →
      s.part.tsExit k ≤ nth (s.part.thermC k).leave (levelIx l) 0 →
      ∃ t, exec (.thermalLevelExit k l) s = .next t ∧ t.part.flag (levelAct l) k = false ∧
        nth (t.part.thermC k).leave (levelIx l) 0 = 0 ∧ t.part.dev = s.part.dev ∧ t.part.rails = s.part.rails)) ∧
  (∀ s : State,
    ((s.part.dev = .off ∨ s.part.dev = .hotlatch ∨ s.part.dev = .test) → (∀ k : Fin 20, s.part.shutDue k = false) →
      exec .fixedDieShutdown s = .next s) ∧
    (s.part.dev ≠ .off → s.part.dev ≠ .hotlatch → s.part.dev ≠ .test →
      ∃ t, exec .fixedDieShutdown s = .next t ∧ t.part.dev = .hotlatch ∧ t.part.hotLatch = true ∧
        t.part.clocksStopped = !s.part.hostActive ∧ t.part.nvm.recs = [] ∧ t.part.nvm.logs = [] ∧
        ∀ n : Rail, t.part.rst n = .off) ∧
    (s.part.dev = .hotlatch → s.part.clocksStopped = false →
      ∃ t, exec .hotlatchClockStop s = .next t ∧ t.part.clocksStopped = true ∧ t.part.nvm = {} ∧ t.part.dev = .hotlatch ∧
        t.part.regs = s.part.regs ∧ t.otp = s.otp ∧ (s.part.nvm.op = none → t.array = s.array)) ∧
    ((s.part.dev ≠ .hotlatch ∨ s.part.clocksStopped = true) → exec .hotlatchClockStop s = .next s))

/-! In-field tests. -/

/-- The in-field tests (R145, R575, R577 to R581, R586). EC_INJECTION in the raw slot after the latest sample, and PH_INJECTION in the sample slot
that then holds the sample before: one within tolerance of the calibration mean clears its count and one beyond counts, and fails. At three in a row
EC_INJ_FAIL and PH_INJ_FAIL set their flags, raise fault code 8 or decide the retirement with cause 5. MBIST_STEP changes nothing
until a run ends: aborted, NOTRUN; passed, PASS_CNT; failed, IFFAIL_EV with the RAM's reaction. HAL_LOOPBACK of a port in service likewise, and a
failing port goes out of service. TEST_LATE raises LATE no sooner than 1 s after the cycle began. Where a converter or port is
not in service, and below the counts, no test counts. -/
def Obligations.SelfTests : Prop :=
  (∀ (s : State) (n : Rail) (k : Fin 2) (code : Int), s.part.rails.length = 8 →
    ((s.part.injCounts n = false ∨ (s.part.rail n).injSt = some ((s.part.rail n).lastSt + 512)) →
      exec (.ecInjection n k code) s = .next s) ∧
    (s.part.injCounts n = true → (s.part.rail n).injSt ≠ some ((s.part.rail n).lastSt + 512) → s.part.test.ecInj.length = 8 →
      (nth s.part.test.ecInj n []).length = 2 →
      ∃ t, exec (.ecInjection n k code) s = .next t ∧ (t.part.rail n).injSt = some ((s.part.rail n).lastSt + 512) ∧
        t.part.tb = max s.part.tb (((s.part.rail n).lastSt + 512) / 32) ∧
        (injectionOff code (nth (nth s.part.test.ecMean n []) k 0) s.part.ecTol = false →
          nth (nth t.part.test.ecInj n []) k 0 = 0) ∧
        (injectionOff code (nth (nth s.part.test.ecMean n []) k 0) s.part.ecTol = true →
          nth (nth t.part.test.ecInj n []) k 0 = min 3 (nth (nth s.part.test.ecInj n []) k 0 + 1) ∧
          t.part.flag IF_STAT.IFFAIL_EV = true)) ∧
    ((s.part.live = false ∨ (∀ c ∈ nth s.part.test.ecInj n [], c < 3) ∨ s.part.bit IF_INJ.EC_INJ_FAIL n = true) →
      exec (.ecInjFail n) s = .next s) ∧
    (∀ c, s.part.live = true → c ∈ nth s.part.test.ecInj n [] → 3 ≤ c → s.part.bit IF_INJ.EC_INJ_FAIL n = false →
      ∃ t, exec (.ecInjFail n) s = .next t ∧ t.part.bit IF_INJ.EC_INJ_FAIL n = true ∧
        t.part.bit SENSE_CALSTAT.EC_FAIL n = true ∧ (2 ≤ s.part.get PR_RESP.CLASS n 7 → t.part.dev = s.part.dev) ∧
        (s.part.rst n ≠ .off → s.part.rst n ≠ .latched → (s.part.rail n).curHold = none → s.part.get PR_RESP.CLASS n 7 = 3 →
          t.part.get PR_STAT.LAST_FAULT n = 8))) ∧
  (∀ (s : State) (q : Phase) (k : Fin 2) (code : Int), s.part.phases.length = 64 → s.part.rails.length = 8 →
    (s.part.railOf q = none → exec (.phInjection q k code) s = .next s ∧ exec (.phInjFail q) s = .next s) ∧
    (∀ n : Rail, s.part.railOf q = some n.val →
      ((s.part.live = false ∨ s.part.convRun n = false ∨ (s.part.pst q ≠ .active ∧ s.part.pst q ≠ .shed)) →
        exec (.phInjection q k code) s = .next s) ∧
      (s.part.live = true → s.part.convRun n = true → (s.part.pst q = .active ∨ s.part.pst q = .shed) →
        ∃ t, exec (.phInjection q k code) s = .next t ∧ t.part.tb = max s.part.tb (s.part.nextGrid n q / 32) ∧
          (∀ h rest, (s.part.ph q).samples = h :: rest → (t.part.ph q).samples =
            (({ h with at_ := s.part.nextGrid n q, held := true } : PhSample) :: h :: rest).take 256) ∧
          (s.part.injCounts n = false → (t.part.ph q).injCnt = (s.part.ph q).injCnt) ∧
          (s.part.injCounts n = true → (s.part.ph q).injCnt.length = 2 →
            (injectionOff code (nth (s.part.ph q).calMean k 0) s.part.phTol = false → nth (t.part.ph q).injCnt k 0 = 0) ∧
            (injectionOff code (nth (s.part.ph q).calMean k 0) s.part.phTol = true →
              nth (t.part.ph q).injCnt k 0 = min 3 (nth (s.part.ph q).injCnt k 0 + 1) ∧ t.part.flag IF_STAT.IFFAIL_EV = true))) ∧
      ((s.part.live = false ∨ s.part.retirable q = false ∨ (∀ c ∈ (s.part.ph q).injCnt, c < 3) ∨
          (s.part.ph q).retirePend ≠ none) → exec (.phInjFail q) s = .next s) ∧
      (∀ c, s.part.live = true → s.part.retirable q = true → c ∈ (s.part.ph q).injCnt → 3 ≤ c → (s.part.ph q).retirePend = none →
        ∃ t, exec (.phInjFail q) s = .next t ∧ t.part.flag PCS_CAL.CAL_FAIL q = true ∧
          t.part.get IF_INJ.PH_INJ_FAIL_CNT = (s.part.bump IF_INJ.PH_INJ_FAIL_CNT).get IF_INJ.PH_INJ_FAIL_CNT ∧
          (s.part.rst n ≠ .off → (t.part.ph q).retirePend = some 5) ∧
          (s.part.rst n = .off → t.part.pst q = .retired ∧ t.part.get PH_STAT.RET_CAUSE q = 5)))) ∧
  (∀ (s : State) (ram : Fin 6) (x : Option TestRun), (s.part.hostActive = false → exec (.mbistStep ram x) s = .next s) ∧
    (s.part.hostActive = true → exec (.mbistStep ram none) s = .next s ∧
      exec (.mbistStep ram (some .aborted)) s = .next (s.withPart (s.part.event IF_STAT.NOTRUN_EV IF_EVCNT.NOTRUN_CNT)) ∧
      ∀ r, ∃ t, exec (.mbistStep ram (some (.done r))) s = .next t ∧
        (verdictOf r = 1 → t.part.get IF_PASSCNT.PASS_CNT = (s.part.get IF_PASSCNT.PASS_CNT + 1) % 2 ^ IF_PASSCNT.PASS_CNT.width ∧
          t.part.dev = s.part.dev) ∧
        (verdictOf r ≠ 1 → t.part.bit IF_STAT.MBIST_FAIL ram = true ∧ t.part.flag IF_STAT.IFFAIL_EV = true ∧
          (ram = 3 → t.part.flag IF_STAT.QUEUE_OFF = true ∧ t.part.dev = s.part.dev) ∧
          (ram = 5 → s.part.hal.out_.length = 2 → (∀ port, t.part.outOf port = true) ∧ t.part.dev = s.part.dev) ∧
          (ram ≠ 3 → ram ≠ 5 → s.part.live = true → t.part.dev = .safe ∧ t.part.get SYS_STATE.SAFE_CAUSE = 5 ∧
            t.part.get SAFE_DETAIL.DETAIL = 1)))) ∧
  (∀ (s : State) (port : HalPort) (x : TestRun),
    ((s.part.hostActive = false ∨ s.part.portIn port = false) →
      exec (.halLoopback port x) s = .next (s.withPart (s.part.modHal fun h => { h with sent := [] }))) ∧
    (s.part.hostActive = true → s.part.portIn port = true → s.part.hal.out_.length = 2 →
      (∃ t, exec (.halLoopback port .aborted) s = .next t ∧ t.part.flag IF_STAT.NOTRUN_EV = true ∧ t.part.outOf port = false ∧
        t.part.test = s.part.test) ∧
      ∀ r, ∃ t, exec (.halLoopback port (.done r)) s = .next t ∧
        (verdictOf r = 1 → t.part.outOf port = false ∧
          t.part.get IF_PASSCNT.PASS_CNT = (s.part.get IF_PASSCNT.PASS_CNT + 1) % 2 ^ IF_PASSCNT.PASS_CNT.width) ∧
        (verdictOf r ≠ 1 → t.part.outOf port = true ∧ t.part.flag IF_STAT.IFFAIL_EV = true ∧
          t.part.bit SVC_STATUS.CAUSE 7 = true))) ∧
  (∀ (s : State) (c : Fin 5),
    ((s.part.hostActive = false ∨ s.part.flag (lateFld c) = true) → exec (.testLate c) s = .next s) ∧
    (s.part.hostActive = true → s.part.flag (lateFld c) = false →
      ∃ t, exec (.testLate c) s = .next t ∧ t.part.flag (lateFld c) = true ∧ t.part.flag IF_STAT.LATE_EV = true ∧
        t.part.bit SVC_STATUS.CAUSE 5 = true ∧
        t.part.tb = max s.part.tb (nth s.part.test.cycleAt c 0 + 1250000000)))

/-! PMBus. -/

/-- Reads (R456, R691 to R693, R695, R698 to R700, R703). A read answers the bytes of what the command shows, with the PEC where the master
clocks it, and changes nothing else; the paged commands show the rail of PAGE, and under PAGE = 0xFF the lowest enabled rail, or rail 0.
READ_IOUT and READ_TEMPERATURE_1 show the rail under PHASE = 0xFF, and else the phase PH_FIRST + PHASE; they answer 0 with bit 6 of STATUS_CML for
a PHASE at or above PH_COUNT, and the temperature also for a phase without a working sensor. -/
def Obligations.PmbusReads : Prop :=
  ∀ (s : State) (pec : Pec) (n : Rail), s.part.pmbActive = true → s.part.parkReq = false → s.part.pmbNack = false →
    (s.part.get HOST_PMBSTAT.PAGE = n.val ∨
      (s.part.get HOST_PMBSTAT.PAGE = 0xFF ∧ ((List.range 8).find? s.part.railEn).getD 0 = n.val)) →
    (∀ (c : PmbTx → Instr) (code len v : Nat), (c, code, len, v) ∈ ([
        (.page, 0x00, 1, s.part.get HOST_PMBSTAT.PAGE),
        (.operation, 0x01, 1, s.part.get RAIL_ONOFF.OP_ON n * 128 + s.part.get RAIL_ONOFF.MARGIN n * 16 + 8),
        (.onOffConfig, 0x02, 1, s.part.get RAIL_ONOFF.ON_OFF_CONFIG n),
        (.phase, 0x04, 1, s.part.get HOST_PMBSTAT.PHASE), (.capability, 0x19, 1, 0xD4), (.voutMode, 0x20, 1, 0x13),
        (.voutCommand, 0x21, 2, s.part.get RAIL_VOUT.VOUT_COMMAND n), (.voutMax, 0x24, 2, s.part.get RAIL_VOUT.VOUT_MAX n),
        (.voutMarginHigh, 0x25, 2, s.part.get RAIL_MARGIN.VOUT_MARGIN_HIGH n),
        (.voutMarginLow, 0x26, 2, s.part.get RAIL_MARGIN.VOUT_MARGIN_LOW n),
        (.ioutOcFaultLimit, 0x46, 2, lin11 ((s.part.get PR_OCLIM.OC_FAULT n : Rat) / 2)),
        (.ioutOcFaultResponse, 0x47, 1, 0xC0 + s.part.get PR_RESP.RETRY n 1 * 8),
        (.otFaultLimit, 0x4F, 2, s.part.otFaultRead n), (.otFaultResponse, 0x50, 1, 0xC0),
        (.otWarnLimit, 0x51, 2, s.part.otWarnRead n), (.tonDelay, 0x60, 2, lin11 ((s.part.get RAIL_TONDLY.TIME n : Rat) / 1000)),
        (.tonRise, 0x61, 2, lin11 ((s.part.get RAIL_TONRISE.TIME n : Rat) / 1000)),
        (.toffDelay, 0x64, 2, lin11 ((s.part.get RAIL_TOFFDLY.TIME n : Rat) / 1000)),
        (.toffFall, 0x65, 2, lin11 ((s.part.get RAIL_TOFFFALL.TIME n : Rat) / 1000)),
        (.statusByte, 0x78, 1, s.part.statusByte n), (.statusWord, 0x79, 2, s.part.statusWord n),
        (.statusVout, 0x7A, 1, nth s.part.pmb.vout n 0), (.statusIout, 0x7B, 1, nth s.part.pmb.iout n 0),
        (.statusInput, 0x7C, 1, s.part.pmb.input), (.statusTemperature, 0x7D, 1, nth s.part.pmb.temp n 0),
        (.statusCml, 0x7E, 1, s.part.pmb.cml), (.statusMfrSpecific, 0x80, 1, s.part.statusMfr n),
        (.readVin, 0x88, 2, lin11 ((s.part.get PROT_VIN.V_IN : Rat) / 65536)), (.readVout, 0x8B, 2, s.part.readVout n),
        (.pmbusRevision, 0x98, 1, 0x44), (.mfrBitCount, 0xD4, 2, (recSlots s.array).length),
        (.mfrBitSel, 0xD5, 2, s.part.pmb.bitSel), (.mfrSlogCount, 0xD8, 2, (logUnits s.array).length),
        (.mfrSlogSel, 0xD9, 2, s.part.pmb.slogSel),
        (.mfrCalStat, 0xDD, 2, (s.part.regRead s.otp 0x7001C).2 % 65536)] : List ((PmbTx → Instr) × Nat × Nat × Nat)) →
      exec (c (.read pec)) s = .next (s.withPart (s.part.answer true (s.part.withPec code (leBytes len v) pec)))) ∧
    exec (.mfrRegAddr (.read pec)) s = .next (s.withPart (s.part.answer true
      (s.part.withPec 0xD0 (4#8 :: leBytes 4 (s.part.get HOST_REGPTR.ADDR)) pec))) ∧
    (s.part.get HOST_PMBSTAT.PHASE = 0xFF →
      exec (.readIout (.read pec)) s = .next (s.withPart (s.part.answer true
        (s.part.withPec 0x8C (leBytes 2 (lin11 (s.part.rail n).iAvg)) pec))) ∧
      exec (.readTemperature1 (.read pec)) s = .next (s.withPart (s.part.answer true
        (s.part.withPec 0x8D (leBytes 2 (lin11 ((s.part.railTemp n : Rat) / 8))) pec)))) ∧
    (∀ q : Nat, s.part.get HOST_PMBSTAT.PHASE < s.part.get RAIL_CFG.PH_COUNT n → s.part.get HOST_PMBSTAT.PHASE ≠ 0xFF →
      q = s.part.get RAIL_CFG.PH_FIRST n + s.part.get HOST_PMBSTAT.PHASE →
      exec (.readIout (.read pec)) s = .next (s.withPart (s.part.answer true
        (s.part.withPec 0x8C (leBytes 2 (lin11 ((s.part.getS PCS_AVG.MEAN q : Rat) / 256))) pec))) ∧
      (∀ k, s.part.phaseSensor q = some k → exec (.readTemperature1 (.read pec)) s = .next (s.withPart (s.part.answer true
        (s.part.withPec 0x8D (leBytes 2 (lin11 ((s.part.getS TS_READ.TEMP k : Rat) / 8))) pec)))) ∧
      (s.part.phaseSensor q = none → exec (.readTemperature1 (.read pec)) s = .next (s.withPart
        ((s.part.latchCml 6).answer true (s.part.withPec 0x8D [0#8, 0#8] pec))))) ∧
    (s.part.get RAIL_CFG.PH_COUNT n ≤ s.part.get HOST_PMBSTAT.PHASE → s.part.get HOST_PMBSTAT.PHASE ≠ 0xFF →
      exec (.readIout (.read pec)) s = .next (s.withPart ((s.part.latchCml 6).answer true (s.part.withPec 0x8C [0#8, 0#8] pec))) ∧
      exec (.readTemperature1 (.read pec)) s = .next (s.withPart
        ((s.part.latchCml 6).answer true (s.part.withPec 0x8D [0#8, 0#8] pec))))

/-- What a PMBus transaction meets first (R29, R42, R107, R687 to R690, R702). A START abandons a park entry; the transaction whose START
held SCL to the end of 100 µs, and every one outside READY, RUN and SAFE or without an address, is not acknowledged. A write with a
wrong PEC, or with none where PEC_REQ asks for one, is discarded with its flag and event; a write of a command that is only read, one with a
wrong byte count and a read of one that is only written are bad data, counted as refused. A code in neither table is not acknowledged, with its flag and event.
SMBUS_TIMEOUT in READY, RUN and SAFE, but for the part's own hold, sets its flag and event. ALERT_RESPONSE while SALERT_N is asserted answers the
part's address and releases it, and is not acknowledged else. -/
def Obligations.PmbusRefuses : Prop :=
  ∀ s : State,
    (∀ (c : PmbTx → Instr) (code len : Nat) (rd wr : Bool) (tx : PmbTx), (c, code, len, rd, wr) ∈ pmbusTable →
      exec (c tx) s = exec (c tx) (s.withPart s.part.abortPark) ∧
      (s.part.parkReq = false →
        (s.part.pmbNack = true → exec (c tx) s = .next (s.withPart (({ s.part with pmbNack := false } : Part).answer false))) ∧
        (s.part.pmbNack = false → s.part.pmbActive = false → exec (c tx) s = .next (s.withPart (s.part.answer false))) ∧
        (s.part.pmbNack = false → s.part.pmbActive = true →
          (∀ data pec, (pec = .bad ∨ (pec = .none ∧ s.part.flag HOST_PMBCFG.PEC_REQ = true)) →
            exec (c (.write data pec)) s = .next (s.withPart
              (((s.part.answer true).latchCml 5).event HOST_PMBSTAT.PEC_EV HOST_PMBEVCNT.PEC_CNT))) ∧
          (∀ (data : List Byte) (pec : Pec), (pec = .good ∨ (pec = .none ∧ s.part.flag HOST_PMBCFG.PEC_REQ = false)) →
            (wr = false ∨ data.length ≠ len) → exec (c (.write data pec)) s = .next (s.withPart ((((s.part.answer true).latchCml 6).event
              HOST_PMBSTAT.BADDATA_EV HOST_PMBEVCNT.BADDATA_CNT).refuse .pmbus (0xFFFFFF00 + code)))) ∧
          (∀ pec, rd = false → exec (c (.read pec)) s = .next (s.withPart ((((s.part.answer true).latchCml 6).event
              HOST_PMBSTAT.BADDATA_EV HOST_PMBEVCNT.BADDATA_CNT).refuse .pmbus (0xFFFFFF00 + code))))))) ∧
    (∀ c : Instr, ((∃ code, c = .unsupportedCommand code) ∨ c = .alertResponse) →
      exec c s = exec c (s.withPart s.part.abortPark) ∧
      (s.part.parkReq = false →
        (s.part.pmbNack = true → exec c s = .next (s.withPart (({ s.part with pmbNack := false } : Part).answer false))) ∧
        (s.part.pmbNack = false → s.part.pmbActive = false → exec c s = .next (s.withPart (s.part.answer false))))) ∧
    (s.part.parkReq = false → s.part.pmbNack = false → s.part.pmbActive = true →
      (∀ code, exec (.unsupportedCommand code) s = .next (s.withPart
        (((s.part.answer false).latchCml 7).event HOST_PMBSTAT.UNSUP_EV HOST_PMBEVCNT.UNSUP_CNT))) ∧
      (s.part.salert = true → exec .alertResponse s = .next (s.withPart ((s.part.modPmb fun x => { x with alertDone := true }).answer true
        [BitVec.ofNat 8 ((0x40 + s.part.get SYS_STATE.ADDR_CODE) * 2)]))) ∧
      (s.part.salert = false → exec .alertResponse s = .next (s.withPart (s.part.answer false)))) ∧
    (s.part.hostActive = true → s.part.sclHold = false →
      exec .smbusTimeout s = .next (s.withPart ((s.part.latchCml 1).event HOST_PMBSTAT.TIMEOUT_EV HOST_PMBEVCNT.TIMEOUT_CNT))) ∧
    ((s.part.hostActive = false ∨ s.part.sclHold = true) → exec .smbusTimeout s = .next s)

/-- Writes with a right PEC (R363, R365, R404, R456, R691 to R694, R696, R697, R699, R701, R706). PAGE and PHASE take their values and refuse
others. CLEAR_FAULTS and the status writes clear the latched bits of the paged rails and of the device. A voltage, OPERATION, ON_OFF_CONFIG, a time
and the current limit write their fields of each paged rail in turn, clamped where the field's table clamps, unless a value does not fit
or breaks a configuration rule, and what follows a change follows; a negative value, the reserved margin code, and a rail that refuses make
the command bad data. OT_WARN_LIMIT writes every remote sensor of the rail or, with none, outside 1 to 200 °C or against the order of the
levels, refuses. -/
def Obligations.PmbusWrites : Prop :=
  ∀ (s : State) (v : Nat) (p : Part), p = s.part.answer true → s.part.pmbActive = true → s.part.parkReq = false →
    s.part.pmbNack = false → v < 65536 →
    (∀ code (c : PmbTx → Instr) (f : Fld), (c, code, f) ∈ ([(.page, 0, HOST_PMBSTAT.PAGE), (.phase, 4, HOST_PMBSTAT.PHASE)] :
        List ((PmbTx → Instr) × Nat × Fld)) → v < 256 →
      ((v < (if code = 0 then 8 else 64) ∨ v = 0xFF) → exec (c (.write (leBytes 1 v) .good)) s = .next (s.withPart (p.set f v))) ∧
      ((if code = 0 then 8 else 64) ≤ v → v < 0xFF → exec (c (.write (leBytes 1 v) .good)) s = .next (s.withPart (p.badData code)))) ∧
    (s.part.pmb.vout.length = 8 → s.part.pmb.iout.length = 8 → s.part.pmb.temp.length = 8 → s.part.pmb.mfr.length = 8 →
      (∃ t, exec (.clearFaults (.write [] .good)) s = .next t ∧ t.part.regs = s.part.regs ∧ t.part.pmb.input = 0 ∧
        t.part.pmb.cml = 0 ∧ ∀ (m : Rail) (f : PmbCore → List Nat), f ∈ [PmbCore.vout, PmbCore.iout, PmbCore.temp, PmbCore.mfr] →
          nth (f t.part.pmb) m 0 = (if m.val ∈ s.part.pages then 0 else nth (f s.part.pmb) m 0)) ∧
      (v < 256 →
        (∀ (c : PmbTx → Instr) (f : PmbCore → List Nat), (c, f) ∈ ([(.statusVout, PmbCore.vout), (.statusIout, PmbCore.iout),
            (.statusTemperature, PmbCore.temp), (.statusMfrSpecific, PmbCore.mfr)] : List ((PmbTx → Instr) × (PmbCore → List Nat))) →
          ∃ t, exec (c (.write (leBytes 1 v) .good)) s = .next t ∧ t.part.regs = s.part.regs ∧ ∀ m : Rail,
            nth (f t.part.pmb) m 0 = (if m.val ∈ s.part.pages then Nat.land (nth (f s.part.pmb) m 0) (255 - v)
              else nth (f s.part.pmb) m 0)) ∧
        (∀ (c : PmbTx → Instr) (f : PmbCore → Nat), (c, f) ∈ ([(.statusInput, PmbCore.input), (.statusCml, PmbCore.cml)] :
            List ((PmbTx → Instr) × (PmbCore → Nat))) →
          ∃ t, exec (c (.write (leBytes 1 v) .good)) s = .next t ∧ t.part.regs = s.part.regs ∧
            f t.part.pmb = Nat.land (f s.part.pmb) (255 - v)))) ∧
    (∀ (c : PmbTx → Instr) (code len x : Nat) (addr : Nat → Nat) (set_ : Nat → Part → Part) (fits neg : Bool)
        (after : Nat → Part → Part → Part),
      ((∃ (ofs : Nat) (f : Fld), (c, code, ofs, f) ∈ ([(.voutCommand, 0x21, 8, RAIL_VOUT.VOUT_COMMAND),
            (.voutMax, 0x24, 8, RAIL_VOUT.VOUT_MAX), (.voutMarginHigh, 0x25, 12, RAIL_MARGIN.VOUT_MARGIN_HIGH),
            (.voutMarginLow, 0x26, 12, RAIL_MARGIN.VOUT_MARGIN_LOW)] : List ((PmbTx → Instr) × Nat × Nat × Fld)) ∧ len = 2 ∧
          addr = (fun n => 0x10000 + n * 0x400 + ofs) ∧ set_ = (fun n q => q.set f v n) ∧ fits = true ∧ neg = false ∧
          after = fun n _ q => q.cmdChanged n) ∨
        (c = .operation ∧ code = 1 ∧ len = 1 ∧ addr = (fun n => 0x10004 + n * 0x400) ∧ fits = true ∧ neg = decide (bitsOf v 4 2 = 3) ∧
          set_ = (fun n q => (q.set RAIL_ONOFF.OP_ON (bitOf v 7) n).set RAIL_ONOFF.MARGIN (bitsOf v 4 2) n) ∧
          after = fun n _ q => q.cmdChanged n) ∨
        (c = .onOffConfig ∧ code = 2 ∧ len = 1 ∧ addr = (fun n => 0x10004 + n * 0x400) ∧ neg = false ∧ fits = decide (v < 32) ∧
          set_ = (fun n q => q.set RAIL_ONOFF.ON_OFF_CONFIG v n) ∧ after = fun n _ q => q.cmdChanged n) ∨
        (∃ (ofs lo hi : Nat) (f : Fld), (c, code, ofs, lo, hi, f) ∈ ([(.tonDelay, 0x60, 0x14, 0, 1000000, RAIL_TONDLY.TIME),
            (.tonRise, 0x61, 0x18, 50, 500000, RAIL_TONRISE.TIME), (.toffDelay, 0x64, 0x1C, 0, 1000000, RAIL_TOFFDLY.TIME),
            (.toffFall, 0x65, 0x20, 50, 500000, RAIL_TOFFFALL.TIME)] : List ((PmbTx → Instr) × Nat × Nat × Nat × Nat × Fld)) ∧
          len = 2 ∧ addr = (fun n => 0x10000 + n * 0x400 + ofs) ∧ neg = decide (lin11Y v < 0) ∧ fits = true ∧
          (x : Int) = clampI lo hi (lin11Scaled v 1000) ∧ set_ = (fun n q => q.set f x n) ∧ after = fun _ _ q => q) ∨
        (c = .ioutOcFaultLimit ∧ code = 0x46 ∧ len = 2 ∧ addr = (fun n => 0x60000 + n * 0x100) ∧ neg = decide (lin11Y v < 0) ∧
          (lin11Y v < 0 ∨ (x : Int) = lin11Scaled v 2) ∧ fits = decide (x < 2 ^ PR_OCLIM.OC_FAULT.width) ∧
          set_ = (fun n q => q.set PR_OCLIM.OC_FAULT x n) ∧ after = fun n _ q => q.limitsWritten n 0)) → (len = 1 → v < 256) →
      (s.part.get HOST_PMBSTAT.PAGE < 8 ∨ s.part.get HOST_PMBSTAT.PAGE = 0xFF) →
      (neg = true → exec (c (.write (leBytes len v) .good)) s = .next (s.withPart (p.badData code))) ∧
      (∀ r : Part × Bool, neg = false → r = p.onPages (fun n q =>
          if fits && ((set_ n q).regOk q (addr n) || (set_ n q).regs == q.regs) then some (after n q (set_ n q)) else none) →
        exec (c (.write (leBytes len v) .good)) s = .next (s.withPart (if r.2 then r.1 else r.1.badData code)))) ∧
    (∀ (n : Rail) (l : List Nat) (x : Int) (q : Part), s.part.get HOST_PMBSTAT.PAGE = n.val → l = s.part.remotesOf n →
      x = lin11Scaled v 1 → q = p.forL l (fun k r => r.set TS_THR.WARN_T x.toNat k) →
      ((lin11Y v < 0 ∨ l = [] ∨ x < 1 ∨ 200 < x ∨ (∃ k ∈ l, q.thermOk k = false)) →
        exec (.otWarnLimit (.write (leBytes 2 v) .good)) s = .next (s.withPart (p.badData 0x51))) ∧
      (0 ≤ lin11Y v → l ≠ [] → 1 ≤ x → x ≤ 200 → (∀ k ∈ l, q.thermOk k = true) →
        ∃ t, exec (.otWarnLimit (.write (leBytes 2 v) .good)) s = .next t ∧ t.part.pmb.reply.ack = true ∧ t.part.dev = s.part.dev ∧
          ∀ k ∈ l, t.part.get TS_THR.WARN_T k = x.toNat))

/-- The register window, the records and the log entries (R703 to R706). MFR_REG_ADDR is kept. At an address that the window admits a write of
data is a write of the register, whose refusal is one of the command too, and a read answers its word with its effects; at another a
write is refused and a read answers 0 with bit 6 of STATUS_CML; the incrementing form then moves the address by 4. A selection of a record or an
entry that is held is kept, with the chunk pointer at 0, and its bytes are read, chunk after chunk; another is refused, and with no selection a
read answers zeros with bit 6. MFR_CAL_CMD is a write of HK_CALCMD. -/
def Obligations.PmbusWindow : Prop :=
  ∀ (s : State) (v a : Nat) (s' : State), s.part.pmbActive = true → s.part.parkReq = false → s.part.pmbNack = false → v < 2 ^ 32 →
    a = s.part.get HOST_REGPTR.ADDR → s' = s.withPart (s.part.answer true) →
    exec (.mfrRegAddr (.write (leBytes 4 v) .good)) s = .next (s'.withPart (s'.part.set HOST_REGPTR.ADDR v)) ∧
    (∀ (c : PmbTx → Instr) (code : Nat) (inc : Bool), ((c = .mfrRegData ∧ code = 0xD1 ∧ inc = false) ∨
        (c = .mfrRegDataInc ∧ code = 0xD2 ∧ inc = true)) →
      (∀ pec, windowOk a = true → ∃ t, exec (c (.read pec)) s = .next t ∧ t.part.pmb.reply.ack = true ∧
        t.part.pmb.reply.data = s.part.withPec code (4#8 :: leBytes 4 (s.part.regRead s.otp a).2) pec ∧
        t.part.hk = (s.part.regRead s.otp a).1.hk ∧
        t.part.get HOST_REGPTR.ADDR = (if inc then (a + 4) % 2 ^ 32 else a)) ∧
      (∀ pec, windowOk a = false → ∃ t, exec (c (.read pec)) s = .next t ∧ t.part.pmb.reply.ack = true ∧
        t.part.pmb.reply.data = s.part.withPec code [4#8, 0#8, 0#8, 0#8, 0#8] pec ∧ bitOf t.part.pmb.cml 6 = 1 ∧
        t.part.get HOST_REGPTR.ADDR = (if inc then (a + 4) % 2 ^ 32 else a)) ∧
      (∀ w t : State, w = s'.regWrite .pmbus a v →
        t = (if w.part.hostActive && w.part.refusals != s'.part.refusals then w.withPart
          ((w.part.latchCml 6).event HOST_PMBSTAT.BADDATA_EV HOST_PMBEVCNT.BADDATA_CNT) else w) → windowOk a = true →
        exec (c (.write (leBytes 4 v) .good)) s = .next (if inc && t.part.hostActive then
          t.withPart (t.part.set HOST_REGPTR.ADDR (t.part.get HOST_REGPTR.ADDR + 4)) else t)) ∧
      (windowOk a = false → exec (c (.write (leBytes 4 v) .good)) s = .next (s.withPart
        ((if inc then s'.part.set HOST_REGPTR.ADDR (a + 4) else s'.part).badData code)))) ∧
    (∀ w : State, w = s'.regWrite .pmbus 0x70018 v → exec (.mfrCalCmd (.write (leBytes 4 v) .good)) s =
      .next (if w.part.hostActive && w.part.refusals != s'.part.refusals then w.withPart
        ((w.part.latchCml 6).event HOST_PMBSTAT.BADDATA_EV HOST_PMBEVCNT.BADDATA_CNT) else w)) ∧
    (v < 65536 →
      (∀ k, v < 128 → (recsByAge s.array)[v]? = some k → exec (.mfrBitSel (.write (leBytes 2 v) .good)) s =
        .next (s.withPart (s'.part.modPmb fun x => { x with bitSel := v, bitSlot := some k, chunk := 0 }))) ∧
      ((128 ≤ v ∨ (recsByAge s.array)[v]? = none) → exec (.mfrBitSel (.write (leBytes 2 v) .good)) s =
        .next (s.withPart (s'.part.badData 0xD5))) ∧
      (∀ k, (logsByAge s.array)[v]? = some k → exec (.mfrSlogSel (.write (leBytes 2 v) .good)) s =
        .next (s.withPart (s'.part.modPmb fun x => { x with slogSel := v, slogUnit := some k }))) ∧
      ((logsByAge s.array)[v]? = none → exec (.mfrSlogSel (.write (leBytes 2 v) .good)) s =
        .next (s.withPart (s'.part.badData 0xD9)))) ∧
    (∀ pec k, s.part.pmb.bitSlot = some k → exec (.mfrBitRead (.read pec)) s = .next (s.withPart ((s.part.modPmb fun x =>
      { x with chunk := (s.part.pmb.chunk + 1) % 16 }).answer true
        (s.part.withPec 0xD6 (32#8 :: nvmBytes s.array (recAddr k + 32 * s.part.pmb.chunk) 32) pec)))) ∧
    (∀ pec, s.part.pmb.bitSlot = none → exec (.mfrBitRead (.read pec)) s = .next (s.withPart ((s.part.latchCml 6).answer true
      (s.part.withPec 0xD6 (32#8 :: List.replicate 32 0#8) pec)))) ∧
    (∀ pec k, s.part.pmb.slogUnit = some k → exec (.mfrSlogRead (.read pec)) s = .next (s.withPart (s.part.answer true
      (s.part.withPec 0xDA (16#8 :: nvmBytes s.array (logAddr k) 16) pec)))) ∧
    (∀ pec, s.part.pmb.slogUnit = none → exec (.mfrSlogRead (.read pec)) s = .next (s.withPart ((s.part.latchCml 6).answer true
      (s.part.withPec 0xDA (16#8 :: List.replicate 16 0#8) pec))))

/-! AVSBus. -/

/-- The frames of an AVSBus port (R711 to R717, R719). A clock edge abandons a park entry. A port that is switched off, silent or waiting after a
framing error answers nothing. A framing error is counted, unanswered, and makes the port wait for AVS_IDLE_RESYNC; a wrong CRC is counted and
answered with acknowledge 2, and a rejected command, group, select or type with 3, with no other effect. A read answers its value and changes nothing;
a write acts on every rail of its select that takes it; a hold is stored, in the place of one with its select and type, unless a fifth entry
would be needed; a commit applies the held entries in their order, then its own write, and empties the store. In a pair only the owner answers. -/
def Obligations.AvsFrames : Prop :=
  (∀ (s : State) (r : AvsReq) (ty0 ty : Nat) (c : AvsReq → Instr), (c, ty) ∈ avsFrames ty0 → s.part.avs.reply.length = 2 →
    s.part.avs.waitIdle.length = 2 → s.part.avs.holds.length = 2 →
    exec (c r) s = exec (c r) (s.withPart s.part.abortPark) ∧
    (s.part.parkReq = false →
      ((s.part.hostActive = false ∨ s.part.flag AVS_CFG.EN r.port = false ∨ nth s.part.avs.waitIdle r.port false = true) →
        exec (c r) s = .next (s.withPart (s.part.modAvs fun a => { a with reply := upd a.reply (r.port : Nat) fun _ => none }))) ∧
      (s.part.hostActive = true → s.part.flag AVS_CFG.EN r.port = true → nth s.part.avs.waitIdle r.port false = false →
        (r.secondBit = false → ∃ t, exec (c r) s = .next t ∧ nth t.part.avs.waitIdle r.port false = true ∧
          nth t.part.avs.reply r.port none = none ∧ t.part.flag AVS_STAT.FRAME_EV r.port = true ∧
          t.part.get AVS_EVCNT.FRAME_CNT r.port = (s.part.bump AVS_EVCNT.FRAME_CNT r.port).get AVS_EVCNT.FRAME_CNT r.port ∧
          t.part.rails = s.part.rails) ∧
        (r.secondBit = true → r.crc ≠ crc3 29 0 (avsBits r ty) → ∃ t, exec (c r) s = .next t ∧
          nth t.part.avs.reply r.port none = (if s.part.avsDrives then some (s.part.avsFrame r.port r.select 2 0) else none) ∧
          t.part.flag AVS_STAT.CRC_EV r.port = true ∧ t.part.rails = s.part.rails ∧
          t.part.get AVS_EVCNT.CRC_CNT r.port = (s.part.bump AVS_EVCNT.CRC_CNT r.port).get AVS_EVCNT.CRC_CNT r.port) ∧
        (r.secondBit = true → r.crc = crc3 29 0 (avsBits r ty) → r.data < 65536 →
          ∀ (rails : List Nat) (takes reads : Nat → Bool) (w : AvsHold) (held : List AvsHold),
          w = ⟨r.select, ty, r.data⟩ → held = nth s.part.avs.holds r.port [] →
          rails = ((if r.select = 15 then List.range 8 else if r.select < 8 then [r.select] else []).filter
            fun j => 8 ≤ s.part.get AVS_MAP.SEL r.port j).map (fun j => s.part.get AVS_MAP.SEL r.port j - 8) →
          takes = (fun n => (ty == 0 && s.part.flag RAIL_CFG.SP_SRC n) || (ty == 1 && r.data / 256 != 0 && r.data % 256 != 0) ||
            ty == 4 || ty == 5 || ty == 14) →
          reads = (fun k => k == 0 || k == 1 || k == 2 || k == 3 || k == 5 || k == 14) →
          ((r.group = true ∨ (r.cmd ≠ 0 ∧ r.cmd ≠ 1 ∧ r.cmd ≠ 3) ∨ (r.cmd = 3 ∧ (r.select = 15 ∨ rails = [] ∨ reads ty = false)) ∨
              (r.cmd ≠ 3 ∧ rails.any takes = false) ∨
              (r.cmd = 1 ∧ held.any w.same = false ∧ 4 ≤ held.length)) →
            ∃ t, exec (c r) s = .next t ∧ t.part.flag AVS_STAT.REJ_EV r.port = true ∧ t.part.rails = s.part.rails ∧
              nth t.part.avs.reply r.port none = (if s.part.avsDrives then some (s.part.avsFrame r.port r.select 3 0) else none) ∧
              nth t.part.avs.holds r.port [] = held ∧
              t.part.get AVS_EVCNT.REJ_CNT r.port = (s.part.bump AVS_EVCNT.REJ_CNT r.port).get AVS_EVCNT.REJ_CNT r.port) ∧
          (∀ n v out, out = (if s.part.avsDrives then some (s.part.avsFrame r.port r.select 0 v) else none) → r.group = false → r.cmd = 3 → r.select < 8 → rails = [n] → (ty, v) ∈ [
              (0, if s.part.convRun n then satU 16 (roundQ (s.part.sensed n * 1000 / 65536)) else 0),
              (1, (roundDiv (s.part.get RAIL_SLEW.SLEW_UP n) 100).toNat * 256 + (roundDiv (s.part.get RAIL_SLEW.SLEW_DN n) 100).toNat),
              (2, satU 16 (roundQ ((s.part.rail n).iAvg * (if s.part.flag AVS_CFG.IUNIT r.port then 1 else 100)))),
              (3, ofS 16 (satS 16 (roundDiv (s.part.railTemp n * 10) 8))), (5, s.part.get AVS_PMODE.PMODE r.port),
              (14, b2n (s.part.get RAIL_VSP.VALUE n == s.part.vCmd n && (s.part.rst n == .regulate || s.part.rst n == .burst)) * 32768 +
                s.part.get AVS_RSTAT.R n * 2048)] →
            exec (c r) s = .next (s.withPart (s.part.modAvs fun a => { a with reply := upd a.reply (r.port : Nat) fun _ => out }))) ∧
          (r.group = false → r.cmd = 1 → rails.any takes = true → (held.any w.same = true ∨ held.length < 4) →
            ∃ t, exec (c r) s = .next t ∧ t.part.regs = s.part.regs ∧ t.part.rails = s.part.rails ∧
              nth t.part.avs.holds r.port [] = (if held.any w.same then held.map (fun x => if w.same x then w else x) else held ++ [w]) ∧
              nth t.part.avs.reply r.port none = (if s.part.avsDrives then some (s.part.avsFrame r.port r.select 0 0) else none)) ∧
          (r.group = false → r.cmd = 0 → rails.any takes = true →
            ∃ t, exec (c r) s = .next t ∧ nth t.part.avs.holds r.port [] = [] ∧
              nth t.part.avs.reply r.port none = (if s.part.avsDrives then some (t.part.avsFrame r.port r.select 0 0) else none) ∧
              t.part.regs = (((held.foldl (fun q h => (q.avsWrite r.port h).1) s.part).avsWrite r.port w).1).regs ∧
              (held = [] → ∀ n : Rail, (n.val ∈ rails ∧ takes n = true →
                (ty = 0 → t.part.get RAIL_AVS.AVS_V n = r.data ∧ t.part.flag RAIL_AVS.AVS_VALID n = true) ∧
                (ty = 1 → t.part.get RAIL_SLEW.SLEW_UP n = min 5000 (r.data / 256 * 100) ∧
                  t.part.get RAIL_SLEW.SLEW_DN n = min 5000 (r.data % 256 * 100)) ∧
                (ty = 4 → t.part.flag RAIL_AVS.AVS_VALID n = false) ∧
                (ty = 5 → t.part.get AVS_PMODE.PMODE r.port = r.data % 2 ^ AVS_PMODE.PMODE.width) ∧
                (ty = 14 → t.part.get AVS_RSTAT.R n = Nat.land (s.part.get AVS_RSTAT.R n) (15 - bitsOf r.data 11 4))) ∧
                (n.val ∉ rails ∨ takes n = false → t.part.get RAIL_AVS.AVS_V n = s.part.get RAIL_AVS.AVS_V n ∧
                  t.part.get RAIL_SLEW.SLEW_UP n = s.part.get RAIL_SLEW.SLEW_UP n ∧
                  t.part.get AVS_RSTAT.R n = s.part.get AVS_RSTAT.R n))))))) ∧
  (∀ (s : State) (port : Fin 2),
    exec (.avsIdleResync port) s = .next (s.withPart (if s.part.hostActive && s.part.flag AVS_CFG.EN port then
      s.part.abortPark.modAvs fun a => { a with waitIdle := upd a.waitIdle (port : Nat) fun _ => false } else s.part.abortPark)))

/-! Registers. -/

/-- REGISTER_WRITE (R5, R42, R588, R686, R687, R704, R761, R790, R791). Where its source reaches no register it changes nothing: through PMBus without an
address or outside the window; REGACC outside TEST beyond its own block. At an address that names no register it is refused and counted. A write of a
register with a command of its own is that command. Of the registers named: a read-only one does not change; a W1C flag clears where the word has a 1;
a read-write field takes a value that keeps the configuration rules, and refuses another; one that its owner locks takes it while the owner is
open; one that only the image sets refuses a new value, and a refusal counts once, with its source and address. -/
def Obligations.RegisterWrites : Prop :=
  (∀ (s : State) (addr v : Nat),
    ((s.part.pmbActive = false ∨ addr % 4 ≠ 0 ∨ 0xF0000 ≤ addr) → exec (.registerWrite .pmbus addr v) s = .next s) ∧
    (s.part.dev ≠ .test → (addr < 0xA0100 ∨ 0xA012C < addr) → exec (.registerWrite .jtag addr v) s = .next s) ∧
    (findReg registerMap addr = none →
      (s.part.pmbActive = true → addr % 4 = 0 → addr < 0xF0000 →
        exec (.registerWrite .pmbus addr v) s = .next (s.withPart (s.part.refuse .pmbus addr))) ∧
      ((s.part.dev = .test ∨ (0xA0100 ≤ addr ∧ addr ≤ 0xA012C)) →
        exec (.registerWrite .jtag addr v) s = .next (s.withPart (s.part.refuse .jtag addr))))) ∧
  (∀ (s : State) (key id v : Nat) (n : Rail) (sl k : Nat) (b : Bool) (seq : Fin 8) (set : Fin 16) (slice : Slice), key < 256 →
    id < 65536 → sl < 16 → k < 16 → v < 2 ^ 32 →
    ∀ (addr w : Nat) (c : Instr), (addr, w, c) ∈ (([(0x10, key + 2 ^ 8, .park key), (0x10, key + 2 ^ 9, .safe key),
        (0x10, key + 2 ^ 10, .swreset key), (0x10, key + 2 ^ 11, .rollbackCommit key),
        (0x1C, key * 2 ^ 24 + 2 ^ 16, .keyRevokeReq true false key), (0x1C, key * 2 ^ 24 + 2 ^ 17, .keyRevokeReq false true key),
        (0x22400, key + 2 ^ 8 + n.val * 2 ^ 12 + sl * 2 ^ 16, .coefficientSwap key n sl),
        (0x22400, key + 2 * 2 ^ 8 + n.val * 2 ^ 12 + b2n b * 2 ^ 20, .timingMove key n b),
        (0x22400, key + 3 * 2 ^ 8, .reserveSpare key),
        (0x22400, key + 4 * 2 ^ 8 + sl * 2 ^ 16, .releaseReservation key sl)] : List (Nat × Nat × Instr)) ++ ([
        (0x20048 + slice.val * 0x400, v % 65536 + k * 65536, .load16 slice (v % 65536) k),
        (0x70010, v, .softwareTrigger v), (0x70014, v, .injectedRequest v),
        (0x70018, 1 + sl * 16 + id * 65536, .calZero sl id), (0x70018, 2 + sl * 16 + id * 65536, .calFull sl id),
        (0x70018, 3, .calAbort), (0x70110 + seq.val * 0x40, v, .seqTbhiWrite seq v), (0x70400 + set.val * 0x10, v, .calBindWrite set v)] : List (Nat × Nat × Instr)) ++ ([
        (0xB0030, key + 2 ^ 8 + id * 2 ^ 12, .barrierArrive key id), (0xB0030, key + 2 * 2 ^ 8 + id * 2 ^ 12, .barrierLaunch key id),
        (0xB0030, key + 3 * 2 ^ 8 + id * 2 ^ 12, .snapshotSchedule key id),
        (0xB0030, key + 4 * 2 ^ 8 + id * 2 ^ 12, .snapshotCollect key id),
        (0xB0030, key + 5 * 2 ^ 8 + id * 2 ^ 12, .resetAll key id), (0xB0030, key + 6 * 2 ^ 8 + id * 2 ^ 12, .resetNode key id)] :
        List (Nat × Nat × Instr))) →
      exec (.registerWrite .pmbus addr w) s = exec c s) ∧
  (∀ (s : State) (key : Nat) (addr w : Nat) (c : Instr), key < 256 →
    (addr, w, c) ∈ ([(0xA0100, key + 2 ^ 8, .requestChallenge key), (0xA0100, key + 3 * 2 ^ 8, .closeSession key)] :
      List (Nat × Nat × Instr)) → exec (.registerWrite .jtag addr w) s = exec c s) ∧
  (∀ (s : State) (n : Rail) (k : Fin 20) (q : Phase) (seq : Fin 8) (addr v : Nat), s.part.pmbActive = true →
    (addr ∈ [0, 0x10084 + n.val * 0x400, 0x10088 + n.val * 0x400, 0x30028 + n.val * 0x100, 0x30030 + n.val * 0x100, 0x41058 + n.val * 0x80,
        0x60090 + n.val * 0x100, 0x70020, 0x90014 + k.val * 0x20] → exec (.registerWrite .pmbus addr v) s = .next s) ∧
    (∀ (f : Fld) (i : Nat), (f, i) ∈ ([(PWR_EVENT.VDD33_LOST, 0), (RAIL_STATUS.PG_EV, n.val), (RA_STAT.SQ_EV, n.val),
        (FAB_STAT.ADD_EV, n.val), (PH_STAT.RETIRE_EV, q.val), (PR_STAT.OCW_EV, n.val), (HK_STAT.QOVF_EV, 0), (TS_STAT.BRK_EV, k.val)] :
        List (Fld × Nat)) → addr = f.at i 0 / 32 → s.part.get f i < 2 →
      ∃ t, exec (.registerWrite .pmbus addr v) s = .next t ∧ t.part.dev = s.part.dev ∧ t.part.refusals = s.part.refusals ∧
        t.part.flag f i = (s.part.flag f i && bitOf v (f.at i 0 % 32) == 0)) ∧
    (∀ (f : Fld) (i x : Nat), (f, i) ∈ ([(HOST_PMBCFG.ALERT_MASK, 0), (RAIL_PGDLY.PG_DLY, n.val), (RAIL_TONDLY.TIME, n.val),
        (RAIL_TONRISE.TIME, n.val), (RAIL_TOFFDLY.TIME, n.val), (RAIL_TOFFFALL.TIME, n.val), (SEQ_TOFS.TRG_OFS, seq.val)] :
        List (Fld × Nat)) → addr = f.at i 0 / 32 → x = bitsOf v (f.at i 0 % 32) f.width →
      (x = s.part.get f i → ∃ t, exec (.registerWrite .pmbus addr v) s = .next t ∧ t.part.get f i = x ∧
        (f ≠ HOST_PMBCFG.ALERT_MASK → t.part.refusals = s.part.refusals)) ∧
      (x ≠ s.part.get f i →
        ((f ≠ SEQ_TOFS.TRG_OFS ∨ (s.part.flag SEQ_CFG.EN seq = false ∧ s.part.flag SEQ_STAT.RUNNING seq = false ∧
            s.part.flag SEQ_STAT.PENDING seq = false)) →
          ((s.part.set f x i).regOk s.part addr = true → ∃ t, exec (.registerWrite .pmbus addr v) s = .next t ∧
            t.part.get f i = x ∧ (f ≠ HOST_PMBCFG.ALERT_MASK → t.part.refusals = s.part.refusals)) ∧
          ((s.part.set f x i).regOk s.part addr = false → f ≠ HOST_PMBCFG.ALERT_MASK →
            exec (.registerWrite .pmbus addr v) s = .next (s.withPart (s.part.refuse .pmbus addr)))) ∧
        (f = SEQ_TOFS.TRG_OFS → (s.part.flag SEQ_CFG.EN seq = true ∨ s.part.flag SEQ_STAT.RUNNING seq = true ∨
            s.part.flag SEQ_STAT.PENDING seq = true) →
          exec (.registerWrite .pmbus addr v) s = .next (s.withPart (s.part.refuse .pmbus addr))))) ∧
    (∀ (f : Fld) (i : Nat), (f, i) ∈ ([(FAB_CFG.MSEL, n.val), (RAIL_CFG.RAIL_EN, n.val), (RAIL_STOPCFG.OFF_WAIT, n.val),
        (PR_SC.SC_N, n.val), (TS_HYS.WARN_H, k.val), (LIP_CFG.MAP_A, 0)] : List (Fld × Nat)) → addr = f.at i 0 / 32 →
      bitsOf v (f.at i 0 % 32) f.width ≠ s.part.get f i →
      ∃ t, exec (.registerWrite .pmbus addr v) s = .next t ∧ t.part.get f i = s.part.get f i ∧
        t.part.refusals = s.part.refusals + 1 ∧ t.part.get HOST_REFADDR.ADDR = addr ∧ t.part.dev = s.part.dev))

/-! Outputs. -/

/-- The level of a PWM output follows the first row of R20 that holds (R20, R48, R304, R389, R429). Without its supply it is high impedance. In
OFF, HOTLATCH, TEST and SAFE, on a part of a pair that does not own the stages, for a RETIRED phase and one of no rail it is at the tri-state level;
so it is while a protection action ends the rail with tri-state, and low while one ends it low; for a rail that does not switch and for a SHED
phase it is at tri-state; a rail of the parked-burst generator shows the generator's pulse; else the engine's pattern: high in the on-time of an emitted
pulse, tri-state after a zero crossing or without a pattern, else low. -/
def Obligations.StagesForced : Prop :=
  ∀ (p : Part) (q t : Nat),
    ((p.supplies.vaonPor = false ∨ p.supplies.vdd33 = false) → p.pwm q t = .highZ) ∧
    (p.supplies.vaonPor = true → p.supplies.vdd33 = true →
      ((p.dev = .off ∨ p.dev = .hotlatch ∨ p.dev = .test ∨ p.dev = .safe ∨ p.shadowing = true ∨ p.pst q = .retired ∨
        p.pst q = .unassigned ∨ p.railOf q = none) → p.pwm q t = .tri) ∧
      (∀ n, p.dev ≠ .off → p.dev ≠ .hotlatch → p.dev ≠ .test → p.dev ≠ .safe → p.shadowing = false → p.pst q ≠ .retired →
        p.pst q ≠ .unassigned → p.railOf q = some n →
        (∀ low, (p.rail n).safeAct = some low → p.pwm q t = if low then .low else .tri) ∧
        ((p.rail n).safeAct = none →
          (((p.rst n).switching = false ∨ p.pst q = .shed) → p.pwm q t = .tri) ∧
          ((p.rst n).switching = true → p.pst q ≠ .shed →
            ((p.rail n).pbOwns = true →
              (p.pbPulse n q t = none → p.pwm q t = .tri) ∧
              (∀ i rise, p.pbPulse n q t = some (i, rise) → (∀ j a, (p.rail n).pbTrunc = some (j, a) → j ≠ i) →
                p.pwm q t = if t < rise + p.pbOn n then .high
                  else if t < rise + p.pbOn n + p.get RAIL_PB.PB_TLOW n * 10000 then .low else .tri) ∧
              (∀ i rise a, p.pbPulse n q t = some (i, rise) → (p.rail n).pbTrunc = some (i, a) → a ≤ t →
                p.pwm q t = if t < rise + p.pbOn n + p.get RAIL_PB.PB_TLOW n * 10000 then .low else .tri)) ∧
            ((p.rail n).pbOwns = false →
              ((p.ph q).offered = false → p.pwm q t = .tri) ∧
              ((p.ph q).offered = true →
                ((p.ph q).pulse = true → (p.ph q).startSt ≤ t → t < (p.ph q).startSt + (p.ph q).onSt → p.pwm q t = .high) ∧
                (((p.ph q).pulse = false ∨ t < (p.ph q).startSt ∨ (p.ph q).startSt + (p.ph q).onSt ≤ t) →
                  p.pwm q t = if (p.ph q).zc then .tri else .low)))))))

end
end

