-- ==== Sys2Proof/Laws/RegFile.lean ====
section
/-!
SUPPORT. The laws of the register file: a read after a write, the frame of a write, the canonical form. They hold of
every list, the canonical ones or not.
-/

namespace Sys2Proof.Machine

theorem RegFile.read_drop_same (r : RegFile) (k : Nat) :
    RegFile.read (r.dropWhile fun c => decide (c.1 ≤ k)) k = regReset k := by
  induction r with
  | nil => rfl
  | cons c r ih =>
    by_cases h : c.1 ≤ k
    · simp [h, ih]
    · have h1 : ¬ k = c.1 := by omega
      have h2 : k < c.1 := by omega
      simp [h, RegFile.read, h1, h2]

theorem RegFile.read_drop_above (r : RegFile) (k k' : Nat) (h : k < k') :
    RegFile.read (r.dropWhile fun c => decide (c.1 ≤ k)) k' = RegFile.read r k' := by
  induction r with
  | nil => rfl
  | cons c r ih =>
    by_cases h0 : c.1 ≤ k
    · have h1 : ¬ k' = c.1 := by omega
      have h2 : ¬ k' < c.1 := by omega
      simp [h0, ih, RegFile.read, h1, h2]
    · simp [h0]

theorem RegFile.read_drop_below (r : RegFile) (k k' : Nat) (h : k' < k) :
    RegFile.read (r.dropWhile fun c => decide (c.1 ≤ k)) k' = regReset k' := by
  induction r with
  | nil => rfl
  | cons c r ih =>
    by_cases h0 : c.1 ≤ k
    · simp [h0, ih]
    · have h1 : ¬ k' = c.1 := by omega
      have h2 : k' < c.1 := by omega
      simp [h0, RegFile.read, h1, h2]

/-- A cell reads what was last written to it. -/
@[simp] theorem RegFile.read_write_same (r : RegFile) (k v : Nat) : (r.write k v).read k = v := by
  induction r with
  | nil => by_cases h : v = regReset k <;> simp [RegFile.write, RegFile.read, h]
  | cons c r ih =>
    obtain ⟨k', v'⟩ := c
    simp only [RegFile.write]
    split
    · have h1 : ¬ k = k' := by omega
      split
      · simp [RegFile.read, *]
      · simp [RegFile.read]
    · split
      · split
        · rw [RegFile.read_drop_same]; simp [*]
        · simp [RegFile.read]
      · simp [RegFile.read, *]

/-- A write leaves every other cell alone. -/
theorem RegFile.read_write_ne (r : RegFile) (k v k2 : Nat) (h : k2 ≠ k) : (r.write k v).read k2 = r.read k2 := by
  induction r with
  | nil =>
    simp only [RegFile.write]
    split
    · rfl
    · simp [RegFile.read, h]
  | cons c r ih =>
    obtain ⟨k', v'⟩ := c
    simp only [RegFile.write]
    split
    · split
      · rfl
      · by_cases h3 : k2 < k
        · have h4 : ¬ k2 = k' := by omega
          have h5 : k2 < k' := by omega
          simp [RegFile.read, h, h3, h4, h5]
        · simp [RegFile.read, h, h3]
    · split
      · rename_i hk; subst hk
        split
        · rcases Nat.lt_or_gt_of_ne h with h6 | h6
          · rw [RegFile.read_drop_below _ _ _ h6]; simp [RegFile.read, h, h6]
          · rw [RegFile.read_drop_above _ _ _ h6]
            have h7 : ¬ k2 < k := by omega
            simp [RegFile.read, h, h7]
        · simp [RegFile.read, h]
      · simp [RegFile.read, ih]

theorem RegFile.wfFrom_mono (lo lo' : Nat) (r : RegFile) (h : lo' ≤ lo) (w : RegFile.wfFrom lo r = true) :
    RegFile.wfFrom lo' r = true := by
  cases r with
  | nil => rfl
  | cons c r =>
    obtain ⟨k, v⟩ := c
    simp only [RegFile.wfFrom, Bool.and_eq_true, decide_eq_true_eq] at w ⊢
    exact ⟨⟨by omega, w.1.2⟩, w.2⟩

theorem RegFile.wfFrom_drop (lo k : Nat) (r : RegFile) (w : RegFile.wfFrom lo r = true) :
    RegFile.wfFrom lo (r.dropWhile fun c => decide (c.1 ≤ k)) = true := by
  induction r generalizing lo with
  | nil => rfl
  | cons c r ih =>
    obtain ⟨k', v⟩ := c
    by_cases h0 : k' ≤ k
    · simp only [RegFile.wfFrom, Bool.and_eq_true, decide_eq_true_eq] at w
      simp only [List.dropWhile_cons, h0, decide_true, if_true]
      exact ih lo (RegFile.wfFrom_mono _ _ _ (by omega) w.2)
    · simp only [List.dropWhile_cons, h0, decide_false, Bool.false_eq_true, if_false]
      exact w

theorem RegFile.wfFrom_write (lo : Nat) (r : RegFile) (k v : Nat) (hk : lo ≤ k) (w : RegFile.wfFrom lo r = true) :
    RegFile.wfFrom lo (r.write k v) = true := by
  induction r generalizing lo with
  | nil =>
    simp only [RegFile.write]
    split
    · rfl
    · simp [RegFile.wfFrom, *]
  | cons c r ih =>
    obtain ⟨k', v'⟩ := c
    have w0 := w
    simp only [RegFile.wfFrom, Bool.and_eq_true, decide_eq_true_eq] at w
    simp only [RegFile.write]
    split
    · split
      · exact w0
      · simp only [RegFile.wfFrom, Bool.and_eq_true, decide_eq_true_eq]
        exact ⟨⟨hk, ‹_›⟩, ⟨by omega, w.1.2⟩, w.2⟩
    · split
      · rename_i hk; subst hk
        split
        · exact RegFile.wfFrom_mono _ _ _ (by omega) (RegFile.wfFrom_drop _ _ _ w.2)
        · simp only [RegFile.wfFrom, Bool.and_eq_true, decide_eq_true_eq]
          exact ⟨⟨hk, ‹_›⟩, w.2⟩
      · simp only [RegFile.wfFrom, Bool.and_eq_true, decide_eq_true_eq]
        exact ⟨w.1, ih _ (by omega) w.2⟩

/-- A write keeps the canonical form. -/
theorem RegFile.wf_write (r : RegFile) (k v : Nat) (w : r.wf = true) : (r.write k v).wf = true :=
  RegFile.wfFrom_write 0 r k v (Nat.zero_le _) w

theorem RegFile.wfFrom_keep (f : Nat → Bool) (lo lo' : Nat) (r : RegFile) (h : lo' ≤ lo)
    (w : RegFile.wfFrom lo r = true) : RegFile.wfFrom lo' (RegFile.keepFrom f lo r) = true := by
  induction r generalizing lo lo' with
  | nil => rfl
  | cons c r ih =>
    obtain ⟨k, v⟩ := c
    simp only [RegFile.wfFrom, Bool.and_eq_true, decide_eq_true_eq] at w
    have hk : ¬ k < lo := by omega
    simp only [RegFile.keepFrom, hk, if_false]
    split
    · simp only [RegFile.wfFrom, Bool.and_eq_true, decide_eq_true_eq]
      exact ⟨⟨by omega, w.1.2⟩, ih _ _ (Nat.le_refl _) w.2⟩
    · exact ih _ _ (by omega) w.2

/-- Keeping some cells keeps the canonical form. -/
theorem RegFile.wf_keep (r : RegFile) (f : Nat → Bool) (w : r.wf = true) : (r.keep f).wf = true :=
  RegFile.wfFrom_keep f 0 0 r (Nat.le_refl _) w

theorem RegFile.read_keepFrom_below (f : Nat → Bool) (lo k : Nat) (r : RegFile) (h : k < lo) :
    (RegFile.keepFrom f lo r).read k = regReset k := by
  induction r generalizing lo with
  | nil => rfl
  | cons c r ih =>
    obtain ⟨k', v⟩ := c
    simp only [RegFile.keepFrom]
    split
    · exact ih lo h
    · split
      · have h1 : ¬ k = k' := by omega
        have h2 : k < k' := by omega
        simp [RegFile.read, h1, h2]
      · exact ih (k' + 1) (by omega)

theorem RegFile.read_keepFrom (f : Nat → Bool) (lo k : Nat) (r : RegFile) (h : lo ≤ k) :
    (RegFile.keepFrom f lo r).read k = if f k then r.read k else regReset k := by
  induction r generalizing lo with
  | nil => simp [RegFile.keepFrom, RegFile.read]
  | cons c r ih =>
    obtain ⟨k', v⟩ := c
    simp only [RegFile.keepFrom]
    split
    · have h1 : ¬ k = k' := by omega
      have h2 : ¬ k < k' := by omega
      simp [RegFile.read, h1, h2, ih lo h]
    · rcases Nat.lt_trichotomy k k' with h0 | h0 | h0
      · have h1 : ¬ k = k' := by omega
        split
        · simp [RegFile.read, h0, h1]
        · rw [RegFile.read_keepFrom_below _ _ _ _ (by omega)]
          simp [RegFile.read, h0, h1]
      · subst h0
        split
        · simp [RegFile.read, *]
        · exact RegFile.read_keepFrom_below _ _ _ _ (by omega)
      · have h1 : ¬ k = k' := by omega
        have h2 : ¬ k < k' := by omega
        split
        · simp [RegFile.read, h1, h2, ih (k' + 1) (by omega)]
        · simp [RegFile.read, h1, h2, ih (k' + 1) (by omega)]

/-- A kept cell reads as before, another one at its reset value. -/
theorem RegFile.read_keep (r : RegFile) (f : Nat → Bool) (k : Nat) :
    (r.keep f).read k = if f k then r.read k else regReset k := RegFile.read_keepFrom f 0 k r (Nat.zero_le _)

end Sys2Proof.Machine
end

