-- ==== Sys2Proof/Laws/Crypto.lean ====
section
/-!
SUPPORT. A CMAC has 16 bytes, and the bytes of a number that a byte list spells are that list: so for every key and every
challenge there is a response that the part takes (R590).
-/

namespace Sys2Proof.Machine

open Reg

@[simp] theorem xorBytes_length (a b : List Nat) : (xorBytes a b).length = min a.length b.length := by
  simp [xorBytes]

theorem aesNextKey_length (k : List Nat) (rcon : Nat) (h : k.length = 16) : (aesNextKey k rcon).length = 16 := by
  simp [aesNextKey, h]

@[simp] theorem aesShiftRows_length (s : List Nat) : (aesShiftRows s).length = 16 := by simp [aesShiftRows]

@[simp] theorem aesMixColumns_length (s : List Nat) : (aesMixColumns s).length = 16 := by
  simp [aesMixColumns, aesMixColumn, List.range, List.range.loop]

theorem aesRounds_length : ∀ (fuel : Nat) (k : List Nat) (rcon : Nat) (s : List Nat), k.length = 16 → s.length = 16 →
    (aesRounds fuel k rcon s).length = 16
  | 0, _, _, _, _, hs => by simpa [aesRounds] using hs
  | fuel + 1, k, rcon, s, hk, hs => by
    unfold aesRounds
    apply aesRounds_length fuel _ _ _ (aesNextKey_length k rcon hk)
    simp only [xorBytes_length, aesNextKey_length k rcon hk]
    split <;> simp

theorem aes128_length (k b : List Nat) (hk : k.length = 16) (hb : b.length = 16) : (aes128 k b).length = 16 := by
  apply aesRounds_length _ _ _ _ hk
  simp [hk, hb]

theorem cmacDouble_length (b : List Nat) : (cmacDouble b).length = 16 := by simp [cmacDouble]

theorem cmacChain_length (k k1 k2 : List Nat) (hk : k.length = 16) (h1 : k1.length = 16) (h2 : k2.length = 16) :
    ∀ (fuel : Nat) (acc m : List Nat), acc.length = 16 → (cmacChain k k1 k2 fuel acc m).length = 16
  | 0, _, _, ha => by simpa [cmacChain] using ha
  | fuel + 1, acc, m, ha => by
    unfold cmacChain
    split
    · apply aes128_length _ _ hk
      simp only [xorBytes_length, ha]
      split
      · simp [*]
      · simp [h2]; omega
    · apply cmacChain_length k k1 k2 hk h1 h2
      apply aes128_length _ _ hk
      simp only [xorBytes_length, ha, List.length_take]
      omega

/-- A CMAC has 16 bytes. -/
theorem cmac_length (k : List Nat) (m : List Byte) (hk : k.length = 16) : (cmac k m).length = 16 := by
  unfold cmac
  exact cmacChain_length _ _ _ hk (cmacDouble_length _) (cmacDouble_length _) _ _ _ (by simp)

/-- The debug key has the 16 bytes of an AES-128 key. -/
@[simp] theorem debugKey_length : Config.debugKey.length = 16 := by simp [Config.debugKey]

theorem leBytes_ofLe : ∀ bs : List Byte, leBytes bs.length (ofLe bs) = bs
  | [] => rfl
  | b :: bs => by
    have h : (b.toNat + 256 * ofLe bs) / 256 = ofLe bs := by have := b.isLt; omega
    simp only [List.length_cons, ofLe, leBytes, h, leBytes_ofLe bs, List.cons.injEq, and_true]
    apply BitVec.eq_of_toNat_eq
    have := b.isLt
    simp
    omega

theorem ofLe_lt : ∀ bs : List Byte, ofLe bs < 256 ^ bs.length
  | [] => by simp [ofLe]
  | b :: bs => by
    have := b.isLt; have := ofLe_lt bs
    simp only [ofLe, List.length_cons, Nat.pow_succ]
    omega

/-- A part whose response words hold a tag. -/
def withTag (p : Part) (tag : List Byte) : Part :=
  (((p.set DBG_RESP.RESP (ofLe ((tag.drop 0).take 4)) 0 0).set DBG_RESP.RESP (ofLe ((tag.drop 4).take 4)) 0 1).set
    DBG_RESP.RESP (ofLe ((tag.drop 8).take 4)) 0 2).set DBG_RESP.RESP (ofLe ((tag.drop 12).take 4)) 0 3

theorem leBytes_word (l : List Byte) (h : l.length = 4) : leBytes 4 (ofLe l % 2 ^ 32) = l := by
  have h1 := ofLe_lt l
  rw [h] at h1
  rw [Nat.mod_eq_of_lt (by omega)]
  have h2 := leBytes_ofLe l
  rwa [h] at h2

theorem withTag_bytes (p : Part) (tag : List Byte) (h : tag.length = 16) :
    (withTag p tag).dbgBytes DBG_RESP.RESP = tag := by
  have e : tag = ((tag.drop 0).take 4) ++ ((tag.drop 4).take 4) ++ ((tag.drop 8).take 4) ++ ((tag.drop 12).take 4) := by
    match tag, h with
    | [_, _, _, _, _, _, _, _, _, _, _, _, _, _, _, _], _ => rfl
  have g : ∀ k : Nat, k + 4 ≤ 16 → leBytes 4 (ofLe ((tag.drop k).take 4) % 2 ^ 32) = (tag.drop k).take 4 := by
    intro k hk
    apply leBytes_word
    simp [h]; omega
  simp only [Part.dbgBytes, List.range, List.range.loop, List.flatMap_cons, List.flatMap_nil, List.append_nil]
  conv => rhs; rw [e]
  rw [← g 0 (by omega), ← g 4 (by omega), ← g 8 (by omega), ← g 12 (by omega)]
  simp only [withTag, Part.set, Part.get]
  rw [RegFile.read_write_same]
  rw [RegFile.read_write_ne _ (DBG_RESP.RESP.at 0 3) _ (DBG_RESP.RESP.at 0 0) (by decide),
    RegFile.read_write_ne _ (DBG_RESP.RESP.at 0 2) _ (DBG_RESP.RESP.at 0 0) (by decide),
    RegFile.read_write_ne _ (DBG_RESP.RESP.at 0 1) _ (DBG_RESP.RESP.at 0 0) (by decide), RegFile.read_write_same,
    RegFile.read_write_ne _ (DBG_RESP.RESP.at 0 3) _ (DBG_RESP.RESP.at 0 1) (by decide),
    RegFile.read_write_ne _ (DBG_RESP.RESP.at 0 2) _ (DBG_RESP.RESP.at 0 1) (by decide), RegFile.read_write_same,
    RegFile.read_write_ne _ (DBG_RESP.RESP.at 0 3) _ (DBG_RESP.RESP.at 0 2) (by decide), RegFile.read_write_same]
  simp [DBG_RESP.RESP]

theorem withTag_other (p : Part) (tag : List Byte) (f : Fld) (i j : Nat)
    (h : ∀ k, k < 4 → f.at i j ≠ DBG_RESP.RESP.at 0 k) : (withTag p tag).get f i j = p.get f i j := by
  simp only [withTag, Part.set, Part.get]
  rw [RegFile.read_write_ne _ _ _ _ (h 3 (by omega)), RegFile.read_write_ne _ _ _ _ (h 2 (by omega)),
    RegFile.read_write_ne _ _ _ _ (h 1 (by omega)), RegFile.read_write_ne _ _ _ _ (h 0 (by omega))]

theorem chal_ne : ∀ i, i < 4 → ∀ k, k < 4 → DBG_CHAL.CHAL.at 0 i ≠ DBG_RESP.RESP.at 0 k := by decide

theorem sysId_ne : ∀ k, k < 4 → SYS_ID.ID.at 0 0 ≠ DBG_RESP.RESP.at 0 k := by decide

/-- The bytes whose CMAC is the right response (R590): those of the challenge and of SYS_ID. -/
def chalBytes (p : Part) : List Byte := p.dbgBytes DBG_CHAL.CHAL ++ leBytes 4 p.sysId

/-- The one response that a part takes (R590). -/
theorem responseOk_withTag (p : Part) (tag : List Byte) (h : tag.length = 16) :
    (withTag p tag).responseOk = ((cmac Config.debugKey (chalBytes p)).map (BitVec.ofNat 8) == tag) := by
  have hc : ∀ i, i < 4 → (withTag p tag).get DBG_CHAL.CHAL 0 i = p.get DBG_CHAL.CHAL 0 i :=
    fun i hi => withTag_other p tag _ _ _ fun k hk => chal_ne i hi k hk
  have hs : (withTag p tag).sysId = p.sysId :=
    congrArg (· + Config.siliconRev % 16 * 65536) (withTag_other p tag SYS_ID.ID 0 0 sysId_ne)
  have hm : (withTag p tag).dbgBytes DBG_CHAL.CHAL = p.dbgBytes DBG_CHAL.CHAL := by
    simp only [Part.dbgBytes, List.range, List.range.loop, List.flatMap_cons, List.flatMap_nil]
    rw [hc 0 (by omega), hc 1 (by omega), hc 2 (by omega), hc 3 (by omega)]
  rw [Part.responseOk, hm, hs, withTag_bytes _ _ h, chalBytes]

/-- For every part there is a response that it takes (R590). -/
theorem response_exists (p : Part) : ∃ tag, (withTag p tag).responseOk = true :=
  ⟨(cmac Config.debugKey (chalBytes p)).map (BitVec.ofNat 8), by
    rw [responseOk_withTag _ _ (by simp [cmac_length _ _ debugKey_length])]; simp⟩

/-- For every part there is a response that it does not take (R591). -/
theorem wrong_response_exists (p : Part) : ∃ tag, (withTag p tag).responseOk = false := by
  by_cases h : (withTag p (List.replicate 16 0)).responseOk = true
  · refine ⟨1 :: List.replicate 15 0, ?_⟩
    rw [responseOk_withTag _ _ (by simp)] at h ⊢
    rw [beq_iff_eq] at h
    rw [h]
    decide
  · exact ⟨_, by simpa using h⟩
end Sys2Proof.Machine
end

