-- ==== Sys2Proof/Laws/State.lean ====
section
/-!
SUPPORT. What each update of the part leaves of each field, true by definition, and what register reads see of it.
-/

namespace Sys2Proof.Machine

/-! Register updates touch the register file alone. -/

@[simp] theorem Part.set_dev (p : Part) (f : Fld) (v i j : Nat) : (p.set f v i j).dev = p.dev := rfl
@[simp] theorem Part.set_supplies (p : Part) (f : Fld) (v i j : Nat) : (p.set f v i j).supplies = p.supplies := rfl
@[simp] theorem Part.set_hotLatch (p : Part) (f : Fld) (v i j : Nat) : (p.set f v i j).hotLatch = p.hotLatch := rfl
@[simp] theorem Part.set_pairHold (p : Part) (f : Fld) (v i j : Nat) : (p.set f v i j).pairHold = p.pairHold := rfl
@[simp] theorem Part.set_lossHold (p : Part) (f : Fld) (v i j : Nat) : (p.set f v i j).lossHold = p.lossHold := rfl
@[simp] theorem Part.set_tb (p : Part) (f : Fld) (v i j : Nat) : (p.set f v i j).tb = p.tb := rfl
@[simp] theorem Part.set_sub (p : Part) (f : Fld) (v i j : Nat) : (p.set f v i j).sub = p.sub := rfl
@[simp] theorem Part.set_tbFrac (p : Part) (f : Fld) (v i j : Nat) : (p.set f v i j).tbFrac = p.tbFrac := rfl
@[simp] theorem Part.set_aonCount (p : Part) (f : Fld) (v i j : Nat) : (p.set f v i j).aonCount = p.aonCount := rfl
@[simp] theorem Part.set_free (p : Part) (f : Fld) (v i j : Nat) : (p.set f v i j).free = p.free := rfl
@[simp] theorem Part.set_refusals (p : Part) (f : Fld) (v i j : Nat) : (p.set f v i j).refusals = p.refusals := rfl
@[simp] theorem Part.set_otpJob (p : Part) (f : Fld) (v i j : Nat) : (p.set f v i j).otpJob = p.otpJob := rfl
@[simp] theorem Part.set_load (p : Part) (f : Fld) (v i j : Nat) : (p.set f v i j).load = p.load := rfl
@[simp] theorem Part.set_parkReq (p : Part) (f : Fld) (v i j : Nat) : (p.set f v i j).parkReq = p.parkReq := rfl
@[simp] theorem Part.set_parkAt (p : Part) (f : Fld) (v i j : Nat) : (p.set f v i j).parkAt = p.parkAt := rfl
@[simp] theorem Part.set_parkCtx (p : Part) (f : Fld) (v i j : Nat) : (p.set f v i j).parkCtx = p.parkCtx := rfl
@[simp] theorem Part.set_wakes (p : Part) (f : Fld) (v i j : Nat) : (p.set f v i j).wakes = p.wakes := rfl
@[simp] theorem Part.set_sclHold (p : Part) (f : Fld) (v i j : Nat) : (p.set f v i j).sclHold = p.sclHold := rfl
@[simp] theorem Part.set_sclAt (p : Part) (f : Fld) (v i j : Nat) : (p.set f v i j).sclAt = p.sclAt := rfl
@[simp] theorem Part.set_pmbNack (p : Part) (f : Fld) (v i j : Nat) : (p.set f v i j).pmbNack = p.pmbNack := rfl
@[simp] theorem Part.set_clocksStopped (p : Part) (f : Fld) (v i j : Nat) : (p.set f v i j).clocksStopped = p.clocksStopped := rfl
@[simp] theorem Part.set_safeAt (p : Part) (f : Fld) (v i j : Nat) : (p.set f v i j).safeAt = p.safeAt := rfl
@[simp] theorem Part.set_vinAt (p : Part) (f : Fld) (v i j : Nat) : (p.set f v i j).vinAt = p.vinAt := rfl
@[simp] theorem Part.set_healthAt (p : Part) (f : Fld) (v i j : Nat) : (p.set f v i j).healthAt = p.healthAt := rfl
@[simp] theorem Part.set_thermAt (p : Part) (f : Fld) (v i j : Nat) : (p.set f v i j).thermAt = p.thermAt := rfl
@[simp] theorem Part.set_vinCodes (p : Part) (f : Fld) (v i j : Nat) : (p.set f v i j).vinCodes = p.vinCodes := rfl
@[simp] theorem Part.set_vinValues (p : Part) (f : Fld) (v i j : Nat) : (p.set f v i j).vinValues = p.vinValues := rfl
@[simp] theorem Part.set_lipLast (p : Part) (f : Fld) (v i j : Nat) : (p.set f v i j).lipLast = p.lipLast := rfl
@[simp] theorem Part.set_lipCap (p : Part) (f : Fld) (v i j : Nat) : (p.set f v i j).lipCap = p.lipCap := rfl
@[simp] theorem Part.set_thrMask (p : Part) (f : Fld) (v i j : Nat) : (p.set f v i j).thrMask = p.thrMask := rfl
@[simp] theorem Part.set_thrHold (p : Part) (f : Fld) (v i j : Nat) : (p.set f v i j).thrHold = p.thrHold := rfl
@[simp] theorem Part.set_feBad (p : Part) (f : Fld) (v i j : Nat) : (p.set f v i j).feBad = p.feBad := rfl
@[simp] theorem Part.set_rails (p : Part) (f : Fld) (v i j : Nat) : (p.set f v i j).rails = p.rails := rfl
@[simp] theorem Part.set_phases (p : Part) (f : Fld) (v i j : Nat) : (p.set f v i j).phases = p.phases := rfl
@[simp] theorem Part.set_slices (p : Part) (f : Fld) (v i j : Nat) : (p.set f v i j).slices = p.slices := rfl
@[simp] theorem Part.set_eng (p : Part) (f : Fld) (v i j : Nat) : (p.set f v i j).eng = p.eng := rfl
@[simp] theorem Part.set_hk (p : Part) (f : Fld) (v i j : Nat) : (p.set f v i j).hk = p.hk := rfl
@[simp] theorem Part.set_mons (p : Part) (f : Fld) (v i j : Nat) : (p.set f v i j).mons = p.mons := rfl
@[simp] theorem Part.set_therm (p : Part) (f : Fld) (v i j : Nat) : (p.set f v i j).therm = p.therm := rfl
@[simp] theorem Part.set_nvm (p : Part) (f : Fld) (v i j : Nat) : (p.set f v i j).nvm = p.nvm := rfl
@[simp] theorem Part.set_hal (p : Part) (f : Fld) (v i j : Nat) : (p.set f v i j).hal = p.hal := rfl
@[simp] theorem Part.set_pair (p : Part) (f : Fld) (v i j : Nat) : (p.set f v i j).pair = p.pair := rfl
@[simp] theorem Part.set_pmb (p : Part) (f : Fld) (v i j : Nat) : (p.set f v i j).pmb = p.pmb := rfl
@[simp] theorem Part.set_avs (p : Part) (f : Fld) (v i j : Nat) : (p.set f v i j).avs = p.avs := rfl
@[simp] theorem Part.set_test (p : Part) (f : Fld) (v i j : Nat) : (p.set f v i j).test = p.test := rfl
@[simp] theorem Part.put_dev (p : Part) (f : Fld) (b : Bool) (i j : Nat) : (p.put f b i j).dev = p.dev := rfl
@[simp] theorem Part.put_supplies (p : Part) (f : Fld) (b : Bool) (i j : Nat) : (p.put f b i j).supplies = p.supplies := rfl
@[simp] theorem Part.put_hotLatch (p : Part) (f : Fld) (b : Bool) (i j : Nat) : (p.put f b i j).hotLatch = p.hotLatch := rfl
@[simp] theorem Part.put_pairHold (p : Part) (f : Fld) (b : Bool) (i j : Nat) : (p.put f b i j).pairHold = p.pairHold := rfl
@[simp] theorem Part.put_lossHold (p : Part) (f : Fld) (b : Bool) (i j : Nat) : (p.put f b i j).lossHold = p.lossHold := rfl
@[simp] theorem Part.put_tb (p : Part) (f : Fld) (b : Bool) (i j : Nat) : (p.put f b i j).tb = p.tb := rfl
@[simp] theorem Part.put_sub (p : Part) (f : Fld) (b : Bool) (i j : Nat) : (p.put f b i j).sub = p.sub := rfl
@[simp] theorem Part.put_tbFrac (p : Part) (f : Fld) (b : Bool) (i j : Nat) : (p.put f b i j).tbFrac = p.tbFrac := rfl
@[simp] theorem Part.put_aonCount (p : Part) (f : Fld) (b : Bool) (i j : Nat) : (p.put f b i j).aonCount = p.aonCount := rfl
@[simp] theorem Part.put_free (p : Part) (f : Fld) (b : Bool) (i j : Nat) : (p.put f b i j).free = p.free := rfl
@[simp] theorem Part.put_refusals (p : Part) (f : Fld) (b : Bool) (i j : Nat) : (p.put f b i j).refusals = p.refusals := rfl
@[simp] theorem Part.put_otpJob (p : Part) (f : Fld) (b : Bool) (i j : Nat) : (p.put f b i j).otpJob = p.otpJob := rfl
@[simp] theorem Part.put_load (p : Part) (f : Fld) (b : Bool) (i j : Nat) : (p.put f b i j).load = p.load := rfl
@[simp] theorem Part.put_parkReq (p : Part) (f : Fld) (b : Bool) (i j : Nat) : (p.put f b i j).parkReq = p.parkReq := rfl
@[simp] theorem Part.put_parkAt (p : Part) (f : Fld) (b : Bool) (i j : Nat) : (p.put f b i j).parkAt = p.parkAt := rfl
@[simp] theorem Part.put_parkCtx (p : Part) (f : Fld) (b : Bool) (i j : Nat) : (p.put f b i j).parkCtx = p.parkCtx := rfl
@[simp] theorem Part.put_wakes (p : Part) (f : Fld) (b : Bool) (i j : Nat) : (p.put f b i j).wakes = p.wakes := rfl
@[simp] theorem Part.put_sclHold (p : Part) (f : Fld) (b : Bool) (i j : Nat) : (p.put f b i j).sclHold = p.sclHold := rfl
@[simp] theorem Part.put_sclAt (p : Part) (f : Fld) (b : Bool) (i j : Nat) : (p.put f b i j).sclAt = p.sclAt := rfl
@[simp] theorem Part.put_pmbNack (p : Part) (f : Fld) (b : Bool) (i j : Nat) : (p.put f b i j).pmbNack = p.pmbNack := rfl
@[simp] theorem Part.put_clocksStopped (p : Part) (f : Fld) (b : Bool) (i j : Nat) : (p.put f b i j).clocksStopped = p.clocksStopped := rfl
@[simp] theorem Part.put_safeAt (p : Part) (f : Fld) (b : Bool) (i j : Nat) : (p.put f b i j).safeAt = p.safeAt := rfl
@[simp] theorem Part.put_vinAt (p : Part) (f : Fld) (b : Bool) (i j : Nat) : (p.put f b i j).vinAt = p.vinAt := rfl
@[simp] theorem Part.put_healthAt (p : Part) (f : Fld) (b : Bool) (i j : Nat) : (p.put f b i j).healthAt = p.healthAt := rfl
@[simp] theorem Part.put_thermAt (p : Part) (f : Fld) (b : Bool) (i j : Nat) : (p.put f b i j).thermAt = p.thermAt := rfl
@[simp] theorem Part.put_vinCodes (p : Part) (f : Fld) (b : Bool) (i j : Nat) : (p.put f b i j).vinCodes = p.vinCodes := rfl
@[simp] theorem Part.put_vinValues (p : Part) (f : Fld) (b : Bool) (i j : Nat) : (p.put f b i j).vinValues = p.vinValues := rfl
@[simp] theorem Part.put_lipLast (p : Part) (f : Fld) (b : Bool) (i j : Nat) : (p.put f b i j).lipLast = p.lipLast := rfl
@[simp] theorem Part.put_lipCap (p : Part) (f : Fld) (b : Bool) (i j : Nat) : (p.put f b i j).lipCap = p.lipCap := rfl
@[simp] theorem Part.put_thrMask (p : Part) (f : Fld) (b : Bool) (i j : Nat) : (p.put f b i j).thrMask = p.thrMask := rfl
@[simp] theorem Part.put_thrHold (p : Part) (f : Fld) (b : Bool) (i j : Nat) : (p.put f b i j).thrHold = p.thrHold := rfl
@[simp] theorem Part.put_feBad (p : Part) (f : Fld) (b : Bool) (i j : Nat) : (p.put f b i j).feBad = p.feBad := rfl
@[simp] theorem Part.put_rails (p : Part) (f : Fld) (b : Bool) (i j : Nat) : (p.put f b i j).rails = p.rails := rfl
@[simp] theorem Part.put_phases (p : Part) (f : Fld) (b : Bool) (i j : Nat) : (p.put f b i j).phases = p.phases := rfl
@[simp] theorem Part.put_slices (p : Part) (f : Fld) (b : Bool) (i j : Nat) : (p.put f b i j).slices = p.slices := rfl
@[simp] theorem Part.put_eng (p : Part) (f : Fld) (b : Bool) (i j : Nat) : (p.put f b i j).eng = p.eng := rfl
@[simp] theorem Part.put_hk (p : Part) (f : Fld) (b : Bool) (i j : Nat) : (p.put f b i j).hk = p.hk := rfl
@[simp] theorem Part.put_mons (p : Part) (f : Fld) (b : Bool) (i j : Nat) : (p.put f b i j).mons = p.mons := rfl
@[simp] theorem Part.put_therm (p : Part) (f : Fld) (b : Bool) (i j : Nat) : (p.put f b i j).therm = p.therm := rfl
@[simp] theorem Part.put_nvm (p : Part) (f : Fld) (b : Bool) (i j : Nat) : (p.put f b i j).nvm = p.nvm := rfl
@[simp] theorem Part.put_hal (p : Part) (f : Fld) (b : Bool) (i j : Nat) : (p.put f b i j).hal = p.hal := rfl
@[simp] theorem Part.put_pair (p : Part) (f : Fld) (b : Bool) (i j : Nat) : (p.put f b i j).pair = p.pair := rfl
@[simp] theorem Part.put_pmb (p : Part) (f : Fld) (b : Bool) (i j : Nat) : (p.put f b i j).pmb = p.pmb := rfl
@[simp] theorem Part.put_avs (p : Part) (f : Fld) (b : Bool) (i j : Nat) : (p.put f b i j).avs = p.avs := rfl
@[simp] theorem Part.put_test (p : Part) (f : Fld) (b : Bool) (i j : Nat) : (p.put f b i j).test = p.test := rfl
@[simp] theorem Part.bump_dev (p : Part) (f : Fld) (i j : Nat) : (p.bump f i j).dev = p.dev := rfl
@[simp] theorem Part.bump_supplies (p : Part) (f : Fld) (i j : Nat) : (p.bump f i j).supplies = p.supplies := rfl
@[simp] theorem Part.bump_hotLatch (p : Part) (f : Fld) (i j : Nat) : (p.bump f i j).hotLatch = p.hotLatch := rfl
@[simp] theorem Part.bump_pairHold (p : Part) (f : Fld) (i j : Nat) : (p.bump f i j).pairHold = p.pairHold := rfl
@[simp] theorem Part.bump_lossHold (p : Part) (f : Fld) (i j : Nat) : (p.bump f i j).lossHold = p.lossHold := rfl
@[simp] theorem Part.bump_tb (p : Part) (f : Fld) (i j : Nat) : (p.bump f i j).tb = p.tb := rfl
@[simp] theorem Part.bump_sub (p : Part) (f : Fld) (i j : Nat) : (p.bump f i j).sub = p.sub := rfl
@[simp] theorem Part.bump_tbFrac (p : Part) (f : Fld) (i j : Nat) : (p.bump f i j).tbFrac = p.tbFrac := rfl
@[simp] theorem Part.bump_aonCount (p : Part) (f : Fld) (i j : Nat) : (p.bump f i j).aonCount = p.aonCount := rfl
@[simp] theorem Part.bump_free (p : Part) (f : Fld) (i j : Nat) : (p.bump f i j).free = p.free := rfl
@[simp] theorem Part.bump_refusals (p : Part) (f : Fld) (i j : Nat) : (p.bump f i j).refusals = p.refusals := rfl
@[simp] theorem Part.bump_otpJob (p : Part) (f : Fld) (i j : Nat) : (p.bump f i j).otpJob = p.otpJob := rfl
@[simp] theorem Part.bump_load (p : Part) (f : Fld) (i j : Nat) : (p.bump f i j).load = p.load := rfl
@[simp] theorem Part.bump_parkReq (p : Part) (f : Fld) (i j : Nat) : (p.bump f i j).parkReq = p.parkReq := rfl
@[simp] theorem Part.bump_parkAt (p : Part) (f : Fld) (i j : Nat) : (p.bump f i j).parkAt = p.parkAt := rfl
@[simp] theorem Part.bump_parkCtx (p : Part) (f : Fld) (i j : Nat) : (p.bump f i j).parkCtx = p.parkCtx := rfl
@[simp] theorem Part.bump_wakes (p : Part) (f : Fld) (i j : Nat) : (p.bump f i j).wakes = p.wakes := rfl
@[simp] theorem Part.bump_sclHold (p : Part) (f : Fld) (i j : Nat) : (p.bump f i j).sclHold = p.sclHold := rfl
@[simp] theorem Part.bump_sclAt (p : Part) (f : Fld) (i j : Nat) : (p.bump f i j).sclAt = p.sclAt := rfl
@[simp] theorem Part.bump_pmbNack (p : Part) (f : Fld) (i j : Nat) : (p.bump f i j).pmbNack = p.pmbNack := rfl
@[simp] theorem Part.bump_clocksStopped (p : Part) (f : Fld) (i j : Nat) : (p.bump f i j).clocksStopped = p.clocksStopped := rfl
@[simp] theorem Part.bump_safeAt (p : Part) (f : Fld) (i j : Nat) : (p.bump f i j).safeAt = p.safeAt := rfl
@[simp] theorem Part.bump_vinAt (p : Part) (f : Fld) (i j : Nat) : (p.bump f i j).vinAt = p.vinAt := rfl
@[simp] theorem Part.bump_healthAt (p : Part) (f : Fld) (i j : Nat) : (p.bump f i j).healthAt = p.healthAt := rfl
@[simp] theorem Part.bump_thermAt (p : Part) (f : Fld) (i j : Nat) : (p.bump f i j).thermAt = p.thermAt := rfl
@[simp] theorem Part.bump_vinCodes (p : Part) (f : Fld) (i j : Nat) : (p.bump f i j).vinCodes = p.vinCodes := rfl
@[simp] theorem Part.bump_vinValues (p : Part) (f : Fld) (i j : Nat) : (p.bump f i j).vinValues = p.vinValues := rfl
@[simp] theorem Part.bump_lipLast (p : Part) (f : Fld) (i j : Nat) : (p.bump f i j).lipLast = p.lipLast := rfl
@[simp] theorem Part.bump_lipCap (p : Part) (f : Fld) (i j : Nat) : (p.bump f i j).lipCap = p.lipCap := rfl
@[simp] theorem Part.bump_thrMask (p : Part) (f : Fld) (i j : Nat) : (p.bump f i j).thrMask = p.thrMask := rfl
@[simp] theorem Part.bump_thrHold (p : Part) (f : Fld) (i j : Nat) : (p.bump f i j).thrHold = p.thrHold := rfl
@[simp] theorem Part.bump_feBad (p : Part) (f : Fld) (i j : Nat) : (p.bump f i j).feBad = p.feBad := rfl
@[simp] theorem Part.bump_rails (p : Part) (f : Fld) (i j : Nat) : (p.bump f i j).rails = p.rails := rfl
@[simp] theorem Part.bump_phases (p : Part) (f : Fld) (i j : Nat) : (p.bump f i j).phases = p.phases := rfl
@[simp] theorem Part.bump_slices (p : Part) (f : Fld) (i j : Nat) : (p.bump f i j).slices = p.slices := rfl
@[simp] theorem Part.bump_eng (p : Part) (f : Fld) (i j : Nat) : (p.bump f i j).eng = p.eng := rfl
@[simp] theorem Part.bump_hk (p : Part) (f : Fld) (i j : Nat) : (p.bump f i j).hk = p.hk := rfl
@[simp] theorem Part.bump_mons (p : Part) (f : Fld) (i j : Nat) : (p.bump f i j).mons = p.mons := rfl
@[simp] theorem Part.bump_therm (p : Part) (f : Fld) (i j : Nat) : (p.bump f i j).therm = p.therm := rfl
@[simp] theorem Part.bump_nvm (p : Part) (f : Fld) (i j : Nat) : (p.bump f i j).nvm = p.nvm := rfl
@[simp] theorem Part.bump_hal (p : Part) (f : Fld) (i j : Nat) : (p.bump f i j).hal = p.hal := rfl
@[simp] theorem Part.bump_pair (p : Part) (f : Fld) (i j : Nat) : (p.bump f i j).pair = p.pair := rfl
@[simp] theorem Part.bump_pmb (p : Part) (f : Fld) (i j : Nat) : (p.bump f i j).pmb = p.pmb := rfl
@[simp] theorem Part.bump_avs (p : Part) (f : Fld) (i j : Nat) : (p.bump f i j).avs = p.avs := rfl
@[simp] theorem Part.bump_test (p : Part) (f : Fld) (i j : Nat) : (p.bump f i j).test = p.test := rfl
@[simp] theorem Part.setBit_dev (p : Part) (f : Fld) (k i : Nat) : (p.setBit f k i).dev = p.dev := rfl
@[simp] theorem Part.setBit_supplies (p : Part) (f : Fld) (k i : Nat) : (p.setBit f k i).supplies = p.supplies := rfl
@[simp] theorem Part.setBit_hotLatch (p : Part) (f : Fld) (k i : Nat) : (p.setBit f k i).hotLatch = p.hotLatch := rfl
@[simp] theorem Part.setBit_pairHold (p : Part) (f : Fld) (k i : Nat) : (p.setBit f k i).pairHold = p.pairHold := rfl
@[simp] theorem Part.setBit_lossHold (p : Part) (f : Fld) (k i : Nat) : (p.setBit f k i).lossHold = p.lossHold := rfl
@[simp] theorem Part.setBit_tb (p : Part) (f : Fld) (k i : Nat) : (p.setBit f k i).tb = p.tb := rfl
@[simp] theorem Part.setBit_sub (p : Part) (f : Fld) (k i : Nat) : (p.setBit f k i).sub = p.sub := rfl
@[simp] theorem Part.setBit_tbFrac (p : Part) (f : Fld) (k i : Nat) : (p.setBit f k i).tbFrac = p.tbFrac := rfl
@[simp] theorem Part.setBit_aonCount (p : Part) (f : Fld) (k i : Nat) : (p.setBit f k i).aonCount = p.aonCount := rfl
@[simp] theorem Part.setBit_free (p : Part) (f : Fld) (k i : Nat) : (p.setBit f k i).free = p.free := rfl
@[simp] theorem Part.setBit_refusals (p : Part) (f : Fld) (k i : Nat) : (p.setBit f k i).refusals = p.refusals := rfl
@[simp] theorem Part.setBit_otpJob (p : Part) (f : Fld) (k i : Nat) : (p.setBit f k i).otpJob = p.otpJob := rfl
@[simp] theorem Part.setBit_load (p : Part) (f : Fld) (k i : Nat) : (p.setBit f k i).load = p.load := rfl
@[simp] theorem Part.setBit_parkReq (p : Part) (f : Fld) (k i : Nat) : (p.setBit f k i).parkReq = p.parkReq := rfl
@[simp] theorem Part.setBit_parkAt (p : Part) (f : Fld) (k i : Nat) : (p.setBit f k i).parkAt = p.parkAt := rfl
@[simp] theorem Part.setBit_parkCtx (p : Part) (f : Fld) (k i : Nat) : (p.setBit f k i).parkCtx = p.parkCtx := rfl
@[simp] theorem Part.setBit_wakes (p : Part) (f : Fld) (k i : Nat) : (p.setBit f k i).wakes = p.wakes := rfl
@[simp] theorem Part.setBit_sclHold (p : Part) (f : Fld) (k i : Nat) : (p.setBit f k i).sclHold = p.sclHold := rfl
@[simp] theorem Part.setBit_sclAt (p : Part) (f : Fld) (k i : Nat) : (p.setBit f k i).sclAt = p.sclAt := rfl
@[simp] theorem Part.setBit_pmbNack (p : Part) (f : Fld) (k i : Nat) : (p.setBit f k i).pmbNack = p.pmbNack := rfl
@[simp] theorem Part.setBit_clocksStopped (p : Part) (f : Fld) (k i : Nat) : (p.setBit f k i).clocksStopped = p.clocksStopped := rfl
@[simp] theorem Part.setBit_safeAt (p : Part) (f : Fld) (k i : Nat) : (p.setBit f k i).safeAt = p.safeAt := rfl
@[simp] theorem Part.setBit_vinAt (p : Part) (f : Fld) (k i : Nat) : (p.setBit f k i).vinAt = p.vinAt := rfl
@[simp] theorem Part.setBit_healthAt (p : Part) (f : Fld) (k i : Nat) : (p.setBit f k i).healthAt = p.healthAt := rfl
@[simp] theorem Part.setBit_thermAt (p : Part) (f : Fld) (k i : Nat) : (p.setBit f k i).thermAt = p.thermAt := rfl
@[simp] theorem Part.setBit_vinCodes (p : Part) (f : Fld) (k i : Nat) : (p.setBit f k i).vinCodes = p.vinCodes := rfl
@[simp] theorem Part.setBit_vinValues (p : Part) (f : Fld) (k i : Nat) : (p.setBit f k i).vinValues = p.vinValues := rfl
@[simp] theorem Part.setBit_lipLast (p : Part) (f : Fld) (k i : Nat) : (p.setBit f k i).lipLast = p.lipLast := rfl
@[simp] theorem Part.setBit_lipCap (p : Part) (f : Fld) (k i : Nat) : (p.setBit f k i).lipCap = p.lipCap := rfl
@[simp] theorem Part.setBit_thrMask (p : Part) (f : Fld) (k i : Nat) : (p.setBit f k i).thrMask = p.thrMask := rfl
@[simp] theorem Part.setBit_thrHold (p : Part) (f : Fld) (k i : Nat) : (p.setBit f k i).thrHold = p.thrHold := rfl
@[simp] theorem Part.setBit_feBad (p : Part) (f : Fld) (k i : Nat) : (p.setBit f k i).feBad = p.feBad := rfl
@[simp] theorem Part.setBit_rails (p : Part) (f : Fld) (k i : Nat) : (p.setBit f k i).rails = p.rails := rfl
@[simp] theorem Part.setBit_phases (p : Part) (f : Fld) (k i : Nat) : (p.setBit f k i).phases = p.phases := rfl
@[simp] theorem Part.setBit_slices (p : Part) (f : Fld) (k i : Nat) : (p.setBit f k i).slices = p.slices := rfl
@[simp] theorem Part.setBit_eng (p : Part) (f : Fld) (k i : Nat) : (p.setBit f k i).eng = p.eng := rfl
@[simp] theorem Part.setBit_hk (p : Part) (f : Fld) (k i : Nat) : (p.setBit f k i).hk = p.hk := rfl
@[simp] theorem Part.setBit_mons (p : Part) (f : Fld) (k i : Nat) : (p.setBit f k i).mons = p.mons := rfl
@[simp] theorem Part.setBit_therm (p : Part) (f : Fld) (k i : Nat) : (p.setBit f k i).therm = p.therm := rfl
@[simp] theorem Part.setBit_nvm (p : Part) (f : Fld) (k i : Nat) : (p.setBit f k i).nvm = p.nvm := rfl
@[simp] theorem Part.setBit_hal (p : Part) (f : Fld) (k i : Nat) : (p.setBit f k i).hal = p.hal := rfl
@[simp] theorem Part.setBit_pair (p : Part) (f : Fld) (k i : Nat) : (p.setBit f k i).pair = p.pair := rfl
@[simp] theorem Part.setBit_pmb (p : Part) (f : Fld) (k i : Nat) : (p.setBit f k i).pmb = p.pmb := rfl
@[simp] theorem Part.setBit_avs (p : Part) (f : Fld) (k i : Nat) : (p.setBit f k i).avs = p.avs := rfl
@[simp] theorem Part.setBit_test (p : Part) (f : Fld) (k i : Nat) : (p.setBit f k i).test = p.test := rfl
@[simp] theorem Part.clearBit_dev (p : Part) (f : Fld) (k i : Nat) : (p.clearBit f k i).dev = p.dev := rfl
@[simp] theorem Part.clearBit_supplies (p : Part) (f : Fld) (k i : Nat) : (p.clearBit f k i).supplies = p.supplies := rfl
@[simp] theorem Part.clearBit_hotLatch (p : Part) (f : Fld) (k i : Nat) : (p.clearBit f k i).hotLatch = p.hotLatch := rfl
@[simp] theorem Part.clearBit_pairHold (p : Part) (f : Fld) (k i : Nat) : (p.clearBit f k i).pairHold = p.pairHold := rfl
@[simp] theorem Part.clearBit_lossHold (p : Part) (f : Fld) (k i : Nat) : (p.clearBit f k i).lossHold = p.lossHold := rfl
@[simp] theorem Part.clearBit_tb (p : Part) (f : Fld) (k i : Nat) : (p.clearBit f k i).tb = p.tb := rfl
@[simp] theorem Part.clearBit_sub (p : Part) (f : Fld) (k i : Nat) : (p.clearBit f k i).sub = p.sub := rfl
@[simp] theorem Part.clearBit_tbFrac (p : Part) (f : Fld) (k i : Nat) : (p.clearBit f k i).tbFrac = p.tbFrac := rfl
@[simp] theorem Part.clearBit_aonCount (p : Part) (f : Fld) (k i : Nat) : (p.clearBit f k i).aonCount = p.aonCount := rfl
@[simp] theorem Part.clearBit_free (p : Part) (f : Fld) (k i : Nat) : (p.clearBit f k i).free = p.free := rfl
@[simp] theorem Part.clearBit_refusals (p : Part) (f : Fld) (k i : Nat) : (p.clearBit f k i).refusals = p.refusals := rfl
@[simp] theorem Part.clearBit_otpJob (p : Part) (f : Fld) (k i : Nat) : (p.clearBit f k i).otpJob = p.otpJob := rfl
@[simp] theorem Part.clearBit_load (p : Part) (f : Fld) (k i : Nat) : (p.clearBit f k i).load = p.load := rfl
@[simp] theorem Part.clearBit_parkReq (p : Part) (f : Fld) (k i : Nat) : (p.clearBit f k i).parkReq = p.parkReq := rfl
@[simp] theorem Part.clearBit_parkAt (p : Part) (f : Fld) (k i : Nat) : (p.clearBit f k i).parkAt = p.parkAt := rfl
@[simp] theorem Part.clearBit_parkCtx (p : Part) (f : Fld) (k i : Nat) : (p.clearBit f k i).parkCtx = p.parkCtx := rfl
@[simp] theorem Part.clearBit_wakes (p : Part) (f : Fld) (k i : Nat) : (p.clearBit f k i).wakes = p.wakes := rfl
@[simp] theorem Part.clearBit_sclHold (p : Part) (f : Fld) (k i : Nat) : (p.clearBit f k i).sclHold = p.sclHold := rfl
@[simp] theorem Part.clearBit_sclAt (p : Part) (f : Fld) (k i : Nat) : (p.clearBit f k i).sclAt = p.sclAt := rfl
@[simp] theorem Part.clearBit_pmbNack (p : Part) (f : Fld) (k i : Nat) : (p.clearBit f k i).pmbNack = p.pmbNack := rfl
@[simp] theorem Part.clearBit_clocksStopped (p : Part) (f : Fld) (k i : Nat) : (p.clearBit f k i).clocksStopped = p.clocksStopped := rfl
@[simp] theorem Part.clearBit_safeAt (p : Part) (f : Fld) (k i : Nat) : (p.clearBit f k i).safeAt = p.safeAt := rfl
@[simp] theorem Part.clearBit_vinAt (p : Part) (f : Fld) (k i : Nat) : (p.clearBit f k i).vinAt = p.vinAt := rfl
@[simp] theorem Part.clearBit_healthAt (p : Part) (f : Fld) (k i : Nat) : (p.clearBit f k i).healthAt = p.healthAt := rfl
@[simp] theorem Part.clearBit_thermAt (p : Part) (f : Fld) (k i : Nat) : (p.clearBit f k i).thermAt = p.thermAt := rfl
@[simp] theorem Part.clearBit_vinCodes (p : Part) (f : Fld) (k i : Nat) : (p.clearBit f k i).vinCodes = p.vinCodes := rfl
@[simp] theorem Part.clearBit_vinValues (p : Part) (f : Fld) (k i : Nat) : (p.clearBit f k i).vinValues = p.vinValues := rfl
@[simp] theorem Part.clearBit_lipLast (p : Part) (f : Fld) (k i : Nat) : (p.clearBit f k i).lipLast = p.lipLast := rfl
@[simp] theorem Part.clearBit_lipCap (p : Part) (f : Fld) (k i : Nat) : (p.clearBit f k i).lipCap = p.lipCap := rfl
@[simp] theorem Part.clearBit_thrMask (p : Part) (f : Fld) (k i : Nat) : (p.clearBit f k i).thrMask = p.thrMask := rfl
@[simp] theorem Part.clearBit_thrHold (p : Part) (f : Fld) (k i : Nat) : (p.clearBit f k i).thrHold = p.thrHold := rfl
@[simp] theorem Part.clearBit_feBad (p : Part) (f : Fld) (k i : Nat) : (p.clearBit f k i).feBad = p.feBad := rfl
@[simp] theorem Part.clearBit_rails (p : Part) (f : Fld) (k i : Nat) : (p.clearBit f k i).rails = p.rails := rfl
@[simp] theorem Part.clearBit_phases (p : Part) (f : Fld) (k i : Nat) : (p.clearBit f k i).phases = p.phases := rfl
@[simp] theorem Part.clearBit_slices (p : Part) (f : Fld) (k i : Nat) : (p.clearBit f k i).slices = p.slices := rfl
@[simp] theorem Part.clearBit_eng (p : Part) (f : Fld) (k i : Nat) : (p.clearBit f k i).eng = p.eng := rfl
@[simp] theorem Part.clearBit_hk (p : Part) (f : Fld) (k i : Nat) : (p.clearBit f k i).hk = p.hk := rfl
@[simp] theorem Part.clearBit_mons (p : Part) (f : Fld) (k i : Nat) : (p.clearBit f k i).mons = p.mons := rfl
@[simp] theorem Part.clearBit_therm (p : Part) (f : Fld) (k i : Nat) : (p.clearBit f k i).therm = p.therm := rfl
@[simp] theorem Part.clearBit_nvm (p : Part) (f : Fld) (k i : Nat) : (p.clearBit f k i).nvm = p.nvm := rfl
@[simp] theorem Part.clearBit_hal (p : Part) (f : Fld) (k i : Nat) : (p.clearBit f k i).hal = p.hal := rfl
@[simp] theorem Part.clearBit_pair (p : Part) (f : Fld) (k i : Nat) : (p.clearBit f k i).pair = p.pair := rfl
@[simp] theorem Part.clearBit_pmb (p : Part) (f : Fld) (k i : Nat) : (p.clearBit f k i).pmb = p.pmb := rfl
@[simp] theorem Part.clearBit_avs (p : Part) (f : Fld) (k i : Nat) : (p.clearBit f k i).avs = p.avs := rfl
@[simp] theorem Part.clearBit_test (p : Part) (f : Fld) (k i : Nat) : (p.clearBit f k i).test = p.test := rfl
@[simp] theorem Part.event_dev (p : Part) (e c : Fld) (i : Nat) : (p.event e c i).dev = p.dev := rfl
@[simp] theorem Part.event_supplies (p : Part) (e c : Fld) (i : Nat) : (p.event e c i).supplies = p.supplies := rfl
@[simp] theorem Part.event_hotLatch (p : Part) (e c : Fld) (i : Nat) : (p.event e c i).hotLatch = p.hotLatch := rfl
@[simp] theorem Part.event_pairHold (p : Part) (e c : Fld) (i : Nat) : (p.event e c i).pairHold = p.pairHold := rfl
@[simp] theorem Part.event_lossHold (p : Part) (e c : Fld) (i : Nat) : (p.event e c i).lossHold = p.lossHold := rfl
@[simp] theorem Part.event_tb (p : Part) (e c : Fld) (i : Nat) : (p.event e c i).tb = p.tb := rfl
@[simp] theorem Part.event_sub (p : Part) (e c : Fld) (i : Nat) : (p.event e c i).sub = p.sub := rfl
@[simp] theorem Part.event_tbFrac (p : Part) (e c : Fld) (i : Nat) : (p.event e c i).tbFrac = p.tbFrac := rfl
@[simp] theorem Part.event_aonCount (p : Part) (e c : Fld) (i : Nat) : (p.event e c i).aonCount = p.aonCount := rfl
@[simp] theorem Part.event_free (p : Part) (e c : Fld) (i : Nat) : (p.event e c i).free = p.free := rfl
@[simp] theorem Part.event_refusals (p : Part) (e c : Fld) (i : Nat) : (p.event e c i).refusals = p.refusals := rfl
@[simp] theorem Part.event_otpJob (p : Part) (e c : Fld) (i : Nat) : (p.event e c i).otpJob = p.otpJob := rfl
@[simp] theorem Part.event_load (p : Part) (e c : Fld) (i : Nat) : (p.event e c i).load = p.load := rfl
@[simp] theorem Part.event_parkReq (p : Part) (e c : Fld) (i : Nat) : (p.event e c i).parkReq = p.parkReq := rfl
@[simp] theorem Part.event_parkAt (p : Part) (e c : Fld) (i : Nat) : (p.event e c i).parkAt = p.parkAt := rfl
@[simp] theorem Part.event_parkCtx (p : Part) (e c : Fld) (i : Nat) : (p.event e c i).parkCtx = p.parkCtx := rfl
@[simp] theorem Part.event_wakes (p : Part) (e c : Fld) (i : Nat) : (p.event e c i).wakes = p.wakes := rfl
@[simp] theorem Part.event_sclHold (p : Part) (e c : Fld) (i : Nat) : (p.event e c i).sclHold = p.sclHold := rfl
@[simp] theorem Part.event_sclAt (p : Part) (e c : Fld) (i : Nat) : (p.event e c i).sclAt = p.sclAt := rfl
@[simp] theorem Part.event_pmbNack (p : Part) (e c : Fld) (i : Nat) : (p.event e c i).pmbNack = p.pmbNack := rfl
@[simp] theorem Part.event_clocksStopped (p : Part) (e c : Fld) (i : Nat) : (p.event e c i).clocksStopped = p.clocksStopped := rfl
@[simp] theorem Part.event_safeAt (p : Part) (e c : Fld) (i : Nat) : (p.event e c i).safeAt = p.safeAt := rfl
@[simp] theorem Part.event_vinAt (p : Part) (e c : Fld) (i : Nat) : (p.event e c i).vinAt = p.vinAt := rfl
@[simp] theorem Part.event_healthAt (p : Part) (e c : Fld) (i : Nat) : (p.event e c i).healthAt = p.healthAt := rfl
@[simp] theorem Part.event_thermAt (p : Part) (e c : Fld) (i : Nat) : (p.event e c i).thermAt = p.thermAt := rfl
@[simp] theorem Part.event_vinCodes (p : Part) (e c : Fld) (i : Nat) : (p.event e c i).vinCodes = p.vinCodes := rfl
@[simp] theorem Part.event_vinValues (p : Part) (e c : Fld) (i : Nat) : (p.event e c i).vinValues = p.vinValues := rfl
@[simp] theorem Part.event_lipLast (p : Part) (e c : Fld) (i : Nat) : (p.event e c i).lipLast = p.lipLast := rfl
@[simp] theorem Part.event_lipCap (p : Part) (e c : Fld) (i : Nat) : (p.event e c i).lipCap = p.lipCap := rfl
@[simp] theorem Part.event_thrMask (p : Part) (e c : Fld) (i : Nat) : (p.event e c i).thrMask = p.thrMask := rfl
@[simp] theorem Part.event_thrHold (p : Part) (e c : Fld) (i : Nat) : (p.event e c i).thrHold = p.thrHold := rfl
@[simp] theorem Part.event_feBad (p : Part) (e c : Fld) (i : Nat) : (p.event e c i).feBad = p.feBad := rfl
@[simp] theorem Part.event_rails (p : Part) (e c : Fld) (i : Nat) : (p.event e c i).rails = p.rails := rfl
@[simp] theorem Part.event_phases (p : Part) (e c : Fld) (i : Nat) : (p.event e c i).phases = p.phases := rfl
@[simp] theorem Part.event_slices (p : Part) (e c : Fld) (i : Nat) : (p.event e c i).slices = p.slices := rfl
@[simp] theorem Part.event_eng (p : Part) (e c : Fld) (i : Nat) : (p.event e c i).eng = p.eng := rfl
@[simp] theorem Part.event_hk (p : Part) (e c : Fld) (i : Nat) : (p.event e c i).hk = p.hk := rfl
@[simp] theorem Part.event_mons (p : Part) (e c : Fld) (i : Nat) : (p.event e c i).mons = p.mons := rfl
@[simp] theorem Part.event_therm (p : Part) (e c : Fld) (i : Nat) : (p.event e c i).therm = p.therm := rfl
@[simp] theorem Part.event_nvm (p : Part) (e c : Fld) (i : Nat) : (p.event e c i).nvm = p.nvm := rfl
@[simp] theorem Part.event_hal (p : Part) (e c : Fld) (i : Nat) : (p.event e c i).hal = p.hal := rfl
@[simp] theorem Part.event_pair (p : Part) (e c : Fld) (i : Nat) : (p.event e c i).pair = p.pair := rfl
@[simp] theorem Part.event_pmb (p : Part) (e c : Fld) (i : Nat) : (p.event e c i).pmb = p.pmb := rfl
@[simp] theorem Part.event_avs (p : Part) (e c : Fld) (i : Nat) : (p.event e c i).avs = p.avs := rfl
@[simp] theorem Part.event_test (p : Part) (e c : Fld) (i : Nat) : (p.event e c i).test = p.test := rfl

/-! Updates of one piece of the internal state. -/

@[simp] theorem Part.modRail_regs (p : Part) (n : Nat) (g : RailCore → RailCore) : (p.modRail n g).regs = p.regs := rfl
@[simp] theorem Part.modRail_dev (p : Part) (n : Nat) (g : RailCore → RailCore) : (p.modRail n g).dev = p.dev := rfl
@[simp] theorem Part.modRail_supplies (p : Part) (n : Nat) (g : RailCore → RailCore) : (p.modRail n g).supplies = p.supplies := rfl
@[simp] theorem Part.modRail_hotLatch (p : Part) (n : Nat) (g : RailCore → RailCore) : (p.modRail n g).hotLatch = p.hotLatch := rfl
@[simp] theorem Part.modRail_pairHold (p : Part) (n : Nat) (g : RailCore → RailCore) : (p.modRail n g).pairHold = p.pairHold := rfl
@[simp] theorem Part.modRail_lossHold (p : Part) (n : Nat) (g : RailCore → RailCore) : (p.modRail n g).lossHold = p.lossHold := rfl
@[simp] theorem Part.modRail_tb (p : Part) (n : Nat) (g : RailCore → RailCore) : (p.modRail n g).tb = p.tb := rfl
@[simp] theorem Part.modRail_sub (p : Part) (n : Nat) (g : RailCore → RailCore) : (p.modRail n g).sub = p.sub := rfl
@[simp] theorem Part.modRail_tbFrac (p : Part) (n : Nat) (g : RailCore → RailCore) : (p.modRail n g).tbFrac = p.tbFrac := rfl
@[simp] theorem Part.modRail_aonCount (p : Part) (n : Nat) (g : RailCore → RailCore) : (p.modRail n g).aonCount = p.aonCount := rfl
@[simp] theorem Part.modRail_free (p : Part) (n : Nat) (g : RailCore → RailCore) : (p.modRail n g).free = p.free := rfl
@[simp] theorem Part.modRail_refusals (p : Part) (n : Nat) (g : RailCore → RailCore) : (p.modRail n g).refusals = p.refusals := rfl
@[simp] theorem Part.modRail_otpJob (p : Part) (n : Nat) (g : RailCore → RailCore) : (p.modRail n g).otpJob = p.otpJob := rfl
@[simp] theorem Part.modRail_load (p : Part) (n : Nat) (g : RailCore → RailCore) : (p.modRail n g).load = p.load := rfl
@[simp] theorem Part.modRail_parkReq (p : Part) (n : Nat) (g : RailCore → RailCore) : (p.modRail n g).parkReq = p.parkReq := rfl
@[simp] theorem Part.modRail_parkAt (p : Part) (n : Nat) (g : RailCore → RailCore) : (p.modRail n g).parkAt = p.parkAt := rfl
@[simp] theorem Part.modRail_parkCtx (p : Part) (n : Nat) (g : RailCore → RailCore) : (p.modRail n g).parkCtx = p.parkCtx := rfl
@[simp] theorem Part.modRail_wakes (p : Part) (n : Nat) (g : RailCore → RailCore) : (p.modRail n g).wakes = p.wakes := rfl
@[simp] theorem Part.modRail_sclHold (p : Part) (n : Nat) (g : RailCore → RailCore) : (p.modRail n g).sclHold = p.sclHold := rfl
@[simp] theorem Part.modRail_sclAt (p : Part) (n : Nat) (g : RailCore → RailCore) : (p.modRail n g).sclAt = p.sclAt := rfl
@[simp] theorem Part.modRail_pmbNack (p : Part) (n : Nat) (g : RailCore → RailCore) : (p.modRail n g).pmbNack = p.pmbNack := rfl
@[simp] theorem Part.modRail_clocksStopped (p : Part) (n : Nat) (g : RailCore → RailCore) : (p.modRail n g).clocksStopped = p.clocksStopped := rfl
@[simp] theorem Part.modRail_safeAt (p : Part) (n : Nat) (g : RailCore → RailCore) : (p.modRail n g).safeAt = p.safeAt := rfl
@[simp] theorem Part.modRail_vinAt (p : Part) (n : Nat) (g : RailCore → RailCore) : (p.modRail n g).vinAt = p.vinAt := rfl
@[simp] theorem Part.modRail_healthAt (p : Part) (n : Nat) (g : RailCore → RailCore) : (p.modRail n g).healthAt = p.healthAt := rfl
@[simp] theorem Part.modRail_thermAt (p : Part) (n : Nat) (g : RailCore → RailCore) : (p.modRail n g).thermAt = p.thermAt := rfl
@[simp] theorem Part.modRail_vinCodes (p : Part) (n : Nat) (g : RailCore → RailCore) : (p.modRail n g).vinCodes = p.vinCodes := rfl
@[simp] theorem Part.modRail_vinValues (p : Part) (n : Nat) (g : RailCore → RailCore) : (p.modRail n g).vinValues = p.vinValues := rfl
@[simp] theorem Part.modRail_lipLast (p : Part) (n : Nat) (g : RailCore → RailCore) : (p.modRail n g).lipLast = p.lipLast := rfl
@[simp] theorem Part.modRail_lipCap (p : Part) (n : Nat) (g : RailCore → RailCore) : (p.modRail n g).lipCap = p.lipCap := rfl
@[simp] theorem Part.modRail_thrMask (p : Part) (n : Nat) (g : RailCore → RailCore) : (p.modRail n g).thrMask = p.thrMask := rfl
@[simp] theorem Part.modRail_thrHold (p : Part) (n : Nat) (g : RailCore → RailCore) : (p.modRail n g).thrHold = p.thrHold := rfl
@[simp] theorem Part.modRail_feBad (p : Part) (n : Nat) (g : RailCore → RailCore) : (p.modRail n g).feBad = p.feBad := rfl
@[simp] theorem Part.modRail_rails (p : Part) (n : Nat) (g : RailCore → RailCore) : (p.modRail n g).rails = upd p.rails n g := rfl
@[simp] theorem Part.modRail_phases (p : Part) (n : Nat) (g : RailCore → RailCore) : (p.modRail n g).phases = p.phases := rfl
@[simp] theorem Part.modRail_slices (p : Part) (n : Nat) (g : RailCore → RailCore) : (p.modRail n g).slices = p.slices := rfl
@[simp] theorem Part.modRail_eng (p : Part) (n : Nat) (g : RailCore → RailCore) : (p.modRail n g).eng = p.eng := rfl
@[simp] theorem Part.modRail_hk (p : Part) (n : Nat) (g : RailCore → RailCore) : (p.modRail n g).hk = p.hk := rfl
@[simp] theorem Part.modRail_mons (p : Part) (n : Nat) (g : RailCore → RailCore) : (p.modRail n g).mons = p.mons := rfl
@[simp] theorem Part.modRail_therm (p : Part) (n : Nat) (g : RailCore → RailCore) : (p.modRail n g).therm = p.therm := rfl
@[simp] theorem Part.modRail_nvm (p : Part) (n : Nat) (g : RailCore → RailCore) : (p.modRail n g).nvm = p.nvm := rfl
@[simp] theorem Part.modRail_hal (p : Part) (n : Nat) (g : RailCore → RailCore) : (p.modRail n g).hal = p.hal := rfl
@[simp] theorem Part.modRail_pair (p : Part) (n : Nat) (g : RailCore → RailCore) : (p.modRail n g).pair = p.pair := rfl
@[simp] theorem Part.modRail_pmb (p : Part) (n : Nat) (g : RailCore → RailCore) : (p.modRail n g).pmb = p.pmb := rfl
@[simp] theorem Part.modRail_avs (p : Part) (n : Nat) (g : RailCore → RailCore) : (p.modRail n g).avs = p.avs := rfl
@[simp] theorem Part.modRail_test (p : Part) (n : Nat) (g : RailCore → RailCore) : (p.modRail n g).test = p.test := rfl
@[simp] theorem Part.modRail_get (p : Part) (n : Nat) (g : RailCore → RailCore) (f : Fld) (i j : Nat) : (p.modRail n g).get f i j = p.get f i j := rfl
@[simp] theorem Part.modPh_regs (p : Part) (n : Nat) (g : PhaseCore → PhaseCore) : (p.modPh n g).regs = p.regs := rfl
@[simp] theorem Part.modPh_dev (p : Part) (n : Nat) (g : PhaseCore → PhaseCore) : (p.modPh n g).dev = p.dev := rfl
@[simp] theorem Part.modPh_supplies (p : Part) (n : Nat) (g : PhaseCore → PhaseCore) : (p.modPh n g).supplies = p.supplies := rfl
@[simp] theorem Part.modPh_hotLatch (p : Part) (n : Nat) (g : PhaseCore → PhaseCore) : (p.modPh n g).hotLatch = p.hotLatch := rfl
@[simp] theorem Part.modPh_pairHold (p : Part) (n : Nat) (g : PhaseCore → PhaseCore) : (p.modPh n g).pairHold = p.pairHold := rfl
@[simp] theorem Part.modPh_lossHold (p : Part) (n : Nat) (g : PhaseCore → PhaseCore) : (p.modPh n g).lossHold = p.lossHold := rfl
@[simp] theorem Part.modPh_tb (p : Part) (n : Nat) (g : PhaseCore → PhaseCore) : (p.modPh n g).tb = p.tb := rfl
@[simp] theorem Part.modPh_sub (p : Part) (n : Nat) (g : PhaseCore → PhaseCore) : (p.modPh n g).sub = p.sub := rfl
@[simp] theorem Part.modPh_tbFrac (p : Part) (n : Nat) (g : PhaseCore → PhaseCore) : (p.modPh n g).tbFrac = p.tbFrac := rfl
@[simp] theorem Part.modPh_aonCount (p : Part) (n : Nat) (g : PhaseCore → PhaseCore) : (p.modPh n g).aonCount = p.aonCount := rfl
@[simp] theorem Part.modPh_free (p : Part) (n : Nat) (g : PhaseCore → PhaseCore) : (p.modPh n g).free = p.free := rfl
@[simp] theorem Part.modPh_refusals (p : Part) (n : Nat) (g : PhaseCore → PhaseCore) : (p.modPh n g).refusals = p.refusals := rfl
@[simp] theorem Part.modPh_otpJob (p : Part) (n : Nat) (g : PhaseCore → PhaseCore) : (p.modPh n g).otpJob = p.otpJob := rfl
@[simp] theorem Part.modPh_load (p : Part) (n : Nat) (g : PhaseCore → PhaseCore) : (p.modPh n g).load = p.load := rfl
@[simp] theorem Part.modPh_parkReq (p : Part) (n : Nat) (g : PhaseCore → PhaseCore) : (p.modPh n g).parkReq = p.parkReq := rfl
@[simp] theorem Part.modPh_parkAt (p : Part) (n : Nat) (g : PhaseCore → PhaseCore) : (p.modPh n g).parkAt = p.parkAt := rfl
@[simp] theorem Part.modPh_parkCtx (p : Part) (n : Nat) (g : PhaseCore → PhaseCore) : (p.modPh n g).parkCtx = p.parkCtx := rfl
@[simp] theorem Part.modPh_wakes (p : Part) (n : Nat) (g : PhaseCore → PhaseCore) : (p.modPh n g).wakes = p.wakes := rfl
@[simp] theorem Part.modPh_sclHold (p : Part) (n : Nat) (g : PhaseCore → PhaseCore) : (p.modPh n g).sclHold = p.sclHold := rfl
@[simp] theorem Part.modPh_sclAt (p : Part) (n : Nat) (g : PhaseCore → PhaseCore) : (p.modPh n g).sclAt = p.sclAt := rfl
@[simp] theorem Part.modPh_pmbNack (p : Part) (n : Nat) (g : PhaseCore → PhaseCore) : (p.modPh n g).pmbNack = p.pmbNack := rfl
@[simp] theorem Part.modPh_clocksStopped (p : Part) (n : Nat) (g : PhaseCore → PhaseCore) : (p.modPh n g).clocksStopped = p.clocksStopped := rfl
@[simp] theorem Part.modPh_safeAt (p : Part) (n : Nat) (g : PhaseCore → PhaseCore) : (p.modPh n g).safeAt = p.safeAt := rfl
@[simp] theorem Part.modPh_vinAt (p : Part) (n : Nat) (g : PhaseCore → PhaseCore) : (p.modPh n g).vinAt = p.vinAt := rfl
@[simp] theorem Part.modPh_healthAt (p : Part) (n : Nat) (g : PhaseCore → PhaseCore) : (p.modPh n g).healthAt = p.healthAt := rfl
@[simp] theorem Part.modPh_thermAt (p : Part) (n : Nat) (g : PhaseCore → PhaseCore) : (p.modPh n g).thermAt = p.thermAt := rfl
@[simp] theorem Part.modPh_vinCodes (p : Part) (n : Nat) (g : PhaseCore → PhaseCore) : (p.modPh n g).vinCodes = p.vinCodes := rfl
@[simp] theorem Part.modPh_vinValues (p : Part) (n : Nat) (g : PhaseCore → PhaseCore) : (p.modPh n g).vinValues = p.vinValues := rfl
@[simp] theorem Part.modPh_lipLast (p : Part) (n : Nat) (g : PhaseCore → PhaseCore) : (p.modPh n g).lipLast = p.lipLast := rfl
@[simp] theorem Part.modPh_lipCap (p : Part) (n : Nat) (g : PhaseCore → PhaseCore) : (p.modPh n g).lipCap = p.lipCap := rfl
@[simp] theorem Part.modPh_thrMask (p : Part) (n : Nat) (g : PhaseCore → PhaseCore) : (p.modPh n g).thrMask = p.thrMask := rfl
@[simp] theorem Part.modPh_thrHold (p : Part) (n : Nat) (g : PhaseCore → PhaseCore) : (p.modPh n g).thrHold = p.thrHold := rfl
@[simp] theorem Part.modPh_feBad (p : Part) (n : Nat) (g : PhaseCore → PhaseCore) : (p.modPh n g).feBad = p.feBad := rfl
@[simp] theorem Part.modPh_rails (p : Part) (n : Nat) (g : PhaseCore → PhaseCore) : (p.modPh n g).rails = p.rails := rfl
@[simp] theorem Part.modPh_phases (p : Part) (n : Nat) (g : PhaseCore → PhaseCore) : (p.modPh n g).phases = upd p.phases n g := rfl
@[simp] theorem Part.modPh_slices (p : Part) (n : Nat) (g : PhaseCore → PhaseCore) : (p.modPh n g).slices = p.slices := rfl
@[simp] theorem Part.modPh_eng (p : Part) (n : Nat) (g : PhaseCore → PhaseCore) : (p.modPh n g).eng = p.eng := rfl
@[simp] theorem Part.modPh_hk (p : Part) (n : Nat) (g : PhaseCore → PhaseCore) : (p.modPh n g).hk = p.hk := rfl
@[simp] theorem Part.modPh_mons (p : Part) (n : Nat) (g : PhaseCore → PhaseCore) : (p.modPh n g).mons = p.mons := rfl
@[simp] theorem Part.modPh_therm (p : Part) (n : Nat) (g : PhaseCore → PhaseCore) : (p.modPh n g).therm = p.therm := rfl
@[simp] theorem Part.modPh_nvm (p : Part) (n : Nat) (g : PhaseCore → PhaseCore) : (p.modPh n g).nvm = p.nvm := rfl
@[simp] theorem Part.modPh_hal (p : Part) (n : Nat) (g : PhaseCore → PhaseCore) : (p.modPh n g).hal = p.hal := rfl
@[simp] theorem Part.modPh_pair (p : Part) (n : Nat) (g : PhaseCore → PhaseCore) : (p.modPh n g).pair = p.pair := rfl
@[simp] theorem Part.modPh_pmb (p : Part) (n : Nat) (g : PhaseCore → PhaseCore) : (p.modPh n g).pmb = p.pmb := rfl
@[simp] theorem Part.modPh_avs (p : Part) (n : Nat) (g : PhaseCore → PhaseCore) : (p.modPh n g).avs = p.avs := rfl
@[simp] theorem Part.modPh_test (p : Part) (n : Nat) (g : PhaseCore → PhaseCore) : (p.modPh n g).test = p.test := rfl
@[simp] theorem Part.modPh_get (p : Part) (n : Nat) (g : PhaseCore → PhaseCore) (f : Fld) (i j : Nat) : (p.modPh n g).get f i j = p.get f i j := rfl
@[simp] theorem Part.modSlice_regs (p : Part) (n : Nat) (g : SliceCore → SliceCore) : (p.modSlice n g).regs = p.regs := rfl
@[simp] theorem Part.modSlice_dev (p : Part) (n : Nat) (g : SliceCore → SliceCore) : (p.modSlice n g).dev = p.dev := rfl
@[simp] theorem Part.modSlice_supplies (p : Part) (n : Nat) (g : SliceCore → SliceCore) : (p.modSlice n g).supplies = p.supplies := rfl
@[simp] theorem Part.modSlice_hotLatch (p : Part) (n : Nat) (g : SliceCore → SliceCore) : (p.modSlice n g).hotLatch = p.hotLatch := rfl
@[simp] theorem Part.modSlice_pairHold (p : Part) (n : Nat) (g : SliceCore → SliceCore) : (p.modSlice n g).pairHold = p.pairHold := rfl
@[simp] theorem Part.modSlice_lossHold (p : Part) (n : Nat) (g : SliceCore → SliceCore) : (p.modSlice n g).lossHold = p.lossHold := rfl
@[simp] theorem Part.modSlice_tb (p : Part) (n : Nat) (g : SliceCore → SliceCore) : (p.modSlice n g).tb = p.tb := rfl
@[simp] theorem Part.modSlice_sub (p : Part) (n : Nat) (g : SliceCore → SliceCore) : (p.modSlice n g).sub = p.sub := rfl
@[simp] theorem Part.modSlice_tbFrac (p : Part) (n : Nat) (g : SliceCore → SliceCore) : (p.modSlice n g).tbFrac = p.tbFrac := rfl
@[simp] theorem Part.modSlice_aonCount (p : Part) (n : Nat) (g : SliceCore → SliceCore) : (p.modSlice n g).aonCount = p.aonCount := rfl
@[simp] theorem Part.modSlice_free (p : Part) (n : Nat) (g : SliceCore → SliceCore) : (p.modSlice n g).free = p.free := rfl
@[simp] theorem Part.modSlice_refusals (p : Part) (n : Nat) (g : SliceCore → SliceCore) : (p.modSlice n g).refusals = p.refusals := rfl
@[simp] theorem Part.modSlice_otpJob (p : Part) (n : Nat) (g : SliceCore → SliceCore) : (p.modSlice n g).otpJob = p.otpJob := rfl
@[simp] theorem Part.modSlice_load (p : Part) (n : Nat) (g : SliceCore → SliceCore) : (p.modSlice n g).load = p.load := rfl
@[simp] theorem Part.modSlice_parkReq (p : Part) (n : Nat) (g : SliceCore → SliceCore) : (p.modSlice n g).parkReq = p.parkReq := rfl
@[simp] theorem Part.modSlice_parkAt (p : Part) (n : Nat) (g : SliceCore → SliceCore) : (p.modSlice n g).parkAt = p.parkAt := rfl
@[simp] theorem Part.modSlice_parkCtx (p : Part) (n : Nat) (g : SliceCore → SliceCore) : (p.modSlice n g).parkCtx = p.parkCtx := rfl
@[simp] theorem Part.modSlice_wakes (p : Part) (n : Nat) (g : SliceCore → SliceCore) : (p.modSlice n g).wakes = p.wakes := rfl
@[simp] theorem Part.modSlice_sclHold (p : Part) (n : Nat) (g : SliceCore → SliceCore) : (p.modSlice n g).sclHold = p.sclHold := rfl
@[simp] theorem Part.modSlice_sclAt (p : Part) (n : Nat) (g : SliceCore → SliceCore) : (p.modSlice n g).sclAt = p.sclAt := rfl
@[simp] theorem Part.modSlice_pmbNack (p : Part) (n : Nat) (g : SliceCore → SliceCore) : (p.modSlice n g).pmbNack = p.pmbNack := rfl
@[simp] theorem Part.modSlice_clocksStopped (p : Part) (n : Nat) (g : SliceCore → SliceCore) : (p.modSlice n g).clocksStopped = p.clocksStopped := rfl
@[simp] theorem Part.modSlice_safeAt (p : Part) (n : Nat) (g : SliceCore → SliceCore) : (p.modSlice n g).safeAt = p.safeAt := rfl
@[simp] theorem Part.modSlice_vinAt (p : Part) (n : Nat) (g : SliceCore → SliceCore) : (p.modSlice n g).vinAt = p.vinAt := rfl
@[simp] theorem Part.modSlice_healthAt (p : Part) (n : Nat) (g : SliceCore → SliceCore) : (p.modSlice n g).healthAt = p.healthAt := rfl
@[simp] theorem Part.modSlice_thermAt (p : Part) (n : Nat) (g : SliceCore → SliceCore) : (p.modSlice n g).thermAt = p.thermAt := rfl
@[simp] theorem Part.modSlice_vinCodes (p : Part) (n : Nat) (g : SliceCore → SliceCore) : (p.modSlice n g).vinCodes = p.vinCodes := rfl
@[simp] theorem Part.modSlice_vinValues (p : Part) (n : Nat) (g : SliceCore → SliceCore) : (p.modSlice n g).vinValues = p.vinValues := rfl
@[simp] theorem Part.modSlice_lipLast (p : Part) (n : Nat) (g : SliceCore → SliceCore) : (p.modSlice n g).lipLast = p.lipLast := rfl
@[simp] theorem Part.modSlice_lipCap (p : Part) (n : Nat) (g : SliceCore → SliceCore) : (p.modSlice n g).lipCap = p.lipCap := rfl
@[simp] theorem Part.modSlice_thrMask (p : Part) (n : Nat) (g : SliceCore → SliceCore) : (p.modSlice n g).thrMask = p.thrMask := rfl
@[simp] theorem Part.modSlice_thrHold (p : Part) (n : Nat) (g : SliceCore → SliceCore) : (p.modSlice n g).thrHold = p.thrHold := rfl
@[simp] theorem Part.modSlice_feBad (p : Part) (n : Nat) (g : SliceCore → SliceCore) : (p.modSlice n g).feBad = p.feBad := rfl
@[simp] theorem Part.modSlice_rails (p : Part) (n : Nat) (g : SliceCore → SliceCore) : (p.modSlice n g).rails = p.rails := rfl
@[simp] theorem Part.modSlice_phases (p : Part) (n : Nat) (g : SliceCore → SliceCore) : (p.modSlice n g).phases = p.phases := rfl
@[simp] theorem Part.modSlice_slices (p : Part) (n : Nat) (g : SliceCore → SliceCore) : (p.modSlice n g).slices = upd p.slices n g := rfl
@[simp] theorem Part.modSlice_eng (p : Part) (n : Nat) (g : SliceCore → SliceCore) : (p.modSlice n g).eng = p.eng := rfl
@[simp] theorem Part.modSlice_hk (p : Part) (n : Nat) (g : SliceCore → SliceCore) : (p.modSlice n g).hk = p.hk := rfl
@[simp] theorem Part.modSlice_mons (p : Part) (n : Nat) (g : SliceCore → SliceCore) : (p.modSlice n g).mons = p.mons := rfl
@[simp] theorem Part.modSlice_therm (p : Part) (n : Nat) (g : SliceCore → SliceCore) : (p.modSlice n g).therm = p.therm := rfl
@[simp] theorem Part.modSlice_nvm (p : Part) (n : Nat) (g : SliceCore → SliceCore) : (p.modSlice n g).nvm = p.nvm := rfl
@[simp] theorem Part.modSlice_hal (p : Part) (n : Nat) (g : SliceCore → SliceCore) : (p.modSlice n g).hal = p.hal := rfl
@[simp] theorem Part.modSlice_pair (p : Part) (n : Nat) (g : SliceCore → SliceCore) : (p.modSlice n g).pair = p.pair := rfl
@[simp] theorem Part.modSlice_pmb (p : Part) (n : Nat) (g : SliceCore → SliceCore) : (p.modSlice n g).pmb = p.pmb := rfl
@[simp] theorem Part.modSlice_avs (p : Part) (n : Nat) (g : SliceCore → SliceCore) : (p.modSlice n g).avs = p.avs := rfl
@[simp] theorem Part.modSlice_test (p : Part) (n : Nat) (g : SliceCore → SliceCore) : (p.modSlice n g).test = p.test := rfl
@[simp] theorem Part.modSlice_get (p : Part) (n : Nat) (g : SliceCore → SliceCore) (f : Fld) (i j : Nat) : (p.modSlice n g).get f i j = p.get f i j := rfl
@[simp] theorem Part.modEng_regs (p : Part) (g : EngineCore → EngineCore) : (p.modEng g).regs = p.regs := rfl
@[simp] theorem Part.modEng_dev (p : Part) (g : EngineCore → EngineCore) : (p.modEng g).dev = p.dev := rfl
@[simp] theorem Part.modEng_supplies (p : Part) (g : EngineCore → EngineCore) : (p.modEng g).supplies = p.supplies := rfl
@[simp] theorem Part.modEng_hotLatch (p : Part) (g : EngineCore → EngineCore) : (p.modEng g).hotLatch = p.hotLatch := rfl
@[simp] theorem Part.modEng_pairHold (p : Part) (g : EngineCore → EngineCore) : (p.modEng g).pairHold = p.pairHold := rfl
@[simp] theorem Part.modEng_lossHold (p : Part) (g : EngineCore → EngineCore) : (p.modEng g).lossHold = p.lossHold := rfl
@[simp] theorem Part.modEng_tb (p : Part) (g : EngineCore → EngineCore) : (p.modEng g).tb = p.tb := rfl
@[simp] theorem Part.modEng_sub (p : Part) (g : EngineCore → EngineCore) : (p.modEng g).sub = p.sub := rfl
@[simp] theorem Part.modEng_tbFrac (p : Part) (g : EngineCore → EngineCore) : (p.modEng g).tbFrac = p.tbFrac := rfl
@[simp] theorem Part.modEng_aonCount (p : Part) (g : EngineCore → EngineCore) : (p.modEng g).aonCount = p.aonCount := rfl
@[simp] theorem Part.modEng_free (p : Part) (g : EngineCore → EngineCore) : (p.modEng g).free = p.free := rfl
@[simp] theorem Part.modEng_refusals (p : Part) (g : EngineCore → EngineCore) : (p.modEng g).refusals = p.refusals := rfl
@[simp] theorem Part.modEng_otpJob (p : Part) (g : EngineCore → EngineCore) : (p.modEng g).otpJob = p.otpJob := rfl
@[simp] theorem Part.modEng_load (p : Part) (g : EngineCore → EngineCore) : (p.modEng g).load = p.load := rfl
@[simp] theorem Part.modEng_parkReq (p : Part) (g : EngineCore → EngineCore) : (p.modEng g).parkReq = p.parkReq := rfl
@[simp] theorem Part.modEng_parkAt (p : Part) (g : EngineCore → EngineCore) : (p.modEng g).parkAt = p.parkAt := rfl
@[simp] theorem Part.modEng_parkCtx (p : Part) (g : EngineCore → EngineCore) : (p.modEng g).parkCtx = p.parkCtx := rfl
@[simp] theorem Part.modEng_wakes (p : Part) (g : EngineCore → EngineCore) : (p.modEng g).wakes = p.wakes := rfl
@[simp] theorem Part.modEng_sclHold (p : Part) (g : EngineCore → EngineCore) : (p.modEng g).sclHold = p.sclHold := rfl
@[simp] theorem Part.modEng_sclAt (p : Part) (g : EngineCore → EngineCore) : (p.modEng g).sclAt = p.sclAt := rfl
@[simp] theorem Part.modEng_pmbNack (p : Part) (g : EngineCore → EngineCore) : (p.modEng g).pmbNack = p.pmbNack := rfl
@[simp] theorem Part.modEng_clocksStopped (p : Part) (g : EngineCore → EngineCore) : (p.modEng g).clocksStopped = p.clocksStopped := rfl
@[simp] theorem Part.modEng_safeAt (p : Part) (g : EngineCore → EngineCore) : (p.modEng g).safeAt = p.safeAt := rfl
@[simp] theorem Part.modEng_vinAt (p : Part) (g : EngineCore → EngineCore) : (p.modEng g).vinAt = p.vinAt := rfl
@[simp] theorem Part.modEng_healthAt (p : Part) (g : EngineCore → EngineCore) : (p.modEng g).healthAt = p.healthAt := rfl
@[simp] theorem Part.modEng_thermAt (p : Part) (g : EngineCore → EngineCore) : (p.modEng g).thermAt = p.thermAt := rfl
@[simp] theorem Part.modEng_vinCodes (p : Part) (g : EngineCore → EngineCore) : (p.modEng g).vinCodes = p.vinCodes := rfl
@[simp] theorem Part.modEng_vinValues (p : Part) (g : EngineCore → EngineCore) : (p.modEng g).vinValues = p.vinValues := rfl
@[simp] theorem Part.modEng_lipLast (p : Part) (g : EngineCore → EngineCore) : (p.modEng g).lipLast = p.lipLast := rfl
@[simp] theorem Part.modEng_lipCap (p : Part) (g : EngineCore → EngineCore) : (p.modEng g).lipCap = p.lipCap := rfl
@[simp] theorem Part.modEng_thrMask (p : Part) (g : EngineCore → EngineCore) : (p.modEng g).thrMask = p.thrMask := rfl
@[simp] theorem Part.modEng_thrHold (p : Part) (g : EngineCore → EngineCore) : (p.modEng g).thrHold = p.thrHold := rfl
@[simp] theorem Part.modEng_feBad (p : Part) (g : EngineCore → EngineCore) : (p.modEng g).feBad = p.feBad := rfl
@[simp] theorem Part.modEng_rails (p : Part) (g : EngineCore → EngineCore) : (p.modEng g).rails = p.rails := rfl
@[simp] theorem Part.modEng_phases (p : Part) (g : EngineCore → EngineCore) : (p.modEng g).phases = p.phases := rfl
@[simp] theorem Part.modEng_slices (p : Part) (g : EngineCore → EngineCore) : (p.modEng g).slices = p.slices := rfl
@[simp] theorem Part.modEng_eng (p : Part) (g : EngineCore → EngineCore) : (p.modEng g).eng = g p.eng := rfl
@[simp] theorem Part.modEng_hk (p : Part) (g : EngineCore → EngineCore) : (p.modEng g).hk = p.hk := rfl
@[simp] theorem Part.modEng_mons (p : Part) (g : EngineCore → EngineCore) : (p.modEng g).mons = p.mons := rfl
@[simp] theorem Part.modEng_therm (p : Part) (g : EngineCore → EngineCore) : (p.modEng g).therm = p.therm := rfl
@[simp] theorem Part.modEng_nvm (p : Part) (g : EngineCore → EngineCore) : (p.modEng g).nvm = p.nvm := rfl
@[simp] theorem Part.modEng_hal (p : Part) (g : EngineCore → EngineCore) : (p.modEng g).hal = p.hal := rfl
@[simp] theorem Part.modEng_pair (p : Part) (g : EngineCore → EngineCore) : (p.modEng g).pair = p.pair := rfl
@[simp] theorem Part.modEng_pmb (p : Part) (g : EngineCore → EngineCore) : (p.modEng g).pmb = p.pmb := rfl
@[simp] theorem Part.modEng_avs (p : Part) (g : EngineCore → EngineCore) : (p.modEng g).avs = p.avs := rfl
@[simp] theorem Part.modEng_test (p : Part) (g : EngineCore → EngineCore) : (p.modEng g).test = p.test := rfl
@[simp] theorem Part.modEng_get (p : Part) (g : EngineCore → EngineCore) (f : Fld) (i j : Nat) : (p.modEng g).get f i j = p.get f i j := rfl
@[simp] theorem Part.modHk_regs (p : Part) (g : HkCore → HkCore) : (p.modHk g).regs = p.regs := rfl
@[simp] theorem Part.modHk_dev (p : Part) (g : HkCore → HkCore) : (p.modHk g).dev = p.dev := rfl
@[simp] theorem Part.modHk_supplies (p : Part) (g : HkCore → HkCore) : (p.modHk g).supplies = p.supplies := rfl
@[simp] theorem Part.modHk_hotLatch (p : Part) (g : HkCore → HkCore) : (p.modHk g).hotLatch = p.hotLatch := rfl
@[simp] theorem Part.modHk_pairHold (p : Part) (g : HkCore → HkCore) : (p.modHk g).pairHold = p.pairHold := rfl
@[simp] theorem Part.modHk_lossHold (p : Part) (g : HkCore → HkCore) : (p.modHk g).lossHold = p.lossHold := rfl
@[simp] theorem Part.modHk_tb (p : Part) (g : HkCore → HkCore) : (p.modHk g).tb = p.tb := rfl
@[simp] theorem Part.modHk_sub (p : Part) (g : HkCore → HkCore) : (p.modHk g).sub = p.sub := rfl
@[simp] theorem Part.modHk_tbFrac (p : Part) (g : HkCore → HkCore) : (p.modHk g).tbFrac = p.tbFrac := rfl
@[simp] theorem Part.modHk_aonCount (p : Part) (g : HkCore → HkCore) : (p.modHk g).aonCount = p.aonCount := rfl
@[simp] theorem Part.modHk_free (p : Part) (g : HkCore → HkCore) : (p.modHk g).free = p.free := rfl
@[simp] theorem Part.modHk_refusals (p : Part) (g : HkCore → HkCore) : (p.modHk g).refusals = p.refusals := rfl
@[simp] theorem Part.modHk_otpJob (p : Part) (g : HkCore → HkCore) : (p.modHk g).otpJob = p.otpJob := rfl
@[simp] theorem Part.modHk_load (p : Part) (g : HkCore → HkCore) : (p.modHk g).load = p.load := rfl
@[simp] theorem Part.modHk_parkReq (p : Part) (g : HkCore → HkCore) : (p.modHk g).parkReq = p.parkReq := rfl
@[simp] theorem Part.modHk_parkAt (p : Part) (g : HkCore → HkCore) : (p.modHk g).parkAt = p.parkAt := rfl
@[simp] theorem Part.modHk_parkCtx (p : Part) (g : HkCore → HkCore) : (p.modHk g).parkCtx = p.parkCtx := rfl
@[simp] theorem Part.modHk_wakes (p : Part) (g : HkCore → HkCore) : (p.modHk g).wakes = p.wakes := rfl
@[simp] theorem Part.modHk_sclHold (p : Part) (g : HkCore → HkCore) : (p.modHk g).sclHold = p.sclHold := rfl
@[simp] theorem Part.modHk_sclAt (p : Part) (g : HkCore → HkCore) : (p.modHk g).sclAt = p.sclAt := rfl
@[simp] theorem Part.modHk_pmbNack (p : Part) (g : HkCore → HkCore) : (p.modHk g).pmbNack = p.pmbNack := rfl
@[simp] theorem Part.modHk_clocksStopped (p : Part) (g : HkCore → HkCore) : (p.modHk g).clocksStopped = p.clocksStopped := rfl
@[simp] theorem Part.modHk_safeAt (p : Part) (g : HkCore → HkCore) : (p.modHk g).safeAt = p.safeAt := rfl
@[simp] theorem Part.modHk_vinAt (p : Part) (g : HkCore → HkCore) : (p.modHk g).vinAt = p.vinAt := rfl
@[simp] theorem Part.modHk_healthAt (p : Part) (g : HkCore → HkCore) : (p.modHk g).healthAt = p.healthAt := rfl
@[simp] theorem Part.modHk_thermAt (p : Part) (g : HkCore → HkCore) : (p.modHk g).thermAt = p.thermAt := rfl
@[simp] theorem Part.modHk_vinCodes (p : Part) (g : HkCore → HkCore) : (p.modHk g).vinCodes = p.vinCodes := rfl
@[simp] theorem Part.modHk_vinValues (p : Part) (g : HkCore → HkCore) : (p.modHk g).vinValues = p.vinValues := rfl
@[simp] theorem Part.modHk_lipLast (p : Part) (g : HkCore → HkCore) : (p.modHk g).lipLast = p.lipLast := rfl
@[simp] theorem Part.modHk_lipCap (p : Part) (g : HkCore → HkCore) : (p.modHk g).lipCap = p.lipCap := rfl
@[simp] theorem Part.modHk_thrMask (p : Part) (g : HkCore → HkCore) : (p.modHk g).thrMask = p.thrMask := rfl
@[simp] theorem Part.modHk_thrHold (p : Part) (g : HkCore → HkCore) : (p.modHk g).thrHold = p.thrHold := rfl
@[simp] theorem Part.modHk_feBad (p : Part) (g : HkCore → HkCore) : (p.modHk g).feBad = p.feBad := rfl
@[simp] theorem Part.modHk_rails (p : Part) (g : HkCore → HkCore) : (p.modHk g).rails = p.rails := rfl
@[simp] theorem Part.modHk_phases (p : Part) (g : HkCore → HkCore) : (p.modHk g).phases = p.phases := rfl
@[simp] theorem Part.modHk_slices (p : Part) (g : HkCore → HkCore) : (p.modHk g).slices = p.slices := rfl
@[simp] theorem Part.modHk_eng (p : Part) (g : HkCore → HkCore) : (p.modHk g).eng = p.eng := rfl
@[simp] theorem Part.modHk_hk (p : Part) (g : HkCore → HkCore) : (p.modHk g).hk = g p.hk := rfl
@[simp] theorem Part.modHk_mons (p : Part) (g : HkCore → HkCore) : (p.modHk g).mons = p.mons := rfl
@[simp] theorem Part.modHk_therm (p : Part) (g : HkCore → HkCore) : (p.modHk g).therm = p.therm := rfl
@[simp] theorem Part.modHk_nvm (p : Part) (g : HkCore → HkCore) : (p.modHk g).nvm = p.nvm := rfl
@[simp] theorem Part.modHk_hal (p : Part) (g : HkCore → HkCore) : (p.modHk g).hal = p.hal := rfl
@[simp] theorem Part.modHk_pair (p : Part) (g : HkCore → HkCore) : (p.modHk g).pair = p.pair := rfl
@[simp] theorem Part.modHk_pmb (p : Part) (g : HkCore → HkCore) : (p.modHk g).pmb = p.pmb := rfl
@[simp] theorem Part.modHk_avs (p : Part) (g : HkCore → HkCore) : (p.modHk g).avs = p.avs := rfl
@[simp] theorem Part.modHk_test (p : Part) (g : HkCore → HkCore) : (p.modHk g).test = p.test := rfl
@[simp] theorem Part.modHk_get (p : Part) (g : HkCore → HkCore) (f : Fld) (i j : Nat) : (p.modHk g).get f i j = p.get f i j := rfl
@[simp] theorem Part.modNvm_regs (p : Part) (g : NvmCore → NvmCore) : (p.modNvm g).regs = p.regs := rfl
@[simp] theorem Part.modNvm_dev (p : Part) (g : NvmCore → NvmCore) : (p.modNvm g).dev = p.dev := rfl
@[simp] theorem Part.modNvm_supplies (p : Part) (g : NvmCore → NvmCore) : (p.modNvm g).supplies = p.supplies := rfl
@[simp] theorem Part.modNvm_hotLatch (p : Part) (g : NvmCore → NvmCore) : (p.modNvm g).hotLatch = p.hotLatch := rfl
@[simp] theorem Part.modNvm_pairHold (p : Part) (g : NvmCore → NvmCore) : (p.modNvm g).pairHold = p.pairHold := rfl
@[simp] theorem Part.modNvm_lossHold (p : Part) (g : NvmCore → NvmCore) : (p.modNvm g).lossHold = p.lossHold := rfl
@[simp] theorem Part.modNvm_tb (p : Part) (g : NvmCore → NvmCore) : (p.modNvm g).tb = p.tb := rfl
@[simp] theorem Part.modNvm_sub (p : Part) (g : NvmCore → NvmCore) : (p.modNvm g).sub = p.sub := rfl
@[simp] theorem Part.modNvm_tbFrac (p : Part) (g : NvmCore → NvmCore) : (p.modNvm g).tbFrac = p.tbFrac := rfl
@[simp] theorem Part.modNvm_aonCount (p : Part) (g : NvmCore → NvmCore) : (p.modNvm g).aonCount = p.aonCount := rfl
@[simp] theorem Part.modNvm_free (p : Part) (g : NvmCore → NvmCore) : (p.modNvm g).free = p.free := rfl
@[simp] theorem Part.modNvm_refusals (p : Part) (g : NvmCore → NvmCore) : (p.modNvm g).refusals = p.refusals := rfl
@[simp] theorem Part.modNvm_otpJob (p : Part) (g : NvmCore → NvmCore) : (p.modNvm g).otpJob = p.otpJob := rfl
@[simp] theorem Part.modNvm_load (p : Part) (g : NvmCore → NvmCore) : (p.modNvm g).load = p.load := rfl
@[simp] theorem Part.modNvm_parkReq (p : Part) (g : NvmCore → NvmCore) : (p.modNvm g).parkReq = p.parkReq := rfl
@[simp] theorem Part.modNvm_parkAt (p : Part) (g : NvmCore → NvmCore) : (p.modNvm g).parkAt = p.parkAt := rfl
@[simp] theorem Part.modNvm_parkCtx (p : Part) (g : NvmCore → NvmCore) : (p.modNvm g).parkCtx = p.parkCtx := rfl
@[simp] theorem Part.modNvm_wakes (p : Part) (g : NvmCore → NvmCore) : (p.modNvm g).wakes = p.wakes := rfl
@[simp] theorem Part.modNvm_sclHold (p : Part) (g : NvmCore → NvmCore) : (p.modNvm g).sclHold = p.sclHold := rfl
@[simp] theorem Part.modNvm_sclAt (p : Part) (g : NvmCore → NvmCore) : (p.modNvm g).sclAt = p.sclAt := rfl
@[simp] theorem Part.modNvm_pmbNack (p : Part) (g : NvmCore → NvmCore) : (p.modNvm g).pmbNack = p.pmbNack := rfl
@[simp] theorem Part.modNvm_clocksStopped (p : Part) (g : NvmCore → NvmCore) : (p.modNvm g).clocksStopped = p.clocksStopped := rfl
@[simp] theorem Part.modNvm_safeAt (p : Part) (g : NvmCore → NvmCore) : (p.modNvm g).safeAt = p.safeAt := rfl
@[simp] theorem Part.modNvm_vinAt (p : Part) (g : NvmCore → NvmCore) : (p.modNvm g).vinAt = p.vinAt := rfl
@[simp] theorem Part.modNvm_healthAt (p : Part) (g : NvmCore → NvmCore) : (p.modNvm g).healthAt = p.healthAt := rfl
@[simp] theorem Part.modNvm_thermAt (p : Part) (g : NvmCore → NvmCore) : (p.modNvm g).thermAt = p.thermAt := rfl
@[simp] theorem Part.modNvm_vinCodes (p : Part) (g : NvmCore → NvmCore) : (p.modNvm g).vinCodes = p.vinCodes := rfl
@[simp] theorem Part.modNvm_vinValues (p : Part) (g : NvmCore → NvmCore) : (p.modNvm g).vinValues = p.vinValues := rfl
@[simp] theorem Part.modNvm_lipLast (p : Part) (g : NvmCore → NvmCore) : (p.modNvm g).lipLast = p.lipLast := rfl
@[simp] theorem Part.modNvm_lipCap (p : Part) (g : NvmCore → NvmCore) : (p.modNvm g).lipCap = p.lipCap := rfl
@[simp] theorem Part.modNvm_thrMask (p : Part) (g : NvmCore → NvmCore) : (p.modNvm g).thrMask = p.thrMask := rfl
@[simp] theorem Part.modNvm_thrHold (p : Part) (g : NvmCore → NvmCore) : (p.modNvm g).thrHold = p.thrHold := rfl
@[simp] theorem Part.modNvm_feBad (p : Part) (g : NvmCore → NvmCore) : (p.modNvm g).feBad = p.feBad := rfl
@[simp] theorem Part.modNvm_rails (p : Part) (g : NvmCore → NvmCore) : (p.modNvm g).rails = p.rails := rfl
@[simp] theorem Part.modNvm_phases (p : Part) (g : NvmCore → NvmCore) : (p.modNvm g).phases = p.phases := rfl
@[simp] theorem Part.modNvm_slices (p : Part) (g : NvmCore → NvmCore) : (p.modNvm g).slices = p.slices := rfl
@[simp] theorem Part.modNvm_eng (p : Part) (g : NvmCore → NvmCore) : (p.modNvm g).eng = p.eng := rfl
@[simp] theorem Part.modNvm_hk (p : Part) (g : NvmCore → NvmCore) : (p.modNvm g).hk = p.hk := rfl
@[simp] theorem Part.modNvm_mons (p : Part) (g : NvmCore → NvmCore) : (p.modNvm g).mons = p.mons := rfl
@[simp] theorem Part.modNvm_therm (p : Part) (g : NvmCore → NvmCore) : (p.modNvm g).therm = p.therm := rfl
@[simp] theorem Part.modNvm_nvm (p : Part) (g : NvmCore → NvmCore) : (p.modNvm g).nvm = g p.nvm := rfl
@[simp] theorem Part.modNvm_hal (p : Part) (g : NvmCore → NvmCore) : (p.modNvm g).hal = p.hal := rfl
@[simp] theorem Part.modNvm_pair (p : Part) (g : NvmCore → NvmCore) : (p.modNvm g).pair = p.pair := rfl
@[simp] theorem Part.modNvm_pmb (p : Part) (g : NvmCore → NvmCore) : (p.modNvm g).pmb = p.pmb := rfl
@[simp] theorem Part.modNvm_avs (p : Part) (g : NvmCore → NvmCore) : (p.modNvm g).avs = p.avs := rfl
@[simp] theorem Part.modNvm_test (p : Part) (g : NvmCore → NvmCore) : (p.modNvm g).test = p.test := rfl
@[simp] theorem Part.modNvm_get (p : Part) (g : NvmCore → NvmCore) (f : Fld) (i j : Nat) : (p.modNvm g).get f i j = p.get f i j := rfl
@[simp] theorem Part.modHal_regs (p : Part) (g : HalCore → HalCore) : (p.modHal g).regs = p.regs := rfl
@[simp] theorem Part.modHal_dev (p : Part) (g : HalCore → HalCore) : (p.modHal g).dev = p.dev := rfl
@[simp] theorem Part.modHal_supplies (p : Part) (g : HalCore → HalCore) : (p.modHal g).supplies = p.supplies := rfl
@[simp] theorem Part.modHal_hotLatch (p : Part) (g : HalCore → HalCore) : (p.modHal g).hotLatch = p.hotLatch := rfl
@[simp] theorem Part.modHal_pairHold (p : Part) (g : HalCore → HalCore) : (p.modHal g).pairHold = p.pairHold := rfl
@[simp] theorem Part.modHal_lossHold (p : Part) (g : HalCore → HalCore) : (p.modHal g).lossHold = p.lossHold := rfl
@[simp] theorem Part.modHal_tb (p : Part) (g : HalCore → HalCore) : (p.modHal g).tb = p.tb := rfl
@[simp] theorem Part.modHal_sub (p : Part) (g : HalCore → HalCore) : (p.modHal g).sub = p.sub := rfl
@[simp] theorem Part.modHal_tbFrac (p : Part) (g : HalCore → HalCore) : (p.modHal g).tbFrac = p.tbFrac := rfl
@[simp] theorem Part.modHal_aonCount (p : Part) (g : HalCore → HalCore) : (p.modHal g).aonCount = p.aonCount := rfl
@[simp] theorem Part.modHal_free (p : Part) (g : HalCore → HalCore) : (p.modHal g).free = p.free := rfl
@[simp] theorem Part.modHal_refusals (p : Part) (g : HalCore → HalCore) : (p.modHal g).refusals = p.refusals := rfl
@[simp] theorem Part.modHal_otpJob (p : Part) (g : HalCore → HalCore) : (p.modHal g).otpJob = p.otpJob := rfl
@[simp] theorem Part.modHal_load (p : Part) (g : HalCore → HalCore) : (p.modHal g).load = p.load := rfl
@[simp] theorem Part.modHal_parkReq (p : Part) (g : HalCore → HalCore) : (p.modHal g).parkReq = p.parkReq := rfl
@[simp] theorem Part.modHal_parkAt (p : Part) (g : HalCore → HalCore) : (p.modHal g).parkAt = p.parkAt := rfl
@[simp] theorem Part.modHal_parkCtx (p : Part) (g : HalCore → HalCore) : (p.modHal g).parkCtx = p.parkCtx := rfl
@[simp] theorem Part.modHal_wakes (p : Part) (g : HalCore → HalCore) : (p.modHal g).wakes = p.wakes := rfl
@[simp] theorem Part.modHal_sclHold (p : Part) (g : HalCore → HalCore) : (p.modHal g).sclHold = p.sclHold := rfl
@[simp] theorem Part.modHal_sclAt (p : Part) (g : HalCore → HalCore) : (p.modHal g).sclAt = p.sclAt := rfl
@[simp] theorem Part.modHal_pmbNack (p : Part) (g : HalCore → HalCore) : (p.modHal g).pmbNack = p.pmbNack := rfl
@[simp] theorem Part.modHal_clocksStopped (p : Part) (g : HalCore → HalCore) : (p.modHal g).clocksStopped = p.clocksStopped := rfl
@[simp] theorem Part.modHal_safeAt (p : Part) (g : HalCore → HalCore) : (p.modHal g).safeAt = p.safeAt := rfl
@[simp] theorem Part.modHal_vinAt (p : Part) (g : HalCore → HalCore) : (p.modHal g).vinAt = p.vinAt := rfl
@[simp] theorem Part.modHal_healthAt (p : Part) (g : HalCore → HalCore) : (p.modHal g).healthAt = p.healthAt := rfl
@[simp] theorem Part.modHal_thermAt (p : Part) (g : HalCore → HalCore) : (p.modHal g).thermAt = p.thermAt := rfl
@[simp] theorem Part.modHal_vinCodes (p : Part) (g : HalCore → HalCore) : (p.modHal g).vinCodes = p.vinCodes := rfl
@[simp] theorem Part.modHal_vinValues (p : Part) (g : HalCore → HalCore) : (p.modHal g).vinValues = p.vinValues := rfl
@[simp] theorem Part.modHal_lipLast (p : Part) (g : HalCore → HalCore) : (p.modHal g).lipLast = p.lipLast := rfl
@[simp] theorem Part.modHal_lipCap (p : Part) (g : HalCore → HalCore) : (p.modHal g).lipCap = p.lipCap := rfl
@[simp] theorem Part.modHal_thrMask (p : Part) (g : HalCore → HalCore) : (p.modHal g).thrMask = p.thrMask := rfl
@[simp] theorem Part.modHal_thrHold (p : Part) (g : HalCore → HalCore) : (p.modHal g).thrHold = p.thrHold := rfl
@[simp] theorem Part.modHal_feBad (p : Part) (g : HalCore → HalCore) : (p.modHal g).feBad = p.feBad := rfl
@[simp] theorem Part.modHal_rails (p : Part) (g : HalCore → HalCore) : (p.modHal g).rails = p.rails := rfl
@[simp] theorem Part.modHal_phases (p : Part) (g : HalCore → HalCore) : (p.modHal g).phases = p.phases := rfl
@[simp] theorem Part.modHal_slices (p : Part) (g : HalCore → HalCore) : (p.modHal g).slices = p.slices := rfl
@[simp] theorem Part.modHal_eng (p : Part) (g : HalCore → HalCore) : (p.modHal g).eng = p.eng := rfl
@[simp] theorem Part.modHal_hk (p : Part) (g : HalCore → HalCore) : (p.modHal g).hk = p.hk := rfl
@[simp] theorem Part.modHal_mons (p : Part) (g : HalCore → HalCore) : (p.modHal g).mons = p.mons := rfl
@[simp] theorem Part.modHal_therm (p : Part) (g : HalCore → HalCore) : (p.modHal g).therm = p.therm := rfl
@[simp] theorem Part.modHal_nvm (p : Part) (g : HalCore → HalCore) : (p.modHal g).nvm = p.nvm := rfl
@[simp] theorem Part.modHal_hal (p : Part) (g : HalCore → HalCore) : (p.modHal g).hal = g p.hal := rfl
@[simp] theorem Part.modHal_pair (p : Part) (g : HalCore → HalCore) : (p.modHal g).pair = p.pair := rfl
@[simp] theorem Part.modHal_pmb (p : Part) (g : HalCore → HalCore) : (p.modHal g).pmb = p.pmb := rfl
@[simp] theorem Part.modHal_avs (p : Part) (g : HalCore → HalCore) : (p.modHal g).avs = p.avs := rfl
@[simp] theorem Part.modHal_test (p : Part) (g : HalCore → HalCore) : (p.modHal g).test = p.test := rfl
@[simp] theorem Part.modHal_get (p : Part) (g : HalCore → HalCore) (f : Fld) (i j : Nat) : (p.modHal g).get f i j = p.get f i j := rfl
@[simp] theorem Part.modPair_regs (p : Part) (g : PairCore → PairCore) : (p.modPair g).regs = p.regs := rfl
@[simp] theorem Part.modPair_dev (p : Part) (g : PairCore → PairCore) : (p.modPair g).dev = p.dev := rfl
@[simp] theorem Part.modPair_supplies (p : Part) (g : PairCore → PairCore) : (p.modPair g).supplies = p.supplies := rfl
@[simp] theorem Part.modPair_hotLatch (p : Part) (g : PairCore → PairCore) : (p.modPair g).hotLatch = p.hotLatch := rfl
@[simp] theorem Part.modPair_pairHold (p : Part) (g : PairCore → PairCore) : (p.modPair g).pairHold = p.pairHold := rfl
@[simp] theorem Part.modPair_lossHold (p : Part) (g : PairCore → PairCore) : (p.modPair g).lossHold = p.lossHold := rfl
@[simp] theorem Part.modPair_tb (p : Part) (g : PairCore → PairCore) : (p.modPair g).tb = p.tb := rfl
@[simp] theorem Part.modPair_sub (p : Part) (g : PairCore → PairCore) : (p.modPair g).sub = p.sub := rfl
@[simp] theorem Part.modPair_tbFrac (p : Part) (g : PairCore → PairCore) : (p.modPair g).tbFrac = p.tbFrac := rfl
@[simp] theorem Part.modPair_aonCount (p : Part) (g : PairCore → PairCore) : (p.modPair g).aonCount = p.aonCount := rfl
@[simp] theorem Part.modPair_free (p : Part) (g : PairCore → PairCore) : (p.modPair g).free = p.free := rfl
@[simp] theorem Part.modPair_refusals (p : Part) (g : PairCore → PairCore) : (p.modPair g).refusals = p.refusals := rfl
@[simp] theorem Part.modPair_otpJob (p : Part) (g : PairCore → PairCore) : (p.modPair g).otpJob = p.otpJob := rfl
@[simp] theorem Part.modPair_load (p : Part) (g : PairCore → PairCore) : (p.modPair g).load = p.load := rfl
@[simp] theorem Part.modPair_parkReq (p : Part) (g : PairCore → PairCore) : (p.modPair g).parkReq = p.parkReq := rfl
@[simp] theorem Part.modPair_parkAt (p : Part) (g : PairCore → PairCore) : (p.modPair g).parkAt = p.parkAt := rfl
@[simp] theorem Part.modPair_parkCtx (p : Part) (g : PairCore → PairCore) : (p.modPair g).parkCtx = p.parkCtx := rfl
@[simp] theorem Part.modPair_wakes (p : Part) (g : PairCore → PairCore) : (p.modPair g).wakes = p.wakes := rfl
@[simp] theorem Part.modPair_sclHold (p : Part) (g : PairCore → PairCore) : (p.modPair g).sclHold = p.sclHold := rfl
@[simp] theorem Part.modPair_sclAt (p : Part) (g : PairCore → PairCore) : (p.modPair g).sclAt = p.sclAt := rfl
@[simp] theorem Part.modPair_pmbNack (p : Part) (g : PairCore → PairCore) : (p.modPair g).pmbNack = p.pmbNack := rfl
@[simp] theorem Part.modPair_clocksStopped (p : Part) (g : PairCore → PairCore) : (p.modPair g).clocksStopped = p.clocksStopped := rfl
@[simp] theorem Part.modPair_safeAt (p : Part) (g : PairCore → PairCore) : (p.modPair g).safeAt = p.safeAt := rfl
@[simp] theorem Part.modPair_vinAt (p : Part) (g : PairCore → PairCore) : (p.modPair g).vinAt = p.vinAt := rfl
@[simp] theorem Part.modPair_healthAt (p : Part) (g : PairCore → PairCore) : (p.modPair g).healthAt = p.healthAt := rfl
@[simp] theorem Part.modPair_thermAt (p : Part) (g : PairCore → PairCore) : (p.modPair g).thermAt = p.thermAt := rfl
@[simp] theorem Part.modPair_vinCodes (p : Part) (g : PairCore → PairCore) : (p.modPair g).vinCodes = p.vinCodes := rfl
@[simp] theorem Part.modPair_vinValues (p : Part) (g : PairCore → PairCore) : (p.modPair g).vinValues = p.vinValues := rfl
@[simp] theorem Part.modPair_lipLast (p : Part) (g : PairCore → PairCore) : (p.modPair g).lipLast = p.lipLast := rfl
@[simp] theorem Part.modPair_lipCap (p : Part) (g : PairCore → PairCore) : (p.modPair g).lipCap = p.lipCap := rfl
@[simp] theorem Part.modPair_thrMask (p : Part) (g : PairCore → PairCore) : (p.modPair g).thrMask = p.thrMask := rfl
@[simp] theorem Part.modPair_thrHold (p : Part) (g : PairCore → PairCore) : (p.modPair g).thrHold = p.thrHold := rfl
@[simp] theorem Part.modPair_feBad (p : Part) (g : PairCore → PairCore) : (p.modPair g).feBad = p.feBad := rfl
@[simp] theorem Part.modPair_rails (p : Part) (g : PairCore → PairCore) : (p.modPair g).rails = p.rails := rfl
@[simp] theorem Part.modPair_phases (p : Part) (g : PairCore → PairCore) : (p.modPair g).phases = p.phases := rfl
@[simp] theorem Part.modPair_slices (p : Part) (g : PairCore → PairCore) : (p.modPair g).slices = p.slices := rfl
@[simp] theorem Part.modPair_eng (p : Part) (g : PairCore → PairCore) : (p.modPair g).eng = p.eng := rfl
@[simp] theorem Part.modPair_hk (p : Part) (g : PairCore → PairCore) : (p.modPair g).hk = p.hk := rfl
@[simp] theorem Part.modPair_mons (p : Part) (g : PairCore → PairCore) : (p.modPair g).mons = p.mons := rfl
@[simp] theorem Part.modPair_therm (p : Part) (g : PairCore → PairCore) : (p.modPair g).therm = p.therm := rfl
@[simp] theorem Part.modPair_nvm (p : Part) (g : PairCore → PairCore) : (p.modPair g).nvm = p.nvm := rfl
@[simp] theorem Part.modPair_hal (p : Part) (g : PairCore → PairCore) : (p.modPair g).hal = p.hal := rfl
@[simp] theorem Part.modPair_pair (p : Part) (g : PairCore → PairCore) : (p.modPair g).pair = g p.pair := rfl
@[simp] theorem Part.modPair_pmb (p : Part) (g : PairCore → PairCore) : (p.modPair g).pmb = p.pmb := rfl
@[simp] theorem Part.modPair_avs (p : Part) (g : PairCore → PairCore) : (p.modPair g).avs = p.avs := rfl
@[simp] theorem Part.modPair_test (p : Part) (g : PairCore → PairCore) : (p.modPair g).test = p.test := rfl
@[simp] theorem Part.modPair_get (p : Part) (g : PairCore → PairCore) (f : Fld) (i j : Nat) : (p.modPair g).get f i j = p.get f i j := rfl
@[simp] theorem Part.modPmb_regs (p : Part) (g : PmbCore → PmbCore) : (p.modPmb g).regs = p.regs := rfl
@[simp] theorem Part.modPmb_dev (p : Part) (g : PmbCore → PmbCore) : (p.modPmb g).dev = p.dev := rfl
@[simp] theorem Part.modPmb_supplies (p : Part) (g : PmbCore → PmbCore) : (p.modPmb g).supplies = p.supplies := rfl
@[simp] theorem Part.modPmb_hotLatch (p : Part) (g : PmbCore → PmbCore) : (p.modPmb g).hotLatch = p.hotLatch := rfl
@[simp] theorem Part.modPmb_pairHold (p : Part) (g : PmbCore → PmbCore) : (p.modPmb g).pairHold = p.pairHold := rfl
@[simp] theorem Part.modPmb_lossHold (p : Part) (g : PmbCore → PmbCore) : (p.modPmb g).lossHold = p.lossHold := rfl
@[simp] theorem Part.modPmb_tb (p : Part) (g : PmbCore → PmbCore) : (p.modPmb g).tb = p.tb := rfl
@[simp] theorem Part.modPmb_sub (p : Part) (g : PmbCore → PmbCore) : (p.modPmb g).sub = p.sub := rfl
@[simp] theorem Part.modPmb_tbFrac (p : Part) (g : PmbCore → PmbCore) : (p.modPmb g).tbFrac = p.tbFrac := rfl
@[simp] theorem Part.modPmb_aonCount (p : Part) (g : PmbCore → PmbCore) : (p.modPmb g).aonCount = p.aonCount := rfl
@[simp] theorem Part.modPmb_free (p : Part) (g : PmbCore → PmbCore) : (p.modPmb g).free = p.free := rfl
@[simp] theorem Part.modPmb_refusals (p : Part) (g : PmbCore → PmbCore) : (p.modPmb g).refusals = p.refusals := rfl
@[simp] theorem Part.modPmb_otpJob (p : Part) (g : PmbCore → PmbCore) : (p.modPmb g).otpJob = p.otpJob := rfl
@[simp] theorem Part.modPmb_load (p : Part) (g : PmbCore → PmbCore) : (p.modPmb g).load = p.load := rfl
@[simp] theorem Part.modPmb_parkReq (p : Part) (g : PmbCore → PmbCore) : (p.modPmb g).parkReq = p.parkReq := rfl
@[simp] theorem Part.modPmb_parkAt (p : Part) (g : PmbCore → PmbCore) : (p.modPmb g).parkAt = p.parkAt := rfl
@[simp] theorem Part.modPmb_parkCtx (p : Part) (g : PmbCore → PmbCore) : (p.modPmb g).parkCtx = p.parkCtx := rfl
@[simp] theorem Part.modPmb_wakes (p : Part) (g : PmbCore → PmbCore) : (p.modPmb g).wakes = p.wakes := rfl
@[simp] theorem Part.modPmb_sclHold (p : Part) (g : PmbCore → PmbCore) : (p.modPmb g).sclHold = p.sclHold := rfl
@[simp] theorem Part.modPmb_sclAt (p : Part) (g : PmbCore → PmbCore) : (p.modPmb g).sclAt = p.sclAt := rfl
@[simp] theorem Part.modPmb_pmbNack (p : Part) (g : PmbCore → PmbCore) : (p.modPmb g).pmbNack = p.pmbNack := rfl
@[simp] theorem Part.modPmb_clocksStopped (p : Part) (g : PmbCore → PmbCore) : (p.modPmb g).clocksStopped = p.clocksStopped := rfl
@[simp] theorem Part.modPmb_safeAt (p : Part) (g : PmbCore → PmbCore) : (p.modPmb g).safeAt = p.safeAt := rfl
@[simp] theorem Part.modPmb_vinAt (p : Part) (g : PmbCore → PmbCore) : (p.modPmb g).vinAt = p.vinAt := rfl
@[simp] theorem Part.modPmb_healthAt (p : Part) (g : PmbCore → PmbCore) : (p.modPmb g).healthAt = p.healthAt := rfl
@[simp] theorem Part.modPmb_thermAt (p : Part) (g : PmbCore → PmbCore) : (p.modPmb g).thermAt = p.thermAt := rfl
@[simp] theorem Part.modPmb_vinCodes (p : Part) (g : PmbCore → PmbCore) : (p.modPmb g).vinCodes = p.vinCodes := rfl
@[simp] theorem Part.modPmb_vinValues (p : Part) (g : PmbCore → PmbCore) : (p.modPmb g).vinValues = p.vinValues := rfl
@[simp] theorem Part.modPmb_lipLast (p : Part) (g : PmbCore → PmbCore) : (p.modPmb g).lipLast = p.lipLast := rfl
@[simp] theorem Part.modPmb_lipCap (p : Part) (g : PmbCore → PmbCore) : (p.modPmb g).lipCap = p.lipCap := rfl
@[simp] theorem Part.modPmb_thrMask (p : Part) (g : PmbCore → PmbCore) : (p.modPmb g).thrMask = p.thrMask := rfl
@[simp] theorem Part.modPmb_thrHold (p : Part) (g : PmbCore → PmbCore) : (p.modPmb g).thrHold = p.thrHold := rfl
@[simp] theorem Part.modPmb_feBad (p : Part) (g : PmbCore → PmbCore) : (p.modPmb g).feBad = p.feBad := rfl
@[simp] theorem Part.modPmb_rails (p : Part) (g : PmbCore → PmbCore) : (p.modPmb g).rails = p.rails := rfl
@[simp] theorem Part.modPmb_phases (p : Part) (g : PmbCore → PmbCore) : (p.modPmb g).phases = p.phases := rfl
@[simp] theorem Part.modPmb_slices (p : Part) (g : PmbCore → PmbCore) : (p.modPmb g).slices = p.slices := rfl
@[simp] theorem Part.modPmb_eng (p : Part) (g : PmbCore → PmbCore) : (p.modPmb g).eng = p.eng := rfl
@[simp] theorem Part.modPmb_hk (p : Part) (g : PmbCore → PmbCore) : (p.modPmb g).hk = p.hk := rfl
@[simp] theorem Part.modPmb_mons (p : Part) (g : PmbCore → PmbCore) : (p.modPmb g).mons = p.mons := rfl
@[simp] theorem Part.modPmb_therm (p : Part) (g : PmbCore → PmbCore) : (p.modPmb g).therm = p.therm := rfl
@[simp] theorem Part.modPmb_nvm (p : Part) (g : PmbCore → PmbCore) : (p.modPmb g).nvm = p.nvm := rfl
@[simp] theorem Part.modPmb_hal (p : Part) (g : PmbCore → PmbCore) : (p.modPmb g).hal = p.hal := rfl
@[simp] theorem Part.modPmb_pair (p : Part) (g : PmbCore → PmbCore) : (p.modPmb g).pair = p.pair := rfl
@[simp] theorem Part.modPmb_pmb (p : Part) (g : PmbCore → PmbCore) : (p.modPmb g).pmb = g p.pmb := rfl
@[simp] theorem Part.modPmb_avs (p : Part) (g : PmbCore → PmbCore) : (p.modPmb g).avs = p.avs := rfl
@[simp] theorem Part.modPmb_test (p : Part) (g : PmbCore → PmbCore) : (p.modPmb g).test = p.test := rfl
@[simp] theorem Part.modPmb_get (p : Part) (g : PmbCore → PmbCore) (f : Fld) (i j : Nat) : (p.modPmb g).get f i j = p.get f i j := rfl
@[simp] theorem Part.modAvs_regs (p : Part) (g : AvsCore → AvsCore) : (p.modAvs g).regs = p.regs := rfl
@[simp] theorem Part.modAvs_dev (p : Part) (g : AvsCore → AvsCore) : (p.modAvs g).dev = p.dev := rfl
@[simp] theorem Part.modAvs_supplies (p : Part) (g : AvsCore → AvsCore) : (p.modAvs g).supplies = p.supplies := rfl
@[simp] theorem Part.modAvs_hotLatch (p : Part) (g : AvsCore → AvsCore) : (p.modAvs g).hotLatch = p.hotLatch := rfl
@[simp] theorem Part.modAvs_pairHold (p : Part) (g : AvsCore → AvsCore) : (p.modAvs g).pairHold = p.pairHold := rfl
@[simp] theorem Part.modAvs_lossHold (p : Part) (g : AvsCore → AvsCore) : (p.modAvs g).lossHold = p.lossHold := rfl
@[simp] theorem Part.modAvs_tb (p : Part) (g : AvsCore → AvsCore) : (p.modAvs g).tb = p.tb := rfl
@[simp] theorem Part.modAvs_sub (p : Part) (g : AvsCore → AvsCore) : (p.modAvs g).sub = p.sub := rfl
@[simp] theorem Part.modAvs_tbFrac (p : Part) (g : AvsCore → AvsCore) : (p.modAvs g).tbFrac = p.tbFrac := rfl
@[simp] theorem Part.modAvs_aonCount (p : Part) (g : AvsCore → AvsCore) : (p.modAvs g).aonCount = p.aonCount := rfl
@[simp] theorem Part.modAvs_free (p : Part) (g : AvsCore → AvsCore) : (p.modAvs g).free = p.free := rfl
@[simp] theorem Part.modAvs_refusals (p : Part) (g : AvsCore → AvsCore) : (p.modAvs g).refusals = p.refusals := rfl
@[simp] theorem Part.modAvs_otpJob (p : Part) (g : AvsCore → AvsCore) : (p.modAvs g).otpJob = p.otpJob := rfl
@[simp] theorem Part.modAvs_load (p : Part) (g : AvsCore → AvsCore) : (p.modAvs g).load = p.load := rfl
@[simp] theorem Part.modAvs_parkReq (p : Part) (g : AvsCore → AvsCore) : (p.modAvs g).parkReq = p.parkReq := rfl
@[simp] theorem Part.modAvs_parkAt (p : Part) (g : AvsCore → AvsCore) : (p.modAvs g).parkAt = p.parkAt := rfl
@[simp] theorem Part.modAvs_parkCtx (p : Part) (g : AvsCore → AvsCore) : (p.modAvs g).parkCtx = p.parkCtx := rfl
@[simp] theorem Part.modAvs_wakes (p : Part) (g : AvsCore → AvsCore) : (p.modAvs g).wakes = p.wakes := rfl
@[simp] theorem Part.modAvs_sclHold (p : Part) (g : AvsCore → AvsCore) : (p.modAvs g).sclHold = p.sclHold := rfl
@[simp] theorem Part.modAvs_sclAt (p : Part) (g : AvsCore → AvsCore) : (p.modAvs g).sclAt = p.sclAt := rfl
@[simp] theorem Part.modAvs_pmbNack (p : Part) (g : AvsCore → AvsCore) : (p.modAvs g).pmbNack = p.pmbNack := rfl
@[simp] theorem Part.modAvs_clocksStopped (p : Part) (g : AvsCore → AvsCore) : (p.modAvs g).clocksStopped = p.clocksStopped := rfl
@[simp] theorem Part.modAvs_safeAt (p : Part) (g : AvsCore → AvsCore) : (p.modAvs g).safeAt = p.safeAt := rfl
@[simp] theorem Part.modAvs_vinAt (p : Part) (g : AvsCore → AvsCore) : (p.modAvs g).vinAt = p.vinAt := rfl
@[simp] theorem Part.modAvs_healthAt (p : Part) (g : AvsCore → AvsCore) : (p.modAvs g).healthAt = p.healthAt := rfl
@[simp] theorem Part.modAvs_thermAt (p : Part) (g : AvsCore → AvsCore) : (p.modAvs g).thermAt = p.thermAt := rfl
@[simp] theorem Part.modAvs_vinCodes (p : Part) (g : AvsCore → AvsCore) : (p.modAvs g).vinCodes = p.vinCodes := rfl
@[simp] theorem Part.modAvs_vinValues (p : Part) (g : AvsCore → AvsCore) : (p.modAvs g).vinValues = p.vinValues := rfl
@[simp] theorem Part.modAvs_lipLast (p : Part) (g : AvsCore → AvsCore) : (p.modAvs g).lipLast = p.lipLast := rfl
@[simp] theorem Part.modAvs_lipCap (p : Part) (g : AvsCore → AvsCore) : (p.modAvs g).lipCap = p.lipCap := rfl
@[simp] theorem Part.modAvs_thrMask (p : Part) (g : AvsCore → AvsCore) : (p.modAvs g).thrMask = p.thrMask := rfl
@[simp] theorem Part.modAvs_thrHold (p : Part) (g : AvsCore → AvsCore) : (p.modAvs g).thrHold = p.thrHold := rfl
@[simp] theorem Part.modAvs_feBad (p : Part) (g : AvsCore → AvsCore) : (p.modAvs g).feBad = p.feBad := rfl
@[simp] theorem Part.modAvs_rails (p : Part) (g : AvsCore → AvsCore) : (p.modAvs g).rails = p.rails := rfl
@[simp] theorem Part.modAvs_phases (p : Part) (g : AvsCore → AvsCore) : (p.modAvs g).phases = p.phases := rfl
@[simp] theorem Part.modAvs_slices (p : Part) (g : AvsCore → AvsCore) : (p.modAvs g).slices = p.slices := rfl
@[simp] theorem Part.modAvs_eng (p : Part) (g : AvsCore → AvsCore) : (p.modAvs g).eng = p.eng := rfl
@[simp] theorem Part.modAvs_hk (p : Part) (g : AvsCore → AvsCore) : (p.modAvs g).hk = p.hk := rfl
@[simp] theorem Part.modAvs_mons (p : Part) (g : AvsCore → AvsCore) : (p.modAvs g).mons = p.mons := rfl
@[simp] theorem Part.modAvs_therm (p : Part) (g : AvsCore → AvsCore) : (p.modAvs g).therm = p.therm := rfl
@[simp] theorem Part.modAvs_nvm (p : Part) (g : AvsCore → AvsCore) : (p.modAvs g).nvm = p.nvm := rfl
@[simp] theorem Part.modAvs_hal (p : Part) (g : AvsCore → AvsCore) : (p.modAvs g).hal = p.hal := rfl
@[simp] theorem Part.modAvs_pair (p : Part) (g : AvsCore → AvsCore) : (p.modAvs g).pair = p.pair := rfl
@[simp] theorem Part.modAvs_pmb (p : Part) (g : AvsCore → AvsCore) : (p.modAvs g).pmb = p.pmb := rfl
@[simp] theorem Part.modAvs_avs (p : Part) (g : AvsCore → AvsCore) : (p.modAvs g).avs = g p.avs := rfl
@[simp] theorem Part.modAvs_test (p : Part) (g : AvsCore → AvsCore) : (p.modAvs g).test = p.test := rfl
@[simp] theorem Part.modAvs_get (p : Part) (g : AvsCore → AvsCore) (f : Fld) (i j : Nat) : (p.modAvs g).get f i j = p.get f i j := rfl
@[simp] theorem Part.modTest_regs (p : Part) (g : TestCore → TestCore) : (p.modTest g).regs = p.regs := rfl
@[simp] theorem Part.modTest_dev (p : Part) (g : TestCore → TestCore) : (p.modTest g).dev = p.dev := rfl
@[simp] theorem Part.modTest_supplies (p : Part) (g : TestCore → TestCore) : (p.modTest g).supplies = p.supplies := rfl
@[simp] theorem Part.modTest_hotLatch (p : Part) (g : TestCore → TestCore) : (p.modTest g).hotLatch = p.hotLatch := rfl
@[simp] theorem Part.modTest_pairHold (p : Part) (g : TestCore → TestCore) : (p.modTest g).pairHold = p.pairHold := rfl
@[simp] theorem Part.modTest_lossHold (p : Part) (g : TestCore → TestCore) : (p.modTest g).lossHold = p.lossHold := rfl
@[simp] theorem Part.modTest_tb (p : Part) (g : TestCore → TestCore) : (p.modTest g).tb = p.tb := rfl
@[simp] theorem Part.modTest_sub (p : Part) (g : TestCore → TestCore) : (p.modTest g).sub = p.sub := rfl
@[simp] theorem Part.modTest_tbFrac (p : Part) (g : TestCore → TestCore) : (p.modTest g).tbFrac = p.tbFrac := rfl
@[simp] theorem Part.modTest_aonCount (p : Part) (g : TestCore → TestCore) : (p.modTest g).aonCount = p.aonCount := rfl
@[simp] theorem Part.modTest_free (p : Part) (g : TestCore → TestCore) : (p.modTest g).free = p.free := rfl
@[simp] theorem Part.modTest_refusals (p : Part) (g : TestCore → TestCore) : (p.modTest g).refusals = p.refusals := rfl
@[simp] theorem Part.modTest_otpJob (p : Part) (g : TestCore → TestCore) : (p.modTest g).otpJob = p.otpJob := rfl
@[simp] theorem Part.modTest_load (p : Part) (g : TestCore → TestCore) : (p.modTest g).load = p.load := rfl
@[simp] theorem Part.modTest_parkReq (p : Part) (g : TestCore → TestCore) : (p.modTest g).parkReq = p.parkReq := rfl
@[simp] theorem Part.modTest_parkAt (p : Part) (g : TestCore → TestCore) : (p.modTest g).parkAt = p.parkAt := rfl
@[simp] theorem Part.modTest_parkCtx (p : Part) (g : TestCore → TestCore) : (p.modTest g).parkCtx = p.parkCtx := rfl
@[simp] theorem Part.modTest_wakes (p : Part) (g : TestCore → TestCore) : (p.modTest g).wakes = p.wakes := rfl
@[simp] theorem Part.modTest_sclHold (p : Part) (g : TestCore → TestCore) : (p.modTest g).sclHold = p.sclHold := rfl
@[simp] theorem Part.modTest_sclAt (p : Part) (g : TestCore → TestCore) : (p.modTest g).sclAt = p.sclAt := rfl
@[simp] theorem Part.modTest_pmbNack (p : Part) (g : TestCore → TestCore) : (p.modTest g).pmbNack = p.pmbNack := rfl
@[simp] theorem Part.modTest_clocksStopped (p : Part) (g : TestCore → TestCore) : (p.modTest g).clocksStopped = p.clocksStopped := rfl
@[simp] theorem Part.modTest_safeAt (p : Part) (g : TestCore → TestCore) : (p.modTest g).safeAt = p.safeAt := rfl
@[simp] theorem Part.modTest_vinAt (p : Part) (g : TestCore → TestCore) : (p.modTest g).vinAt = p.vinAt := rfl
@[simp] theorem Part.modTest_healthAt (p : Part) (g : TestCore → TestCore) : (p.modTest g).healthAt = p.healthAt := rfl
@[simp] theorem Part.modTest_thermAt (p : Part) (g : TestCore → TestCore) : (p.modTest g).thermAt = p.thermAt := rfl
@[simp] theorem Part.modTest_vinCodes (p : Part) (g : TestCore → TestCore) : (p.modTest g).vinCodes = p.vinCodes := rfl
@[simp] theorem Part.modTest_vinValues (p : Part) (g : TestCore → TestCore) : (p.modTest g).vinValues = p.vinValues := rfl
@[simp] theorem Part.modTest_lipLast (p : Part) (g : TestCore → TestCore) : (p.modTest g).lipLast = p.lipLast := rfl
@[simp] theorem Part.modTest_lipCap (p : Part) (g : TestCore → TestCore) : (p.modTest g).lipCap = p.lipCap := rfl
@[simp] theorem Part.modTest_thrMask (p : Part) (g : TestCore → TestCore) : (p.modTest g).thrMask = p.thrMask := rfl
@[simp] theorem Part.modTest_thrHold (p : Part) (g : TestCore → TestCore) : (p.modTest g).thrHold = p.thrHold := rfl
@[simp] theorem Part.modTest_feBad (p : Part) (g : TestCore → TestCore) : (p.modTest g).feBad = p.feBad := rfl
@[simp] theorem Part.modTest_rails (p : Part) (g : TestCore → TestCore) : (p.modTest g).rails = p.rails := rfl
@[simp] theorem Part.modTest_phases (p : Part) (g : TestCore → TestCore) : (p.modTest g).phases = p.phases := rfl
@[simp] theorem Part.modTest_slices (p : Part) (g : TestCore → TestCore) : (p.modTest g).slices = p.slices := rfl
@[simp] theorem Part.modTest_eng (p : Part) (g : TestCore → TestCore) : (p.modTest g).eng = p.eng := rfl
@[simp] theorem Part.modTest_hk (p : Part) (g : TestCore → TestCore) : (p.modTest g).hk = p.hk := rfl
@[simp] theorem Part.modTest_mons (p : Part) (g : TestCore → TestCore) : (p.modTest g).mons = p.mons := rfl
@[simp] theorem Part.modTest_therm (p : Part) (g : TestCore → TestCore) : (p.modTest g).therm = p.therm := rfl
@[simp] theorem Part.modTest_nvm (p : Part) (g : TestCore → TestCore) : (p.modTest g).nvm = p.nvm := rfl
@[simp] theorem Part.modTest_hal (p : Part) (g : TestCore → TestCore) : (p.modTest g).hal = p.hal := rfl
@[simp] theorem Part.modTest_pair (p : Part) (g : TestCore → TestCore) : (p.modTest g).pair = p.pair := rfl
@[simp] theorem Part.modTest_pmb (p : Part) (g : TestCore → TestCore) : (p.modTest g).pmb = p.pmb := rfl
@[simp] theorem Part.modTest_avs (p : Part) (g : TestCore → TestCore) : (p.modTest g).avs = p.avs := rfl
@[simp] theorem Part.modTest_test (p : Part) (g : TestCore → TestCore) : (p.modTest g).test = g p.test := rfl
@[simp] theorem Part.modTest_get (p : Part) (g : TestCore → TestCore) (f : Fld) (i j : Nat) : (p.modTest g).get f i j = p.get f i j := rfl
@[simp] theorem Part.tick_regs (p : Part) : (p.tick).regs = p.regs := rfl
@[simp] theorem Part.tick_dev (p : Part) : (p.tick).dev = p.dev := rfl
@[simp] theorem Part.tick_supplies (p : Part) : (p.tick).supplies = p.supplies := rfl
@[simp] theorem Part.tick_hotLatch (p : Part) : (p.tick).hotLatch = p.hotLatch := rfl
@[simp] theorem Part.tick_pairHold (p : Part) : (p.tick).pairHold = p.pairHold := rfl
@[simp] theorem Part.tick_lossHold (p : Part) : (p.tick).lossHold = p.lossHold := rfl
@[simp] theorem Part.tick_tb (p : Part) : (p.tick).tb = p.tb := rfl
@[simp] theorem Part.tick_sub (p : Part) : (p.tick).sub = p.sub := rfl
@[simp] theorem Part.tick_tbFrac (p : Part) : (p.tick).tbFrac = p.tbFrac := rfl
@[simp] theorem Part.tick_aonCount (p : Part) : (p.tick).aonCount = p.aonCount := rfl
@[simp] theorem Part.tick_free (p : Part) : (p.tick).free = p.free + 1 := rfl
@[simp] theorem Part.tick_refusals (p : Part) : (p.tick).refusals = p.refusals := rfl
@[simp] theorem Part.tick_otpJob (p : Part) : (p.tick).otpJob = p.otpJob := rfl
@[simp] theorem Part.tick_load (p : Part) : (p.tick).load = p.load := rfl
@[simp] theorem Part.tick_parkReq (p : Part) : (p.tick).parkReq = p.parkReq := rfl
@[simp] theorem Part.tick_parkAt (p : Part) : (p.tick).parkAt = p.parkAt := rfl
@[simp] theorem Part.tick_parkCtx (p : Part) : (p.tick).parkCtx = p.parkCtx := rfl
@[simp] theorem Part.tick_wakes (p : Part) : (p.tick).wakes = p.wakes := rfl
@[simp] theorem Part.tick_sclHold (p : Part) : (p.tick).sclHold = p.sclHold := rfl
@[simp] theorem Part.tick_sclAt (p : Part) : (p.tick).sclAt = p.sclAt := rfl
@[simp] theorem Part.tick_pmbNack (p : Part) : (p.tick).pmbNack = p.pmbNack := rfl
@[simp] theorem Part.tick_clocksStopped (p : Part) : (p.tick).clocksStopped = p.clocksStopped := rfl
@[simp] theorem Part.tick_safeAt (p : Part) : (p.tick).safeAt = p.safeAt := rfl
@[simp] theorem Part.tick_vinAt (p : Part) : (p.tick).vinAt = p.vinAt := rfl
@[simp] theorem Part.tick_healthAt (p : Part) : (p.tick).healthAt = p.healthAt := rfl
@[simp] theorem Part.tick_thermAt (p : Part) : (p.tick).thermAt = p.thermAt := rfl
@[simp] theorem Part.tick_vinCodes (p : Part) : (p.tick).vinCodes = p.vinCodes := rfl
@[simp] theorem Part.tick_vinValues (p : Part) : (p.tick).vinValues = p.vinValues := rfl
@[simp] theorem Part.tick_lipLast (p : Part) : (p.tick).lipLast = p.lipLast := rfl
@[simp] theorem Part.tick_lipCap (p : Part) : (p.tick).lipCap = p.lipCap := rfl
@[simp] theorem Part.tick_thrMask (p : Part) : (p.tick).thrMask = p.thrMask := rfl
@[simp] theorem Part.tick_thrHold (p : Part) : (p.tick).thrHold = p.thrHold := rfl
@[simp] theorem Part.tick_feBad (p : Part) : (p.tick).feBad = p.feBad := rfl
@[simp] theorem Part.tick_rails (p : Part) : (p.tick).rails = p.rails := rfl
@[simp] theorem Part.tick_phases (p : Part) : (p.tick).phases = p.phases := rfl
@[simp] theorem Part.tick_slices (p : Part) : (p.tick).slices = p.slices := rfl
@[simp] theorem Part.tick_eng (p : Part) : (p.tick).eng = p.eng := rfl
@[simp] theorem Part.tick_hk (p : Part) : (p.tick).hk = p.hk := rfl
@[simp] theorem Part.tick_mons (p : Part) : (p.tick).mons = p.mons := rfl
@[simp] theorem Part.tick_therm (p : Part) : (p.tick).therm = p.therm := rfl
@[simp] theorem Part.tick_nvm (p : Part) : (p.tick).nvm = p.nvm := rfl
@[simp] theorem Part.tick_hal (p : Part) : (p.tick).hal = p.hal := rfl
@[simp] theorem Part.tick_pair (p : Part) : (p.tick).pair = p.pair := rfl
@[simp] theorem Part.tick_pmb (p : Part) : (p.tick).pmb = p.pmb := rfl
@[simp] theorem Part.tick_avs (p : Part) : (p.tick).avs = p.avs := rfl
@[simp] theorem Part.tick_test (p : Part) : (p.tick).test = p.test := rfl
@[simp] theorem Part.tick_get (p : Part) (f : Fld) (i j : Nat) : (p.tick).get f i j = p.get f i j := rfl
@[simp] theorem Part.advance_regs (p : Part) (t : Nat) : (p.advance t).regs = p.regs := rfl
@[simp] theorem Part.advance_dev (p : Part) (t : Nat) : (p.advance t).dev = p.dev := rfl
@[simp] theorem Part.advance_supplies (p : Part) (t : Nat) : (p.advance t).supplies = p.supplies := rfl
@[simp] theorem Part.advance_hotLatch (p : Part) (t : Nat) : (p.advance t).hotLatch = p.hotLatch := rfl
@[simp] theorem Part.advance_pairHold (p : Part) (t : Nat) : (p.advance t).pairHold = p.pairHold := rfl
@[simp] theorem Part.advance_lossHold (p : Part) (t : Nat) : (p.advance t).lossHold = p.lossHold := rfl
@[simp] theorem Part.advance_tb (p : Part) (t : Nat) : (p.advance t).tb = max p.tb t := rfl
@[simp] theorem Part.advance_tbFrac (p : Part) (t : Nat) : (p.advance t).tbFrac = p.tbFrac := rfl
@[simp] theorem Part.advance_aonCount (p : Part) (t : Nat) : (p.advance t).aonCount = p.aonCount := rfl
@[simp] theorem Part.advance_free (p : Part) (t : Nat) : (p.advance t).free = p.free := rfl
@[simp] theorem Part.advance_refusals (p : Part) (t : Nat) : (p.advance t).refusals = p.refusals := rfl
@[simp] theorem Part.advance_otpJob (p : Part) (t : Nat) : (p.advance t).otpJob = p.otpJob := rfl
@[simp] theorem Part.advance_load (p : Part) (t : Nat) : (p.advance t).load = p.load := rfl
@[simp] theorem Part.advance_parkReq (p : Part) (t : Nat) : (p.advance t).parkReq = p.parkReq := rfl
@[simp] theorem Part.advance_parkAt (p : Part) (t : Nat) : (p.advance t).parkAt = p.parkAt := rfl
@[simp] theorem Part.advance_parkCtx (p : Part) (t : Nat) : (p.advance t).parkCtx = p.parkCtx := rfl
@[simp] theorem Part.advance_wakes (p : Part) (t : Nat) : (p.advance t).wakes = p.wakes := rfl
@[simp] theorem Part.advance_sclHold (p : Part) (t : Nat) : (p.advance t).sclHold = p.sclHold := rfl
@[simp] theorem Part.advance_sclAt (p : Part) (t : Nat) : (p.advance t).sclAt = p.sclAt := rfl
@[simp] theorem Part.advance_pmbNack (p : Part) (t : Nat) : (p.advance t).pmbNack = p.pmbNack := rfl
@[simp] theorem Part.advance_clocksStopped (p : Part) (t : Nat) : (p.advance t).clocksStopped = p.clocksStopped := rfl
@[simp] theorem Part.advance_safeAt (p : Part) (t : Nat) : (p.advance t).safeAt = p.safeAt := rfl
@[simp] theorem Part.advance_vinAt (p : Part) (t : Nat) : (p.advance t).vinAt = p.vinAt := rfl
@[simp] theorem Part.advance_healthAt (p : Part) (t : Nat) : (p.advance t).healthAt = p.healthAt := rfl
@[simp] theorem Part.advance_thermAt (p : Part) (t : Nat) : (p.advance t).thermAt = p.thermAt := rfl
@[simp] theorem Part.advance_vinCodes (p : Part) (t : Nat) : (p.advance t).vinCodes = p.vinCodes := rfl
@[simp] theorem Part.advance_vinValues (p : Part) (t : Nat) : (p.advance t).vinValues = p.vinValues := rfl
@[simp] theorem Part.advance_lipLast (p : Part) (t : Nat) : (p.advance t).lipLast = p.lipLast := rfl
@[simp] theorem Part.advance_lipCap (p : Part) (t : Nat) : (p.advance t).lipCap = p.lipCap := rfl
@[simp] theorem Part.advance_thrMask (p : Part) (t : Nat) : (p.advance t).thrMask = p.thrMask := rfl
@[simp] theorem Part.advance_thrHold (p : Part) (t : Nat) : (p.advance t).thrHold = p.thrHold := rfl
@[simp] theorem Part.advance_feBad (p : Part) (t : Nat) : (p.advance t).feBad = p.feBad := rfl
@[simp] theorem Part.advance_rails (p : Part) (t : Nat) : (p.advance t).rails = p.rails := rfl
@[simp] theorem Part.advance_phases (p : Part) (t : Nat) : (p.advance t).phases = p.phases := rfl
@[simp] theorem Part.advance_slices (p : Part) (t : Nat) : (p.advance t).slices = p.slices := rfl
@[simp] theorem Part.advance_eng (p : Part) (t : Nat) : (p.advance t).eng = p.eng := rfl
@[simp] theorem Part.advance_hk (p : Part) (t : Nat) : (p.advance t).hk = p.hk := rfl
@[simp] theorem Part.advance_mons (p : Part) (t : Nat) : (p.advance t).mons = p.mons := rfl
@[simp] theorem Part.advance_therm (p : Part) (t : Nat) : (p.advance t).therm = p.therm := rfl
@[simp] theorem Part.advance_nvm (p : Part) (t : Nat) : (p.advance t).nvm = p.nvm := rfl
@[simp] theorem Part.advance_hal (p : Part) (t : Nat) : (p.advance t).hal = p.hal := rfl
@[simp] theorem Part.advance_pair (p : Part) (t : Nat) : (p.advance t).pair = p.pair := rfl
@[simp] theorem Part.advance_pmb (p : Part) (t : Nat) : (p.advance t).pmb = p.pmb := rfl
@[simp] theorem Part.advance_avs (p : Part) (t : Nat) : (p.advance t).avs = p.avs := rfl
@[simp] theorem Part.advance_test (p : Part) (t : Nat) : (p.advance t).test = p.test := rfl
@[simp] theorem Part.advance_get (p : Part) (t : Nat) (f : Fld) (i j : Nat) : (p.advance t).get f i j = p.get f i j := rfl
@[simp] theorem Part.advanceSt_regs (p : Part) (t : Nat) : (p.advanceSt t).regs = p.regs := rfl
@[simp] theorem Part.advanceSt_dev (p : Part) (t : Nat) : (p.advanceSt t).dev = p.dev := rfl
@[simp] theorem Part.advanceSt_supplies (p : Part) (t : Nat) : (p.advanceSt t).supplies = p.supplies := rfl
@[simp] theorem Part.advanceSt_hotLatch (p : Part) (t : Nat) : (p.advanceSt t).hotLatch = p.hotLatch := rfl
@[simp] theorem Part.advanceSt_pairHold (p : Part) (t : Nat) : (p.advanceSt t).pairHold = p.pairHold := rfl
@[simp] theorem Part.advanceSt_lossHold (p : Part) (t : Nat) : (p.advanceSt t).lossHold = p.lossHold := rfl
@[simp] theorem Part.advanceSt_tb (p : Part) (t : Nat) : (p.advanceSt t).tb = max p.tb (t / 32) := rfl
@[simp] theorem Part.advanceSt_tbFrac (p : Part) (t : Nat) : (p.advanceSt t).tbFrac = p.tbFrac := rfl
@[simp] theorem Part.advanceSt_aonCount (p : Part) (t : Nat) : (p.advanceSt t).aonCount = p.aonCount := rfl
@[simp] theorem Part.advanceSt_free (p : Part) (t : Nat) : (p.advanceSt t).free = p.free := rfl
@[simp] theorem Part.advanceSt_refusals (p : Part) (t : Nat) : (p.advanceSt t).refusals = p.refusals := rfl
@[simp] theorem Part.advanceSt_otpJob (p : Part) (t : Nat) : (p.advanceSt t).otpJob = p.otpJob := rfl
@[simp] theorem Part.advanceSt_load (p : Part) (t : Nat) : (p.advanceSt t).load = p.load := rfl
@[simp] theorem Part.advanceSt_parkReq (p : Part) (t : Nat) : (p.advanceSt t).parkReq = p.parkReq := rfl
@[simp] theorem Part.advanceSt_parkAt (p : Part) (t : Nat) : (p.advanceSt t).parkAt = p.parkAt := rfl
@[simp] theorem Part.advanceSt_parkCtx (p : Part) (t : Nat) : (p.advanceSt t).parkCtx = p.parkCtx := rfl
@[simp] theorem Part.advanceSt_wakes (p : Part) (t : Nat) : (p.advanceSt t).wakes = p.wakes := rfl
@[simp] theorem Part.advanceSt_sclHold (p : Part) (t : Nat) : (p.advanceSt t).sclHold = p.sclHold := rfl
@[simp] theorem Part.advanceSt_sclAt (p : Part) (t : Nat) : (p.advanceSt t).sclAt = p.sclAt := rfl
@[simp] theorem Part.advanceSt_pmbNack (p : Part) (t : Nat) : (p.advanceSt t).pmbNack = p.pmbNack := rfl
@[simp] theorem Part.advanceSt_clocksStopped (p : Part) (t : Nat) : (p.advanceSt t).clocksStopped = p.clocksStopped := rfl
@[simp] theorem Part.advanceSt_safeAt (p : Part) (t : Nat) : (p.advanceSt t).safeAt = p.safeAt := rfl
@[simp] theorem Part.advanceSt_vinAt (p : Part) (t : Nat) : (p.advanceSt t).vinAt = p.vinAt := rfl
@[simp] theorem Part.advanceSt_healthAt (p : Part) (t : Nat) : (p.advanceSt t).healthAt = p.healthAt := rfl
@[simp] theorem Part.advanceSt_thermAt (p : Part) (t : Nat) : (p.advanceSt t).thermAt = p.thermAt := rfl
@[simp] theorem Part.advanceSt_vinCodes (p : Part) (t : Nat) : (p.advanceSt t).vinCodes = p.vinCodes := rfl
@[simp] theorem Part.advanceSt_vinValues (p : Part) (t : Nat) : (p.advanceSt t).vinValues = p.vinValues := rfl
@[simp] theorem Part.advanceSt_lipLast (p : Part) (t : Nat) : (p.advanceSt t).lipLast = p.lipLast := rfl
@[simp] theorem Part.advanceSt_lipCap (p : Part) (t : Nat) : (p.advanceSt t).lipCap = p.lipCap := rfl
@[simp] theorem Part.advanceSt_thrMask (p : Part) (t : Nat) : (p.advanceSt t).thrMask = p.thrMask := rfl
@[simp] theorem Part.advanceSt_thrHold (p : Part) (t : Nat) : (p.advanceSt t).thrHold = p.thrHold := rfl
@[simp] theorem Part.advanceSt_feBad (p : Part) (t : Nat) : (p.advanceSt t).feBad = p.feBad := rfl
@[simp] theorem Part.advanceSt_rails (p : Part) (t : Nat) : (p.advanceSt t).rails = p.rails := rfl
@[simp] theorem Part.advanceSt_phases (p : Part) (t : Nat) : (p.advanceSt t).phases = p.phases := rfl
@[simp] theorem Part.advanceSt_slices (p : Part) (t : Nat) : (p.advanceSt t).slices = p.slices := rfl
@[simp] theorem Part.advanceSt_eng (p : Part) (t : Nat) : (p.advanceSt t).eng = p.eng := rfl
@[simp] theorem Part.advanceSt_hk (p : Part) (t : Nat) : (p.advanceSt t).hk = p.hk := rfl
@[simp] theorem Part.advanceSt_mons (p : Part) (t : Nat) : (p.advanceSt t).mons = p.mons := rfl
@[simp] theorem Part.advanceSt_therm (p : Part) (t : Nat) : (p.advanceSt t).therm = p.therm := rfl
@[simp] theorem Part.advanceSt_nvm (p : Part) (t : Nat) : (p.advanceSt t).nvm = p.nvm := rfl
@[simp] theorem Part.advanceSt_hal (p : Part) (t : Nat) : (p.advanceSt t).hal = p.hal := rfl
@[simp] theorem Part.advanceSt_pair (p : Part) (t : Nat) : (p.advanceSt t).pair = p.pair := rfl
@[simp] theorem Part.advanceSt_pmb (p : Part) (t : Nat) : (p.advanceSt t).pmb = p.pmb := rfl
@[simp] theorem Part.advanceSt_avs (p : Part) (t : Nat) : (p.advanceSt t).avs = p.avs := rfl
@[simp] theorem Part.advanceSt_test (p : Part) (t : Nat) : (p.advanceSt t).test = p.test := rfl
@[simp] theorem Part.advanceSt_get (p : Part) (t : Nat) (f : Fld) (i j : Nat) : (p.advanceSt t).get f i j = p.get f i j := rfl

/-! Register reads. -/

/-- A register read sees the register file alone. -/
@[simp] theorem Part.get_mk (r : RegFile) a1 a2 a3 a4 a5 a6 a7 a8 a9 a10 a11 a12 a13 a14 a15 a16 a17 a18 a19 a20 a21 a22 a23 a24 a25 a26 a27 a28 a29 a30 a31 a32 a33 a34 a35 a36 a37 a38 a39 a40 a41 a42 a43 a44 a45 (f : Fld) (i j : Nat) :
    Part.get (Part.mk r a1 a2 a3 a4 a5 a6 a7 a8 a9 a10 a11 a12 a13 a14 a15 a16 a17 a18 a19 a20 a21 a22 a23 a24 a25 a26 a27 a28 a29 a30 a31 a32 a33 a34 a35 a36 a37 a38 a39 a40 a41 a42 a43 a44 a45) f i j = r.read (f.at i j) := rfl

@[simp] theorem Part.regs_read (p : Part) (f : Fld) (i j : Nat) : p.regs.read (f.at i j) = p.get f i j := rfl

@[simp] theorem Part.get_set_same (p : Part) (f : Fld) (v i j : Nat) : (p.set f v i j).get f i j = v % 2 ^ f.width := by
  simp [Part.get, Part.set]

/-- A register write leaves every other cell alone. -/
theorem Part.get_set_ne (p : Part) (f g : Fld) (v i j i' j' : Nat) (h : g.at i' j' ≠ f.at i j) :
    (p.set f v i j).get g i' j' = p.get g i' j' := by
  simp only [Part.get, Part.set]
  exact RegFile.read_write_ne _ _ _ _ h

@[simp] theorem Part.get_put_same (p : Part) (f : Fld) (b : Bool) (i j : Nat) :
    (p.put f b i j).get f i j = b2n b % 2 ^ f.width := Part.get_set_same p f (b2n b) i j

theorem Part.get_put_ne (p : Part) (f g : Fld) (b : Bool) (i j i' j' : Nat) (h : g.at i' j' ≠ f.at i j) :
    (p.put f b i j).get g i' j' = p.get g i' j' := Part.get_set_ne p f g _ i j i' j' h

@[simp] theorem Part.get_bump_same (p : Part) (f : Fld) (i j : Nat) :
    (p.bump f i j).get f i j = satInc (2 ^ f.width - 1) (p.get f i j) % 2 ^ f.width := Part.get_set_same p f _ i j

theorem Part.get_bump_ne (p : Part) (f g : Fld) (i j i' j' : Nat) (h : g.at i' j' ≠ f.at i j) :
    (p.bump f i j).get g i' j' = p.get g i' j' := Part.get_set_ne p f g _ i j i' j' h

theorem Part.get_setBit_ne (p : Part) (f g : Fld) (k i i' j' : Nat) (h : g.at i' j' ≠ f.at i 0) :
    (p.setBit f k i).get g i' j' = p.get g i' j' := Part.get_set_ne p f g _ i 0 i' j' h

theorem Part.get_clearBit_ne (p : Part) (f g : Fld) (k i i' j' : Nat) (h : g.at i' j' ≠ f.at i 0) :
    (p.clearBit f k i).get g i' j' = p.get g i' j' := Part.get_set_ne p f g _ i 0 i' j' h

/-- An event leaves every cell but its flag and its counter alone. -/
theorem Part.get_event_ne (p : Part) (e c g : Fld) (i i' j' : Nat) (h1 : g.at i' j' ≠ e.at i 0)
    (h2 : g.at i' j' ≠ c.at i 0) : (p.event e c i).get g i' j' = p.get g i' j' := by
  rw [Part.event, Part.get_bump_ne _ _ _ _ _ _ _ h2, Part.get_set_ne _ _ _ _ _ _ _ _ h1]

/-! What repeated and conditional operations keep. -/

/-- What one round keeps, all rounds keep. -/
theorem Part.forL_keeps (P : Part → Prop) (l : List Nat) (f : Nat → Part → Part) (hf : ∀ i q, i ∈ l → P q → P (f i q))
    (p : Part) (h : P p) : P (p.forL l f) := by
  induction l generalizing p with
  | nil => exact h
  | cons a l ih =>
    exact ih (fun i q hi hq => hf i q (List.mem_cons_of_mem a hi) hq) (f a p) (hf a p List.mem_cons_self h)

/-- What one round keeps, all rounds keep. -/
theorem Part.forN_keeps (P : Part → Prop) (n : Nat) (f : Nat → Part → Part) (hf : ∀ i q, i < n → P q → P (f i q))
    (p : Part) (h : P p) : P (p.forN n f) :=
  Part.forL_keeps P (List.range n) f (fun i q hi hq => hf i q (List.mem_range.mp hi) hq) p h

/-- What an operation keeps, it keeps under a condition. -/
theorem Part.when_keeps (P : Part → Prop) (b : Bool) (f : Part → Part) (p : Part) (hf : P p → P (f p)) (h : P p) :
    P (p.when b f) := by
  cases b
  · exact h
  · exact hf h

@[simp] theorem Part.when_true (p : Part) (f : Part → Part) : p.when true f = f p := rfl
@[simp] theorem Part.when_false (p : Part) (f : Part → Part) : p.when false f = p := rfl

end Sys2Proof.Machine
end

