-- ==== Sys2Proof/Laws/Frame.lean ====
section
/-!
SUPPORT. The frame of the shared operations of the power stage: what no operation of sampling, commits, protection, rail
control, records, ring frames, housekeeping work and monitors touches, one lemma for each operation.
-/

namespace Sys2Proof.Machine

/-- What the operations of the power stage leave alone: supplies, latches, counts of refusals, OTP requests, the load,
the park context, the SCL hold, the front-end checks, thermal sensors, the grids of thermal frames and of the health
updates, the AVSBus ports, the self-test logic. -/
def Part.outer (p : Part) :
    Supplies × Bool × Bool × Bool × Nat × Nat × OtpJob × LoadCore × Nat × Option ParkCtx × Bool × Nat × Bool × Bool ×
    Nat × Option Nat × Option Nat × List Nat × List ThermCore × AvsCore × TestCore :=
  (p.supplies, p.hotLatch, p.pairHold, p.lossHold, p.tbFrac, p.refusals, p.otpJob, p.load, p.parkAt, p.parkCtx,
  p.sclHold, p.sclAt, p.pmbNack, p.clocksStopped, p.safeAt, p.healthAt, p.thermAt, p.feBad, p.therm, p.avs, p.test)

@[simp] theorem Part.outer_mk
    (a0 a1 a2 a3 a4 a5 a6 a7 a8 a9 a10 a11 a12 a13 a14 a15 a16 a17 a18 a19 a20 a21 a22 a23 a24 a25 a26 a27 a28 a29
    a30 a31 a32 a33 a34 a35 a36 a37 a38 a39 a40 a41 a42 a43 a44 a45) :
    (Part.mk
      a0 a1 a2 a3 a4 a5 a6 a7 a8 a9 a10 a11 a12 a13 a14 a15 a16 a17 a18 a19 a20 a21 a22 a23 a24 a25 a26 a27 a28 a29
      a30 a31 a32 a33 a34 a35 a36 a37 a38 a39 a40 a41 a42 a43 a44 a45).outer =
      (a2, a3, a4, a5, a8, a11, a12, a13, a15, a16, a18, a19, a20, a21, a22, a24, a25, a32, a39, a44, a45) := rfl
@[simp] theorem Part.outer_fold (p : Part) :
    (p.supplies, p.hotLatch, p.pairHold, p.lossHold, p.tbFrac, p.refusals, p.otpJob, p.load, p.parkAt, p.parkCtx,
    p.sclHold, p.sclAt, p.pmbNack, p.clocksStopped, p.safeAt, p.healthAt, p.thermAt, p.feBad, p.therm, p.avs, p.test) = p.outer := rfl
@[simp] theorem Part.outer_ite (c : Prop) [Decidable c] (p q : Part) :
    (if c then p else q).outer = if c then p.outer else q.outer := by
  split <;> rfl
@[simp] theorem Part.outer_forL (p : Part) (l : List Nat) (f : Nat → Part → Part) (h : ∀ i q, (f i q).outer = q.outer) :
    (p.forL l f).outer = p.outer := by
  unfold Part.forL
  induction l generalizing p with
  | nil => rfl
  | cons a l ih => rw [List.foldl_cons, ih, h]
@[simp] theorem Part.outer_forN (p : Part) (n : Nat) (f : Nat → Part → Part) (h : ∀ i q, (f i q).outer = q.outer) :
    (p.forN n f).outer = p.outer := Part.outer_forL p _ f h
@[simp] theorem Part.outer_foldl {α : Type} (p : Part) (l : List α) (f : Part → α → Part) (h :
    ∀ q x, (f q x).outer = q.outer) :
    (l.foldl f p).outer = p.outer := by
  induction l generalizing p with
  | nil => rfl
  | cons a l ih => rw [List.foldl_cons, ih, h]
@[simp] theorem Part.outer_when (p : Part) (b : Bool) (f : Part → Part) (h : ∀ q, (f q).outer = q.outer) :
    (p.when b f).outer = p.outer := by
  unfold Part.when
  split
  · exact h p
  · rfl

@[simp] theorem Part.set_outer (p : Part) (f : Fld) (v : Nat) (i : optParam Nat 0) (j : optParam Nat 0) :
    (Part.set p f v i j).outer = p.outer := by
  simp [Part.set]

@[simp] theorem Part.bump_outer (p : Part) (f : Fld) (i : optParam Nat 0) (j : optParam Nat 0) :
    (Part.bump p f i j).outer = p.outer := by
  simp [Part.bump]

@[simp] theorem Part.abortPark_outer (p : Part) : (Part.abortPark p).outer = p.outer := by
  simp [Part.abortPark]

@[simp] theorem Part.event_outer (p : Part) (ev : Fld) (cnt : Fld) (i : optParam Nat 0) :
    (Part.event p ev cnt i).outer = p.outer := by
  simp [Part.event]

@[simp] theorem Part.modEng_outer (p : Part) (f : EngineCore → EngineCore) : (Part.modEng p f).outer = p.outer := by
  simp [Part.modEng]

@[simp] theorem Part.clearBit_outer (p : Part) (f : Fld) (k : Nat) (i : optParam Nat 0) :
    (Part.clearBit p f k i).outer = p.outer := by
  simp [Part.clearBit]

@[simp] theorem Part.clearCause_outer (p : Part) (c : Nat) : (Part.clearCause p c).outer = p.outer := by
  simp [Part.clearCause]

@[simp] theorem Part.modNvm_outer (p : Part) (f : NvmCore → NvmCore) : (Part.modNvm p f).outer = p.outer := by
  simp [Part.modNvm]

@[simp] theorem Part.beginUnit_outer (p : Part) (u : NvmUnit) : (Part.beginUnit p u).outer = p.outer := by
  simp only [Part.beginUnit]; (repeat' split) <;> simp

@[simp] theorem Part.nvmKick_outer (p : Part) : (Part.nvmKick p).outer = p.outer := by
  unfold Part.nvmKick; (repeat' split) <;> simp

@[simp] theorem Part.logQueue_outer (p : Part) (cause : Nat) (unit : Nat) :
    (Part.logQueue p cause unit).outer = p.outer := by
  simp [Part.logQueue]

@[simp] theorem Part.logEntry_outer (p : Part) (cause : Nat) (unit : Nat) :
    (Part.logEntry p cause unit).outer = p.outer := by
  simp [Part.logEntry]

@[simp] theorem Part.setBit_outer (p : Part) (f : Fld) (k : Nat) (i : optParam Nat 0) :
    (Part.setBit p f k i).outer = p.outer := by
  simp [Part.setBit]

@[simp] theorem Part.raiseCause_outer (p : Part) (c : Nat) (unit : optParam Nat 255) :
    (Part.raiseCause p c unit).outer = p.outer := by
  simp [Part.raiseCause]

@[simp] theorem Part.overdueCause_outer (p : Part) (unit : optParam Nat 255) :
    (Part.overdueCause p unit).outer = p.outer := by
  simp [Part.overdueCause]

@[simp] theorem Part.overdueClear_outer (p : Part) : (Part.overdueClear p).outer = p.outer := by
  simp [Part.overdueClear]

@[simp] theorem Part.rotEnd_outer (p : Part) : (Part.rotEnd p).outer = p.outer := by
  simp [Part.rotEnd]

@[simp] theorem Part.setSlice_outer (p : Part) (s : Nat) (st : SliceState) :
    (Part.setSlice p s st).outer = p.outer := by
  simp [Part.setSlice]

@[simp] theorem Part.abortTest_outer (p : Part) (s : Nat) : (Part.abortTest p s).outer = p.outer := by
  simp [Part.abortTest]

@[simp] theorem Part.setS_outer (p : Part) (f : Fld) (v : Int) (i : optParam Nat 0) (j : optParam Nat 0) :
    (Part.setS p f v i j).outer = p.outer := by
  simp [Part.setS]

@[simp] theorem Part.setSat_outer (p : Part) (f : Fld) (v : Int) (i : optParam Nat 0) (j : optParam Nat 0) :
    (Part.setSat p f v i j).outer = p.outer := by
  simp [Part.setSat]

@[simp] theorem Part.addPhase_outer (p : Part) (n : Nat) (q : Nat) : (Part.addPhase p n q).outer = p.outer := by
  simp only [Part.addPhase]; (repeat' split) <;> simp

@[simp] theorem Part.addWake_outer (p : Part) (w : WakeSource) : (Part.addWake p w).outer = p.outer := by
  unfold Part.addWake; split <;> simp

@[simp] theorem Part.advance_outer (p : Part) (t : Nat) : (Part.advance p t).outer = p.outer := by
  simp [Part.advance]

@[simp] theorem Part.advanceSt_outer (p : Part) (t : Nat) : (Part.advanceSt p t).outer = p.outer := by
  simp [Part.advanceSt]

@[simp] theorem Part.advanceClock_outer (p : Part) (t : Nat) : (Part.advanceClock p t).outer = p.outer := by
  simp [Part.advanceClock]

@[simp] theorem Part.modRail_outer (p : Part) (n : Nat) (f : RailCore → RailCore) :
    (Part.modRail p n f).outer = p.outer := by
  simp [Part.modRail]

@[simp] theorem Part.put_outer (p : Part) (f : Fld) (b : Bool) (i : optParam Nat 0) (j : optParam Nat 0) :
    (Part.put p f b i j).outer = p.outer := by
  simp [Part.put]

@[simp] theorem Part.followPrep_outer (p : Part) (n : Nat) (start : Bool) :
    (Part.followPrep p n start).outer = p.outer := by
  simp [Part.followPrep]

@[simp] theorem Part.showEntries_outer (p : Part) (n : Nat) : (Part.showEntries p n).outer = p.outer := by
  simp [Part.showEntries]

@[simp] theorem Part.squashFrom_outer (p : Part) (n : Nat) (c : SquashCause) (slot : Nat) :
    (Part.squashFrom p n c slot).outer = p.outer := by
  simp [Part.squashFrom]

@[simp] theorem Part.squash_outer (p : Part) (n : Nat) (c : SquashCause) : (Part.squash p n c).outer = p.outer := by
  simp [Part.squash]

@[simp] theorem Part.captureIntent_outer (p : Part) (n : Nat) (code : Nat) (tc : Nat) :
    (Part.captureIntent p n code tc).outer = p.outer := by
  simp [Part.captureIntent]

@[simp] theorem Part.endIntent_outer (p : Part) (n : Nat) : (Part.endIntent p n).outer = p.outer := by
  simp [Part.endIntent]

@[simp] theorem Part.applyCode_outer (p : Part) (n : Nat) (code : Nat) (tc : Nat) :
    (Part.applyCode p n code tc).outer = p.outer := by
  simp [Part.applyCode]

@[simp] theorem Part.modHal_outer (p : Part) (f : HalCore → HalCore) : (Part.modHal p f).outer = p.outer := by
  simp [Part.modHal]

@[simp] theorem Part.send_outer (p : Part) (port : HalPort) (f : Frame) : (Part.send p port f).outer = p.outer := by
  simp [Part.send]

@[simp] theorem Part.broadcast_outer (p : Part) (type : Nat) (id : Nat) (payload : List Byte) :
    (Part.broadcast p type id payload).outer = p.outer := by
  simp [Part.broadcast]

@[simp] theorem Part.broadcastNext_outer (p : Part) (type : Nat) (payload : List Byte) :
    (Part.broadcastNext p type payload).outer = p.outer := by
  simp [Part.broadcastNext]

@[simp] theorem Part.bumpWrap_outer (p : Part) (f : Fld) (i : optParam Nat 0) (j : optParam Nat 0) :
    (Part.bumpWrap p f i j).outer = p.outer := by
  simp [Part.bumpWrap]

@[simp] theorem Part.burstSample_outer (p : Part) (n : Nat) (w : Window) (vsp : Nat) :
    (Part.burstSample p n w vsp).outer = p.outer := by
  simp [Part.burstSample]

@[simp] theorem Part.thrUpdate_outer (p : Part) : (Part.thrUpdate p).outer = p.outer := by
  simp [Part.thrUpdate]

@[simp] theorem Part.capThrottle_outer (p : Part) (n : Nat) : (Part.capThrottle p n).outer = p.outer := by
  unfold Part.capThrottle; split <;> simp

@[simp] theorem Part.clearHold_outer (p : Part) (n : Nat) : (Part.clearHold p n).outer = p.outer := by
  simp [Part.clearHold]

@[simp] theorem Part.showDEff_outer (p : Part) (n : Nat) : (Part.showDEff p n).outer = p.outer := by
  simp [Part.showDEff]

@[simp] theorem Part.followM_outer (p : Part) (n : Nat) : (Part.followM p n).outer = p.outer := by
  simp [Part.followM]

@[simp] theorem Part.modPh_outer (p : Part) (n : Nat) (f : PhaseCore → PhaseCore) :
    (Part.modPh p n f).outer = p.outer := by
  simp [Part.modPh]

@[simp] theorem Part.movePhase_outer (p : Part) (n : Nat) (q : Nat) (theta : Nat) (c : Nat) (added : Bool) :
    (Part.movePhase p n q theta c added).outer = p.outer := by
  simp [Part.movePhase]

@[simp] theorem Part.showMoving_outer (p : Part) (n : Nat) : (Part.showMoving p n).outer = p.outer := by
  simp [Part.showMoving]

@[simp] theorem Part.setActive_outer (p : Part) (n : Nat) (was : List Nat) :
    (Part.setActive p n was).outer = p.outer := by
  simp [Part.setActive]

@[simp] theorem Part.commitLevel_outer (p : Part) (n : Nat) (c : Nat) : (Part.commitLevel p n c).outer = p.outer := by
  simp [Part.commitLevel]

@[simp] theorem Part.modPair_outer (p : Part) (f : PairCore → PairCore) : (Part.modPair p f).outer = p.outer := by
  simp [Part.modPair]

@[simp] theorem Part.pairRoll_outer (p : Part) : (Part.pairRoll p).outer = p.outer := by
  simp [Part.pairRoll]

@[simp] theorem Part.placeDuty_outer (p : Part) (n : Nat) (d : Int) : (Part.placeDuty p n d).outer = p.outer := by
  simp [Part.placeDuty]

@[simp] theorem Part.commitValue_outer (p : Part) (n : Nat) : (Part.commitValue p n).outer = p.outer := by
  simp only [Part.commitValue]; (repeat' split) <;> simp

@[simp] theorem Part.showBusy_outer (p : Part) : (Part.showBusy p).outer = p.outer := by
  simp [Part.showBusy]

@[simp] theorem Part.xdone_outer (p : Part) : (Part.xdone p).outer = p.outer := by
  simp [Part.xdone]

@[simp] theorem Part.xresult_outer (p : Part) (op : Nat) (rail : Nat) (slice : Nat) (result : Nat) :
    (Part.xresult p op rail slice result).outer = p.outer := by
  simp [Part.xresult]

@[simp] theorem Part.endExch_outer (p : Part) (x : Exch) (result : Nat) :
    (Part.endExch p x result).outer = p.outer := by
  simp [Part.endExch]

@[simp] theorem Part.keepSet_outer (p : Part) (n : Nat) (s : Nat) : (Part.keepSet p n s).outer = p.outer := by
  simp [Part.keepSet]

@[simp] theorem Part.serveWith_outer (p : Part) (x : Exch) : (Part.serveWith p x).outer = p.outer := by
  simp [Part.serveWith]

@[simp] theorem Part.rotLate_outer (p : Part) : (Part.rotLate p).outer = p.outer := by
  simp [Part.rotLate]

@[simp] theorem Part.testFreed_outer (p : Part) (x : Exch) : (Part.testFreed p x).outer = p.outer := by
  simp [Part.testFreed]

@[simp] theorem Part.completeExch_outer (p : Part) (x : Exch) (result : Nat) :
    (Part.completeExch p x result).outer = p.outer := by
  simp [Part.completeExch]

@[simp] theorem Part.noOffer_outer (p : Part) (n : Nat) : (Part.noOffer p n).outer = p.outer := by
  simp [Part.noOffer]

@[simp] theorem Part.pbHandOn_outer (p : Part) (n : Nat) : (Part.pbHandOn p n).outer = p.outer := by
  simp [Part.pbHandOn]

@[simp] theorem Part.monOwn_outer (p : Part) (m : Nat) : (Part.monOwn p m).outer = p.outer := by
  simp [Part.monOwn]

@[simp] theorem Part.pbRelease_outer (p : Part) (n : Nat) : (Part.pbRelease p n).outer = p.outer := by
  simp [Part.pbRelease]

@[simp] theorem Part.pgLow_outer (p : Part) (n : Nat) (ev : Bool) : (Part.pgLow p n ev).outer = p.outer := by
  simp [Part.pgLow]

@[simp] theorem Part.probeFor_outer (p : Part) (n : Nat) (old : RailState) (new_ : RailState) :
    (Part.probeFor p n old new_).outer = p.outer := by
  simp [Part.probeFor]

@[simp] theorem Part.sfltFollow_outer (p : Part) : (Part.sfltFollow p).outer = p.outer := by
  simp [Part.sfltFollow]

@[simp] theorem Part.setRst_outer (p : Part) (n : Nat) (st : RailState) (pgEv : optParam Bool true) :
    (Part.setRst p n st pgEv).outer = p.outer := by
  simp [Part.setRst]

@[simp] theorem Part.takeAct_outer (p : Part) (n : Nat) (act : Option Bool) :
    (Part.takeAct p n act).outer = p.outer := by
  simp [Part.takeAct]

@[simp] theorem Part.enterEnd_outer (p : Part) (n : Nat) (e : EndState) (act : Option Bool) :
    (Part.enterEnd p n e act).outer = p.outer := by
  unfold Part.enterEnd; split <;> simp

@[simp] theorem Part.showSlew_outer (p : Part) (n : Nat) : (Part.showSlew p n).outer = p.outer := by
  simp [Part.showSlew]

@[simp] theorem Part.setVsp_outer (p : Part) (n : Nat) (v : Nat) : (Part.setVsp p n v).outer = p.outer := by
  simp [Part.setVsp]

@[simp] theorem Part.enterDelayOn_outer (p : Part) (n : Nat) : (Part.enterDelayOn p n).outer = p.outer := by
  simp [Part.enterDelayOn]

@[simp] theorem Part.devFollow_outer (p : Part) : (Part.devFollow p).outer = p.outer := by
  unfold Part.devFollow; split <;> simp

@[simp] theorem Part.idleExch_outer (p : Part) (n : Nat) : (Part.idleExch p n).outer = p.outer := by
  unfold Part.idleExch; split <;> simp

@[simp] theorem Part.modPmb_outer (p : Part) (f : PmbCore → PmbCore) : (Part.modPmb p f).outer = p.outer := by
  simp [Part.modPmb]

@[simp] theorem Part.latchIout_outer (p : Part) (n : Nat) (bit : Nat) : (Part.latchIout p n bit).outer = p.outer := by
  simp [Part.latchIout]

@[simp] theorem Part.markRetired_outer (p : Part) (q : Nat) (cause : Nat) :
    (Part.markRetired p q cause).outer = p.outer := by
  unfold Part.markRetired; split <;> simp

@[simp] theorem Part.queueRec_outer (p : Part) (r : RecCap) : (Part.queueRec p r).outer = p.outer := by
  unfold Part.queueRec; (repeat' split) <;> simp

@[simp] theorem Part.record_outer (p : Part) (src : Nat) (code : Nat) (cls : RecClass) (rail : Option Nat)
    (unit : Option Nat) (flags : optParam Nat 0) (force : optParam Bool false) (pre : optParam (Option Part) none) :
    (Part.record p src code cls rail unit flags force pre).outer = p.outer := by
  unfold Part.record; split <;> simp

@[simp] theorem Part.showCap_outer (p : Part) (n : Nat) : (Part.showCap p n).outer = p.outer := by
  simp [Part.showCap]

@[simp] theorem Part.retireAll_outer (p : Part) (n : Nat) (l : List (Nat × Nat)) :
    (Part.retireAll p n l).outer = p.outer := by
  simp [Part.retireAll]

@[simp] theorem Part.retirePending_outer (p : Part) (n : Nat) : (Part.retirePending p n).outer = p.outer := by
  simp [Part.retirePending]

@[simp] theorem Part.latchVout_outer (p : Part) (n : Nat) (bit : Nat) : (Part.latchVout p n bit).outer = p.outer := by
  simp [Part.latchVout]

@[simp] theorem Part.showCmd_outer (p : Part) (n : Nat) : (Part.showCmd p n).outer = p.outer := by
  simp [Part.showCmd]

@[simp] theorem Part.enterOff_outer (p : Part) (n : Nat) (pgEv : optParam Bool true) :
    (Part.enterOff p n pgEv).outer = p.outer := by
  simp only [Part.enterOff]; (repeat' split) <;> simp

@[simp] theorem Part.modSlice_outer (p : Part) (n : Nat) (f : SliceCore → SliceCore) :
    (Part.modSlice p n f).outer = p.outer := by
  simp [Part.modSlice]

@[simp] theorem Part.startLevel_outer (p : Part) (n : Nat) : (Part.startLevel p n).outer = p.outer := by
  simp [Part.startLevel]

@[simp] theorem Part.enterRampUp_outer (p : Part) (n : Nat) (v : Nat) : (Part.enterRampUp p n v).outer = p.outer := by
  simp only [Part.enterRampUp]; (repeat' split) <;> simp

@[simp] theorem Part.latchRecord_outer (p : Part) (n : Nat) (x : SoftStop) :
    (Part.latchRecord p n x).outer = p.outer := by
  simp [Part.latchRecord]

@[simp] theorem Part.wakeSlice_outer (p : Part) (n : Nat) : (Part.wakeSlice p n).outer = p.outer := by
  unfold Part.wakeSlice; split <;> simp

@[simp] theorem Part.leaveOff_outer (p : Part) (n : Nat) : (Part.leaveOff p n).outer = p.outer := by
  simp only [Part.leaveOff]; (repeat' split) <;> simp

@[simp] theorem Part.pendOff_outer (p : Part) (n : Nat) : (Part.pendOff p n).outer = p.outer := by
  simp [Part.pendOff]

@[simp] theorem Part.onEval_outer (p : Part) (n : Nat) : (Part.onEval p n).outer = p.outer := by
  simp only [Part.onEval]; (repeat' split) <;> simp

@[simp] theorem Part.endNow_outer (p : Part) (pre : Part) (n : Nat) (e : EndState) (act : Option Bool)
    (src : Nat) (code : Nat) (cls : RecClass) (unit : Option Nat) (recordNow : optParam Bool true) :
    (Part.endNow p pre n e act src code cls unit recordNow).outer = p.outer := by
  simp [Part.endNow]

@[simp] theorem Part.latchTri_outer (p : Part) (n : Nat) (src : Nat) (code : Nat) (unit : Option Nat) :
    (Part.latchTri p n src code unit).outer = p.outer := by
  simp [Part.latchTri]

@[simp] theorem Part.latchMfr_outer (p : Part) (n : Nat) (bit : Nat) : (Part.latchMfr p n bit).outer = p.outer := by
  simp [Part.latchMfr]

@[simp] theorem Part.latchMfrAll_outer (p : Part) (bit : Nat) : (Part.latchMfrAll p bit).outer = p.outer := by
  simp [Part.latchMfrAll]

@[simp] theorem Part.tick_outer (p : Part) : (Part.tick p).outer = p.outer := by
  simp [Part.tick]

@[simp] theorem Part.sendFault_outer (p : Part) (code : Nat) (cls : Nat) (rail : Option Nat) :
    (Part.sendFault p code cls rail).outer = p.outer := by
  simp [Part.sendFault]

@[simp] theorem Part.sendHb_outer (p : Part) : (Part.sendHb p).outer = p.outer := by
  simp [Part.sendHb]

@[simp] theorem Part.selfFaultNow_outer (p : Part) : (Part.selfFaultNow p).outer = p.outer := by
  simp [Part.selfFaultNow]

@[simp] theorem Part.noSpareAct_outer (p : Part) (n : Nat) (s : Nat) : (Part.noSpareAct p n s).outer = p.outer := by
  simp [Part.noSpareAct]

@[simp] theorem Part.noSpareCheck_outer (p : Part) : (Part.noSpareCheck p).outer = p.outer := by
  simp [Part.noSpareCheck]

@[simp] theorem Part.handoverCommit_outer (p : Part) (n : Nat) : (Part.handoverCommit p n).outer = p.outer := by
  unfold Part.handoverCommit; split <;> simp

@[simp] theorem Part.enterRegulate_outer (p : Part) (n : Nat) : (Part.enterRegulate p n).outer = p.outer := by
  simp [Part.enterRegulate]

@[simp] theorem Part.leaveBurst_outer (p : Part) (n : Nat) : (Part.leaveBurst p n).outer = p.outer := by
  simp [Part.leaveBurst]

@[simp] theorem Part.nextDac_outer (p : Part) (n : Nat) : (Part.nextDac p n).outer = p.outer := by
  simp [Part.nextDac]

@[simp] theorem Part.pbCommit_outer (p : Part) (n : Nat) : (Part.pbCommit p n).outer = p.outer := by
  simp only [Part.pbCommit]; (repeat' split) <;> simp

@[simp] theorem Part.commit_outer (p : Part) (n : Nat) : (Part.commit p n).outer = p.outer := by
  simp [Part.commit]

@[simp] theorem Part.showLaw_outer (p : Part) (s : Nat) (y : Int) (uls : Int) (dc : Int) (d : Int) :
    (Part.showLaw p s y uls dc d).outer = p.outer := by
  simp [Part.showLaw]

@[simp] theorem Part.compute_outer (p : Part) (n : Nat) (s : Nat) (vsp : Nat) (xc : Int) :
    (Part.compute p n s vsp xc).outer = p.outer := by
  simp [Part.compute]

@[simp] theorem Part.waitCleared_outer (p : Part) (n : Nat) (f : Nat) : (Part.waitCleared p n f).outer = p.outer := by
  simp [Part.waitCleared]

@[simp] theorem Part.conditionClear_outer (p : Part) (f : Nat) : (Part.conditionClear p f).outer = p.outer := by
  simp [Part.conditionClear]

@[simp] theorem Part.latchAvs_outer (p : Part) (n : Nat) (bit : Nat) : (Part.latchAvs p n bit).outer = p.outer := by
  simp [Part.latchAvs]

@[simp] theorem Part.latchInput_outer (p : Part) (bit : Nat) : (Part.latchInput p bit).outer = p.outer := by
  simp [Part.latchInput]

@[simp] theorem Part.latchFault_outer (p : Part) (n : Nat) (f : Nat) : (Part.latchFault p n f).outer = p.outer := by
  unfold Part.latchFault; split <;> simp

@[simp] theorem Part.faultEvent_outer (p : Part) (n : Nat) (f : Nat) : (Part.faultEvent p n f).outer = p.outer := by
  simp [Part.faultEvent]

@[simp] theorem Part.enterHold_outer (p : Part) (n : Nat) (f : Nat) (iHold : Int) :
    (Part.enterHold p n f iHold).outer = p.outer := by
  simp [Part.enterHold]

@[simp] theorem Part.hicUp_outer (p : Part) (n : Nat) : (Part.hicUp p n).outer = p.outer := by
  simp [Part.hicUp]

@[simp] theorem Part.enterRampDown_outer (p : Part) (n : Nat) (ss : Option SoftStop) :
    (Part.enterRampDown p n ss).outer = p.outer := by
  simp [Part.enterRampDown]

@[simp] theorem Part.respond_outer (p : Part) (pre : Part) (n : Nat) (rank : Nat) (e : EndState)
    (counted : Bool) (src : Nat) (code : Nat) (cls : RecClass) (unit : Option Nat) (recordNow : Bool) :
    (Part.respond p pre n rank e counted src code cls unit recordNow).outer = p.outer := by
  simp only [Part.respond]; (repeat' split) <;> simp

@[simp] theorem Part.respondAll_outer (p : Part) (pre : Part) (n : Nat) (codes : List Nat) (f : Nat)
    (unit : Option Nat) (recordNow : Bool) :
    (Part.respondAll p pre n codes f unit recordNow).outer = p.outer := by
  simp [Part.respondAll]

@[simp] theorem Part.faultHeld_outer (p : Part) (pre : Part) (n : Nat) (f : Nat) (cls : RecClass)
    (unit : Option Nat) (iHold : Int) (noHold : Bool) :
    (Part.faultHeld p pre n f cls unit iHold noHold).outer = p.outer := by
  unfold Part.faultHeld; split <;> simp

@[simp] theorem Part.mergeEnd_outer (p : Part) (pre : Part) (n : Nat) (f : Nat) (cls : RecClass) (unit : Option Nat) :
    (Part.mergeEnd p pre n f cls unit).outer = p.outer := by
  simp [Part.mergeEnd]

@[simp] theorem Part.protEvent_outer (p : Part) (n : Nat) : (Part.protEvent p n).outer = p.outer := by
  simp [Part.protEvent]

@[simp] theorem Part.fault_outer (p : Part) (n : Nat) (f : Nat) (unit : optParam (Option Nat) none)
    (iHold : optParam Int 0) (noHold : optParam Bool false) :
    (Part.fault p n f unit iHold noHold).outer = p.outer := by
  simp [Part.fault]

@[simp] theorem Part.ovLevel_outer (p : Part) (n : Nat) : (Part.ovLevel p n).outer = p.outer := by
  simp [Part.ovLevel]

@[simp] theorem Part.entryTests_outer (p : Part) (n : Nat) : (Part.entryTests p n).outer = p.outer := by
  simp [Part.entryTests]

@[simp] theorem Part.uvLevel_outer (p : Part) (n : Nat) : (Part.uvLevel p n).outer = p.outer := by
  simp [Part.uvLevel]

@[simp] theorem Part.reqEval_outer (p : Part) (n : Nat) : (Part.reqEval p n).outer = p.outer := by
  simp [Part.reqEval]

@[simp] theorem Part.reqChanged_outer (p : Part) (n : Nat) : (Part.reqChanged p n).outer = p.outer := by
  simp [Part.reqChanged]

@[simp] theorem Part.controlDebounce_outer (p : Part) (level : Bool) (heldNs : Nat) :
    (Part.controlDebounce p level heldNs).outer = p.outer := by
  simp [Part.controlDebounce]

@[simp] theorem Part.dwells_outer (p : Part) (n : Nat) (iFast : Int) : (Part.dwells p n iFast).outer = p.outer := by
  simp [Part.dwells]

@[simp] theorem Part.frozenRun_outer (p : Part) (n : Nat) (w : Window) : (Part.frozenRun p n w).outer = p.outer := by
  simp [Part.frozenRun]

@[simp] theorem Part.gridMove_outer (p : Part) (n : Nat) : (Part.gridMove p n).outer = p.outer := by
  unfold Part.gridMove; split <;> simp

@[simp] theorem Part.holdSample_outer (p : Part) (n : Nat) (iFast : Int) :
    (Part.holdSample p n iFast).outer = p.outer := by
  simp [Part.holdSample]

@[simp] theorem Part.loadLine_outer (p : Part) (n : Nat) (iM : Int) : (Part.loadLine p n iM).outer = p.outer := by
  simp [Part.loadLine]

@[simp] theorem Part.setAcc_outer (p : Part) (n : Nat) (acc : Nat) : (Part.setAcc p n acc).outer = p.outer := by
  simp [Part.setAcc]

@[simp] theorem Part.softEnd_outer (p : Part) (n : Nat) (x : SoftStop) : (Part.softEnd p n x).outer = p.outer := by
  simp [Part.softEnd]

@[simp] theorem Part.moveVsp_outer (p : Part) (n : Nat) : (Part.moveVsp p n).outer = p.outer := by
  simp only [Part.moveVsp]; (repeat' split) <;> simp

@[simp] theorem Part.moveTested_outer (p : Part) (n : Nat) : (Part.moveTested p n).outer = p.outer := by
  simp [Part.moveTested]

@[simp] theorem Part.openSegment_outer (p : Part) (n : Nat) (vsp : Nat) (w : Window) :
    (Part.openSegment p n vsp w).outer = p.outer := by
  unfold Part.openSegment; split <;> simp

@[simp] theorem Part.overload_outer (p : Part) (n : Nat) (iM : Int) : (Part.overload p n iM).outer = p.outer := by
  simp [Part.overload]

@[simp] theorem Part.pgSample_outer (p : Part) (n : Nat) (w : Window) (vsp : Nat) :
    (Part.pgSample p n w vsp).outer = p.outer := by
  simp [Part.pgSample]

@[simp] theorem Part.probeStat_outer (p : Part) (n : Nat) (w : Window) : (Part.probeStat p n w).outer = p.outer := by
  simp [Part.probeStat]

@[simp] theorem Part.reefCurrent_outer (p : Part) (n : Nat) (iM : Int) :
    (Part.reefCurrent p n iM).outer = p.outer := by
  simp [Part.reefCurrent]

@[simp] theorem Part.senseLine_outer (p : Part) (n : Nat) (w : Window) (closed : Bool) (sig : Bool) :
    (Part.senseLine p n w closed sig).outer = p.outer := by
  simp [Part.senseLine]

@[simp] theorem Part.showWindow_outer (p : Part) (n : Nat) (w : Window) :
    (Part.showWindow p n w).outer = p.outer := by
  simp [Part.showWindow]

@[simp] theorem Part.freeIncoming_outer (p : Part) (x : Exch) : (Part.freeIncoming p x).outer = p.outer := by
  simp [Part.freeIncoming]

@[simp] theorem Part.handoverSample_outer (p : Part) (n : Nat) (e : Exch) (dOut : Int) (i : LawIn)
    (xh : List Int) (yh : List Int) :
    (Part.handoverSample p n e dOut i xh yh).outer = p.outer := by
  simp [Part.handoverSample]

@[simp] theorem Part.dropSwap_outer (p : Part) (s : Nat) : (Part.dropSwap p s).outer = p.outer := by
  unfold Part.dropSwap; split <;> simp

@[simp] theorem Part.unreserve_outer (p : Part) (s : Nat) : (Part.unreserve p s).outer = p.outer := by
  simp [Part.unreserve]

@[simp] theorem Part.loseReservation_outer (p : Part) (s : Nat) : (Part.loseReservation p s).outer = p.outer := by
  simp [Part.loseReservation]

@[simp] theorem Part.rotBack_outer (p : Part) : (Part.rotBack p).outer = p.outer := by
  simp [Part.rotBack]

@[simp] theorem Part.preempt_outer (p : Part) (x : Exch) : (Part.preempt p x).outer = p.outer := by
  simp [Part.preempt]

@[simp] theorem Part.requestReplace_outer (p : Part) (n : Nat) (s : Nat) (timing : Nat) (at_ : Nat) :
    (Part.requestReplace p n s timing at_).outer = p.outer := by
  unfold Part.requestReplace; split <;> simp

@[simp] theorem Part.failSlice_outer (p : Part) (s : Nat) (cause : Nat) :
    (Part.failSlice p s cause).outer = p.outer := by
  simp only [Part.failSlice]; (repeat' split) <;> simp

@[simp] theorem Part.lockstepFault_outer (p : Part) (s : Nat) (cause : Nat) :
    (Part.lockstepFault p s cause).outer = p.outer := by
  simp only [Part.lockstepFault]; (repeat' split) <;> simp

@[simp] theorem Part.incoming_outer (p : Part) (n : Nat) (vsp : Nat) (xc : Int) (dOut : Int) (ok : Bool) :
    (Part.incoming p n vsp xc dOut ok).outer = p.outer := by
  unfold Part.incoming; split <;> simp

@[simp] theorem Part.pbHandover_outer (p : Part) (n : Nat) (s : Nat) (vsp : Nat) (xc : Int) :
    (Part.pbHandover p n s vsp xc).outer = p.outer := by
  simp [Part.pbHandover]

@[simp] theorem Part.rebuild_outer (p : Part) (n : Nat) (s : Nat) (i0 : Int) (i1 : Int) (e1 : Int) (d : Int)
    (steps : Nat) :
    (Part.rebuild p n s i0 i1 e1 d steps).outer = p.outer := by
  simp [Part.rebuild]

@[simp] theorem Part.raObserve_outer (p : Part) (n : Nat) (i0 : Int) (i1 : Int) (e0 : Int) (e1 : Int) :
    (Part.raObserve p n i0 i1 e0 e1).outer = p.outer := by
  simp [Part.raObserve]

@[simp] theorem Part.reachKh_outer (p : Part) (n : Nat) : (Part.reachKh p n).outer = p.outer := by
  unfold Part.reachKh; split <;> simp

@[simp] theorem Part.validate_outer (p : Part) (n : Nat) (e : Int) (sat : Bool) :
    (Part.validate p n e sat).outer = p.outer := by
  simp only [Part.validate]; (repeat' split) <;> simp

@[simp] theorem Part.raBuild_outer (p : Part) (n s : Nat) (i0 i1 e1 xc d : Int) (spec : List Bool) :
    (p.raBuild n s i0 i1 e1 xc d spec).1.outer = p.outer := by
  simp only [Part.raBuild]; split <;> simp

@[simp] theorem Part.slicesAt_outer (p : Part) (n : Nat) (vsp : Nat) (w : Window) (iFast : Int) (checks : Checks)
    (spec : List Bool) : (Part.slicesAt p n vsp w iFast checks spec).outer = p.outer := by
  simp only [Part.slicesAt]; (repeat' split) <;> simp

@[simp] theorem Part.startSoft_outer (p : Part) (n : Nat) : (Part.startSoft p n).outer = p.outer := by
  unfold Part.startSoft; split <;> simp

@[simp] theorem Part.tracking_outer (p : Part) (n : Nat) (w : Window) (vsp : Nat) (iFast : Int) :
    (Part.tracking p n w vsp iFast).outer = p.outer := by
  simp [Part.tracking]

@[simp] theorem Part.voltageRuns_outer (p : Part) (n : Nat) (w : Window) (sig : Bool) (vsp : Nat) :
    (Part.voltageRuns p n w sig vsp).outer = p.outer := by
  simp [Part.voltageRuns]

@[simp] theorem Part.controlSample_outer (p : Part) (n : Nat) (uv : List Int) (checks : Checks) (spec : List Bool) :
    (Part.controlSample p n uv checks spec).outer = p.outer := by
  unfold Part.controlSample; split <;> simp

@[simp] theorem Part.crcBad_outer (p : Part) (v1 : HalPort) : (Part.crcBad p v1).outer = p.outer := by
  unfold Part.crcBad; split <;> simp

@[simp] theorem Part.softLatch_outer (p : Part) (n : Nat) (code : Nat) (unit : Option Nat) :
    (Part.softLatch p n code unit).outer = p.outer := by
  simp only [Part.softLatch]; (repeat' split) <;> simp

@[simp] theorem Part.retireOutcome_outer (p : Part) (n : Nat) (code : Nat) (unit : Option Nat) :
    (Part.retireOutcome p n code unit).outer = p.outer := by
  simp [Part.retireOutcome]

@[simp] theorem Part.retireRail_outer (p : Part) (n : Nat) : (Part.retireRail p n).outer = p.outer := by
  unfold Part.retireRail; split <;> simp

@[simp] theorem Part.decideRetire_outer (p : Part) (n : Nat) (q : Nat) (cause : Nat) :
    (Part.decideRetire p n q cause).outer = p.outer := by
  simp [Part.decideRetire]

@[simp] theorem Part.digestCheck_outer (p : Part) (s : Nat) (o : DigestOutcome) :
    (Part.digestCheck p s o).outer = p.outer := by
  unfold Part.digestCheck; (repeat' split) <;> simp

@[simp] theorem Part.modHk_outer (p : Part) (f : HkCore → HkCore) : (Part.modHk p f).outer = p.outer := by
  simp [Part.modHk]

@[simp] theorem Part.modSeq_outer (p : Part) (s : Nat) (f : SeqCore → SeqCore) :
    (Part.modSeq p s f).outer = p.outer := by
  simp [Part.modSeq]

@[simp] theorem Part.dropTrigger_outer (p : Part) (s : Nat) : (Part.dropTrigger p s).outer = p.outer := by
  simp [Part.dropTrigger]

@[simp] theorem Part.ecInjFail_outer (p : Part) (n : Nat) : (Part.ecInjFail p n).outer = p.outer := by
  simp [Part.ecInjFail]

@[simp] theorem Part.enDebounce_outer (p : Part) (n : Nat) (level : Bool) (heldNs : Nat) :
    (Part.enDebounce p n level heldNs).outer = p.outer := by
  simp [Part.enDebounce]

@[simp] theorem Part.evalWear_outer (p : Part) : (Part.evalWear p).outer = p.outer := by
  simp [Part.evalWear]

@[simp] theorem Part.forward_outer (p : Part) (from_ : HalPort) (f : Frame) (bad : Bool) :
    (Part.forward p from_ f bad).outer = p.outer := by
  simp [Part.forward]

@[simp] theorem Part.frozen_outer (p : Part) (n : Nat) : (Part.frozen p n).outer = p.outer := by
  simp [Part.frozen]

@[simp] theorem Part.lawLoad_outer (p : Part) (s : Nat) (set : List Nat) :
    (Part.lawLoad p s set).outer = p.outer := by
  simp [Part.lawLoad]

@[simp] theorem Part.replay_outer (p : Part) (s : Nat) (h : Int × Int × Nat) :
    (Part.replay p s h).outer = p.outer := by
  simp [Part.replay]

@[simp] theorem Part.loadSlice_outer (p : Part) (x : Exch) (s : Nat) : (Part.loadSlice p x s).outer = p.outer := by
  simp [Part.loadSlice]

theorem Part.pickSpare_outer (p q : Part) (x : Exch) (s : Nat) (h : p.pickSpare x = some (s, q)) :
    q.outer = p.outer := by
  unfold Part.pickSpare at h
  split at h
  · split at h
    · cases h; simp
    · cases h
  · cases hs : (p.openSpares false).head? <;> simp [hs] at h; rw [← h.2]
  · cases hs : (p.openSpares false).head? <;> simp [hs] at h; rw [← h.2]
  · split at h <;> cases h <;> simp

@[simp] theorem Part.grant_outer (p : Part) : (Part.grant p).outer = p.outer := by
  simp only [Part.grant]; split
  · rfl
  · split
    · rfl
    · split
      · simp
      · split
        · simp
        · rename_i h; split <;> simp [Part.pickSpare_outer _ _ _ _ h]

@[simp] theorem Part.hal0_outer (p : Part) : (Part.hal0 p).outer = p.outer := by
  simp [Part.hal0]

@[simp] theorem Part.healthForecast_outer (p : Part) (q : Nat) (i : Nat) :
    (Part.healthForecast p q i).outer = p.outer := by
  unfold Part.healthForecast; split <;> simp

@[simp] theorem Part.pushEntry_outer (p : Part) (e : HkEntry) : (Part.pushEntry p e).outer = p.outer := by
  simp [Part.pushEntry]

@[simp] theorem Part.injResult_outer (p : Part) (slot : Nat) (conv : Nat) (ch : Nat) (raw : Option Nat)
    (stamp : Nat) :
    (Part.injResult p slot conv ch raw stamp).outer = p.outer := by
  unfold Part.injResult; split <;> simp

@[simp] theorem Part.interrupt_outer (p : Part) (c : Nat) : (Part.interrupt p c).outer = p.outer := by
  unfold Part.interrupt; split <;> simp

@[simp] theorem Part.seqEnd_outer (p : Part) (s : Nat) : (Part.seqEnd p s).outer = p.outer := by
  simp [Part.seqEnd]

@[simp] theorem Part.seqAdvance_outer (p : Part) (s : Nat) : (Part.seqAdvance p s).outer = p.outer := by
  simp [Part.seqAdvance]

@[simp] theorem Part.seqResult_outer (p : Part) (s : Nat) (e : Nat) (conv : Nat) (ch : Nat) (raw : Option Nat)
    (stamp : Nat) :
    (Part.seqResult p s e conv ch raw stamp).outer = p.outer := by
  unfold Part.seqResult; split <;> simp

@[simp] theorem Part.setJob_outer (p : Part) (c : Nat) (j : Option HkJob) : (Part.setJob p c j).outer = p.outer := by
  simp [Part.setJob]

@[simp] theorem Part.takeCal_outer (p : Part) (c : Nat) (k : Capture) : (Part.takeCal p c k).outer = p.outer := by
  simp only [Part.takeCal]; (repeat' split) <;> simp

@[simp] theorem Part.takeReadback_outer (p : Part) (c : Nat) : (Part.takeReadback p c).outer = p.outer := by
  simp [Part.takeReadback]

@[simp] theorem Part.timedStart_outer (p : Part) (c : Nat) (s : Nat) : (Part.timedStart p c s).outer = p.outer := by
  simp [Part.timedStart]

@[simp] theorem Part.takeWork_outer (p : Part) (v1 : Nat) (v2 : Nat) : (Part.takeWork p v1 v2).outer = p.outer := by
  induction v1 generalizing p with | zero => rfl | succ k ih => simp only [Part.takeWork]; (repeat' split) <;> simp [ih]

@[simp] theorem Part.hkKick_outer (p : Part) : (Part.hkKick p).outer = p.outer := by
  simp [Part.hkKick]

@[simp] theorem Part.holdEnd_outer (p : Part) (n : Nat) : (Part.holdEnd p n).outer = p.outer := by
  unfold Part.holdEnd; split <;> simp

@[simp] theorem Part.inputFault_outer (p : Part) (f : Nat) : (Part.inputFault p f).outer = p.outer := by
  simp [Part.inputFault]

@[simp] theorem Part.lipOrder_outer (p : Part) (tc : Nat) : (Part.lipOrder p tc).outer = p.outer := by
  unfold Part.lipOrder; split <;> simp

@[simp] theorem Part.lipStrobe_outer (p : Part) (port : LipPort) (code : Nat) :
    (Part.lipStrobe p port code).outer = p.outer := by
  unfold Part.lipStrobe; (repeat' split) <;> simp

@[simp] theorem Part.loseLock_outer (p : Part) : (Part.loseLock p).outer = p.outer := by
  simp [Part.loseLock]

@[simp] theorem Part.lockCount_outer (p : Part) (ofs : Int) : (Part.lockCount p ofs).outer = p.outer := by
  simp [Part.lockCount]

@[simp] theorem Part.markBad_outer (p : Part) (page : Nat) : (Part.markBad p page).outer = p.outer := by
  simp [Part.markBad]

@[simp] theorem Part.monEvent_outer (p : Part) (m : Nat) (st : Nat) : (Part.monEvent p m st).outer = p.outer := by
  unfold Part.monEvent; split <;> simp

@[simp] theorem Part.monFaults_outer (p : Part) (m : Nat) (st : Nat) : (Part.monFaults p m st).outer = p.outer := by
  simp [Part.monFaults]

@[simp] theorem Part.seqTrigger_outer (p : Part) (s : Nat) : (Part.seqTrigger p s).outer = p.outer := by
  simp [Part.seqTrigger]

@[simp] theorem Part.seqTriggers_outer (p : Part) (l : List Nat) : (Part.seqTriggers p l).outer = p.outer := by
  simp [Part.seqTriggers]

@[simp] theorem Part.monTriggers_outer (p : Part) (m : Nat) (st : Nat) :
    (Part.monTriggers p m st).outer = p.outer := by
  simp [Part.monTriggers]

@[simp] theorem Part.monTo_outer (p : Part) (m : Nat) (st : Nat) : (Part.monTo p m st).outer = p.outer := by
  simp [Part.monTo]

@[simp] theorem Part.monEval_outer (p : Part) (m : Nat) (uv : Nat) : (Part.monEval p m uv).outer = p.outer := by
  simp [Part.monEval]

@[simp] theorem Part.monCrossing_outer (p : Part) (m : Nat) (uv : Nat) :
    (Part.monCrossing p m uv).outer = p.outer := by
  simp [Part.monCrossing]

@[simp] theorem Part.monStart_outer (p : Part) (m : Nat) (uv : Nat) : (Part.monStart p m uv).outer = p.outer := by
  simp [Part.monStart]

@[simp] theorem Part.pbLatch_outer (p : Part) (n : Nat) : (Part.pbLatch p n).outer = p.outer := by
  simp [Part.pbLatch]

@[simp] theorem Part.pbBurst_outer (p : Part) (n : Nat) : (Part.pbBurst p n).outer = p.outer := by
  simp [Part.pbBurst]

@[simp] theorem Part.pbLow_outer (p : Part) (n : Nat) : (Part.pbLow p n).outer = p.outer := by
  simp [Part.pbLow]

@[simp] theorem Part.pbAct_outer (p : Part) (n : Nat) (st : Nat) : (Part.pbAct p n st).outer = p.outer := by
  unfold Part.pbAct; split <;> simp

@[simp] theorem Part.pbSample_outer (p : Part) (n : Nat) : (Part.pbSample p n).outer = p.outer := by
  simp [Part.pbSample]

@[simp] theorem Part.pbSamples_outer (p : Part) (m : Nat) : (Part.pbSamples p m).outer = p.outer := by
  simp [Part.pbSamples]

@[simp] theorem Part.window2us_outer (p : Part) (m : Nat) : (Part.window2us p m).outer = p.outer := by
  simp [Part.window2us]

@[simp] theorem Part.monSample_outer (p : Part) (m : Nat) (uv : Nat) : (Part.monSample p m uv).outer = p.outer := by
  simp [Part.monSample]

@[simp] theorem Part.noteCopy_outer (p : Part) (f : Frame) : (Part.noteCopy p f).outer = p.outer := by
  simp [Part.noteCopy]

@[simp] theorem Part.offWaitExpiry_outer (p : Part) (n : Nat) : (Part.offWaitExpiry p n).outer = p.outer := by
  simp [Part.offWaitExpiry]

@[simp] theorem Part.retryUnit_outer (p : Part) (o : NvmOp) : (Part.retryUnit p o).outer = p.outer := by
  unfold Part.retryUnit; split <;> simp

@[simp] theorem Part.showHeld_outer (p : Part) (m : List Host.Cell) : (Part.showHeld p m).outer = p.outer := by
  simp [Part.showHeld]

@[simp] theorem Part.slotWritten_outer (p : Part) (o : NvmOp) : (Part.slotWritten p o).outer = p.outer := by
  simp [Part.slotWritten]

@[simp] theorem Part.unitSealed_outer (p : Part) (o : NvmOp) : (Part.unitSealed p o).outer = p.outer := by
  unfold Part.unitSealed; split <;> simp

@[simp] theorem Part.ovEc_outer (p : Part) (n : Nat) : (Part.ovEc p n).outer = p.outer := by
  simp [Part.ovEc]

@[simp] theorem Part.overdueSet_outer (p : Part) : (Part.overdueSet p).outer = p.outer := by
  unfold Part.overdueSet; split <;> simp

@[simp] theorem Part.pbLate_outer (p : Part) (n : Nat) (st : Nat) : (Part.pbLate p n st).outer = p.outer := by
  simp [Part.pbLate]

@[simp] theorem Part.pbEnd_outer (p : Part) (n : Nat) : (Part.pbEnd p n).outer = p.outer := by
  simp [Part.pbEnd]

@[simp] theorem Part.setCalFail_outer (p : Part) (q : Nat) : (Part.setCalFail p q).outer = p.outer := by
  simp [Part.setCalFail]

@[simp] theorem Part.phInjFail_outer (p : Part) (q : Nat) : (Part.phInjFail p q).outer = p.outer := by
  unfold Part.phInjFail; split <;> simp

@[simp] theorem Part.phaseOpen_outer (p : Part) (q : Nat) : (Part.phaseOpen p q).outer = p.outer := by
  unfold Part.phaseOpen; split <;> simp

@[simp] theorem Part.phaseSc_outer (p : Part) (q : Nat) : (Part.phaseSc p q).outer = p.outer := by
  unfold Part.phaseSc; split <;> simp

@[simp] theorem Part.phaseSenseFault_outer (p : Part) (q : Nat) (c : SenseCond) :
    (Part.phaseSenseFault p q c).outer = p.outer := by
  unfold Part.phaseSenseFault; split <;> simp

@[simp] theorem Part.reqEvalAll_outer (p : Part) : (Part.reqEvalAll p).outer = p.outer := by
  simp [Part.reqEvalAll]

@[simp] theorem Part.ringEval_outer (p : Part) (unit : optParam Nat 255) :
    (Part.ringEval p unit).outer = p.outer := by
  simp [Part.ringEval]

@[simp] theorem Part.selfFaultTimeout_outer (p : Part) : (Part.selfFaultTimeout p).outer = p.outer := by
  simp [Part.selfFaultTimeout]

@[simp] theorem Part.senseStraps_outer (p : Part) (x : Straps) : (Part.senseStraps p x).outer = p.outer := by
  simp [Part.senseStraps]

@[simp] theorem Part.shortAtStart_outer (p : Part) (n : Nat) : (Part.shortAtStart p n).outer = p.outer := by
  unfold Part.shortAtStart; split <;> simp

@[simp] theorem Part.showOffset_outer (p : Part) (ofs : Int) (hops : Nat) :
    (Part.showOffset p ofs hops).outer = p.outer := by
  simp [Part.showOffset]

@[simp] theorem Part.sliceTestEnd_outer (p : Part) (s : Nat) (run : TestRun) :
    (Part.sliceTestEnd p s run).outer = p.outer := by
  unfold Part.sliceTestEnd; (repeat' split) <;> simp

@[simp] theorem Part.stageFault_outer (p : Part) (k : Nat) (heldNs : Nat) :
    (Part.stageFault p k heldNs).outer = p.outer := by
  simp [Part.stageFault]

@[simp] theorem Part.tbCatchUp_outer (p : Part) : (Part.tbCatchUp p).outer = p.outer := by
  simp [Part.tbCatchUp]

@[simp] theorem Part.tbCorrect_outer (p : Part) (ofs : Int) : (Part.tbCorrect p ofs).outer = p.outer := by
  simp [Part.tbCorrect]

@[simp] theorem Part.receive_outer (p : Part) (r : HalRx) (type : Nat) (fwd : Frame → Frame) :
    (p.receive r type fwd).1.outer = p.outer := by
  simp only [Part.receive]; (repeat' split) <;> simp

@[simp] theorem Part.sync_outer (p : Part) (r : HalRx) : (Part.sync p r).outer = p.outer := by
  simp only [Part.sync]; (repeat' split) <;> simp

@[simp] theorem Part.uvEc_outer (p : Part) (n : Nat) : (Part.uvEc p n).outer = p.outer := by
  simp [Part.uvEc]

@[simp] theorem Part.vinFault_outer (p : Part) (l : VinLevel) : (Part.vinFault p l).outer = p.outer := by
  unfold Part.vinFault; (repeat' split) <;> simp

@[simp] theorem Part.vinsSample_outer (p : Part) (code : Int) : (Part.vinsSample p code).outer = p.outer := by
  simp [Part.vinsSample]

@[simp] theorem Part.wakeSenses_outer (p : Part) (old : Part) (x : Straps) :
    (Part.wakeSenses p old x).outer = p.outer := by
  simp [Part.wakeSenses]

end Sys2Proof.Machine
end

