-- ==== Sys2Proof/Laws/Nvm.lean ====
section
/-!
SUPPORT. The laws of the NVM array: every operation keeps its canonical form, and what a read sees of a write and of an
erase.
-/

namespace Sys2Proof.Machine

theorem nvmWfFrom_mono (lo lo' : Nat) (m : List Host.Cell) (h : lo' ≤ lo) (w : nvmWfFrom lo m = true) :
    nvmWfFrom lo' m = true := by
  cases m with
  | nil => rfl
  | cons c r =>
    obtain ⟨k, b⟩ := c
    simp only [nvmWfFrom, Bool.and_eq_true, decide_eq_true_eq] at w ⊢
    exact ⟨⟨⟨by omega, w.1.1.2⟩, w.1.2⟩, w.2⟩

/-- Below the bound of a canonical list every byte reads as erased. -/
theorem nvmRead_below (lo a : Nat) (m : List Host.Cell) (h : a < lo) (w : nvmWfFrom lo m = true) : nvmRead m a = 0xFF#8 := by
  cases m with
  | nil => rfl
  | cons c r =>
    obtain ⟨k, b⟩ := c
    simp only [nvmWfFrom, Bool.and_eq_true, decide_eq_true_eq] at w
    have h1 : ¬ a = k := by omega
    have h2 : a < k := by omega
    simp [nvmRead, h1, h2]

theorem nvmInsert_wfFrom (lo : Nat) (m : List Host.Cell) (a : Nat) (b : Byte) (ha : lo ≤ a) (hb : a < 65536)
    (w : nvmWfFrom lo m = true) : nvmWfFrom lo (nvmInsert m a b) = true := by
  induction m generalizing lo with
  | nil => by_cases h : b = 0xFF#8 <;> simp [nvmInsert, nvmWfFrom, h, ha, hb]
  | cons c r ih =>
    obtain ⟨k, c⟩ := c
    have w0 := w
    simp only [nvmWfFrom, Bool.and_eq_true, decide_eq_true_eq] at w
    simp only [nvmInsert]
    split
    · rename_i hlt
      split
      · exact w0
      · have : nvmWfFrom (a + 1) ((k, c) :: r) = true := by
          simp only [nvmWfFrom, Bool.and_eq_true, decide_eq_true_eq]
          exact ⟨⟨⟨by omega, w.1.1.2⟩, w.1.2⟩, w.2⟩
        simp_all [nvmWfFrom]
    · split
      · rename_i heq; subst heq
        split
        · exact nvmWfFrom_mono _ _ _ (by omega) w.2
        · simp_all [nvmWfFrom]
      · have := ih (k + 1) (by omega) w.2
        simp_all [nvmWfFrom]

/-- A read of the byte just written. -/
theorem nvmRead_insert_same (lo : Nat) (m : List Host.Cell) (a : Nat) (b : Byte) (w : nvmWfFrom lo m = true) :
    nvmRead (nvmInsert m a b) a = b := by
  induction m generalizing lo with
  | nil => by_cases h : b = 0xFF#8 <;> simp [nvmInsert, nvmRead, h]
  | cons c r ih =>
    obtain ⟨k, c⟩ := c
    simp only [nvmWfFrom, Bool.and_eq_true, decide_eq_true_eq] at w
    simp only [nvmInsert]
    split
    · rename_i hlt
      have hne : ¬ a = k := by omega
      split
      · simp_all [nvmRead]
      · simp [nvmRead]
    · split
      · rename_i heq; subst heq
        split
        · rename_i hb; subst hb; exact nvmRead_below _ _ _ (by omega) w.2
        · simp [nvmRead]
      · rename_i h1 h2
        simp [nvmRead, h1, h2, ih _ w.2]

/-- A write leaves every other byte alone. -/
theorem nvmRead_insert_ne (lo : Nat) (m : List Host.Cell) (a a' : Nat) (b : Byte) (h : a' ≠ a) (w : nvmWfFrom lo m = true) :
    nvmRead (nvmInsert m a b) a' = nvmRead m a' := by
  induction m generalizing lo with
  | nil =>
    simp only [nvmInsert]
    split <;> simp [nvmRead, h]
  | cons c r ih =>
    obtain ⟨k, c⟩ := c
    simp only [nvmWfFrom, Bool.and_eq_true, decide_eq_true_eq] at w
    simp only [nvmInsert]
    split
    · rename_i hlt
      split
      · rfl
      · simp only [nvmRead, h, if_false]
        split
        · have h3 : ¬ a' = k := by omega
          have h4 : a' < k := by omega
          simp [h3, h4]
        · rfl
    · split
      · rename_i heq; subst heq
        split
        · simp only [nvmRead, h, if_false]
          split
          · exact nvmRead_below _ _ _ (by omega) w.2
          · rfl
        · simp [nvmRead, h]
      · simp [nvmRead, ih _ w.2]

theorem nvmWrite_wf (m : List Host.Cell) (a : Nat) (b : Byte) (w : Memory.wf m = true) : Memory.wf (nvmWrite m a b) = true := by
  unfold nvmWrite
  split
  · exact nvmInsert_wfFrom 0 m a b (Nat.zero_le a) (by assumption) w
  · exact w

theorem nvmWriteBytes_wf (m : List Host.Cell) (a : Nat) (l : List Byte) (w : Memory.wf m = true) :
    Memory.wf (nvmWriteBytes m a l) = true := by
  induction l generalizing m a with
  | nil => exact w
  | cons b bs ih => exact ih _ _ (nvmWrite_wf m a b w)

/-- A write of some bytes leaves every byte outside them alone. -/
theorem nvmRead_writeBytes_outside (m : List Host.Cell) (a a' : Nat) (l : List Byte) (w : Memory.wf m = true)
    (h : a' < a ∨ a + l.length ≤ a') : nvmRead (nvmWriteBytes m a l) a' = nvmRead m a' := by
  induction l generalizing m a with
  | nil => rfl
  | cons b bs ih =>
    simp only [List.length_cons] at h
    rw [nvmWriteBytes, ih _ _ (nvmWrite_wf m a b w) (by omega)]
    unfold nvmWrite
    split
    · exact nvmRead_insert_ne 0 m a a' b (by omega) w
    · rfl

/-- Each of the bytes written inside the array reads as written. -/
theorem nvmRead_writeBytes_inside (m : List Host.Cell) (a i : Nat) (l : List Byte) (w : Memory.wf m = true)
    (h : i < l.length) (hi : a + l.length ≤ 65536) : nvmRead (nvmWriteBytes m a l) (a + i) = nth l i 0 := by
  induction l generalizing m a i with
  | nil => simp at h
  | cons b bs ih =>
    simp only [List.length_cons] at h hi
    cases i with
    | zero =>
      rw [nvmWriteBytes, nvmRead_writeBytes_outside _ _ _ _ (nvmWrite_wf m a b w) (by omega)]
      have : a < 65536 := by omega
      simpa [nvmWrite, this, nth] using nvmRead_insert_same 0 m a b w
    | succ j =>
      have := ih (nvmWrite m a b) (a + 1) j (nvmWrite_wf m a b w) (by omega) (by omega)
      rw [nvmWriteBytes, show a + (j + 1) = a + 1 + j by omega, this]
      simp [nth]

theorem nvmFilter_wfFrom (lo : Nat) (f : Host.Cell → Bool) (m : List Host.Cell) (w : nvmWfFrom lo m = true) :
    nvmWfFrom lo (m.filter f) = true := by
  induction m generalizing lo with
  | nil => rfl
  | cons c r ih =>
    obtain ⟨k, b⟩ := c
    simp only [nvmWfFrom, Bool.and_eq_true, decide_eq_true_eq] at w
    rw [List.filter_cons]
    split
    · simp only [nvmWfFrom, Bool.and_eq_true, decide_eq_true_eq]
      exact ⟨w.1, ih _ w.2⟩
    · exact nvmWfFrom_mono _ _ _ (by omega) (ih _ w.2)

theorem nvmErase_wf (m : List Host.Cell) (page : Nat) (w : Memory.wf m = true) : Memory.wf (nvmErase m page) = true :=
  nvmFilter_wfFrom 0 _ m w

/-- An erased page reads as erased, and every other byte as before. -/
theorem nvmRead_erase (lo : Nat) (m : List Host.Cell) (page a : Nat) (w : nvmWfFrom lo m = true) :
    nvmRead (nvmErase m page) a = if page * 512 ≤ a ∧ a < page * 512 + 512 then 0xFF#8 else nvmRead m a := by
  induction m generalizing lo with
  | nil => simp [nvmErase, nvmRead]
  | cons c r ih =>
    obtain ⟨k, b⟩ := c
    simp only [nvmWfFrom, Bool.and_eq_true, decide_eq_true_eq] at w
    have hr := ih (k + 1) w.2
    unfold nvmErase at hr ⊢
    rw [List.filter_cons]
    by_cases hk : page * 512 ≤ k ∧ k < page * 512 + 512
    · have : (!(decide (page * 512 ≤ k) && decide (k < page * 512 + 512))) = false := by simp [hk]
      simp only [this, Bool.false_eq_true, if_false, hr]
      split
      · rfl
      · rename_i ho
        have h1 : ¬ a = k := fun e => ho (by subst e; exact hk)
        simp only [nvmRead, h1, if_false]
        split
        · exact nvmRead_below _ _ _ (by omega) w.2
        · rfl
    · have : (!(decide (page * 512 ≤ k) && decide (k < page * 512 + 512))) = true := by
        simp only [Bool.not_eq_true', Bool.and_eq_false_iff, decide_eq_false_iff_not]
        omega
      simp only [this, if_true, nvmRead, hr]
      by_cases h1 : a = k
      · subst h1; simp [hk]
      · by_cases h2 : a < k <;> simp [h1, h2]

/-- The array of an operation, with its page erased when it calls for it, keeps its canonical form. -/
theorem NvmOp.prepare_wf (o : NvmOp) (m : List Host.Cell) (w : Memory.wf m = true) : Memory.wf (o.prepare m) = true := by
  unfold NvmOp.prepare
  split
  · exact nvmErase_wf m _ w
  · exact w

/-- The end of an NVM operation keeps the canonical form. -/
theorem Part.opDone_wf (p : Part) (m : List Host.Cell) (ok : Bool) (w : Memory.wf m = true) :
    Memory.wf (p.opDone m ok).1 = true := by
  unfold Part.opDone
  split
  · exact w
  · split
    · exact nvmWriteBytes_wf _ _ _ (NvmOp.prepare_wf _ _ w)
    · split
      · exact nvmWriteBytes_wf _ _ _ (NvmOp.prepare_wf _ _ w)
      · exact nvmWriteBytes_wf _ _ _ (NvmOp.prepare_wf _ _ w)

/-- The abort of an NVM operation keeps the canonical form. -/
theorem Part.opAbort_wf (p : Part) (m : List Host.Cell) (w : Memory.wf m = true) : Memory.wf (p.opAbort m) = true := by
  unfold Part.opAbort
  split
  · exact w
  · exact nvmWriteBytes_wf _ _ _ (NvmOp.prepare_wf _ _ w)

end Sys2Proof.Machine
end

