-- ==== Sys2Proof/WellFormed.lean ====
section
/-!
DEFINITION. Which operands a command can carry on the real part: the width of every code, address, value and frame field
that comes from outside. The meanings are total and do not depend on it.
-/

namespace Sys2Proof

/-- A code inside a signed range. -/
def within (lo hi x : Int) : Bool := decide (lo ≤ x) && decide (x ≤ hi)

/-- A key is a field of at most 32 bits of a register write. -/
def wfKey (k : Nat) : Bool := decide (k < 2 ^ 32)

/-- ROLE and strap levels: no strap reads above the 5.5 V that a ball can see. -/
def Straps.wf (s : Straps) : Bool := decide (s.xinUv ≤ 5500000) && decide (s.addrUv ≤ 5500000)

/-- What the housekeeping inputs can carry: 57 voltages and 48 DAC outputs of at most 5.5 V either way (R474). -/
def HkInputs.wf (x : HkInputs) : Bool :=
  decide (x.uv.length = 57) && decide (x.dacUv.length = 48) && (x.uv ++ x.dacUv).all (within (-5500000) 5500000) &&
    decide (x.auxRefUv ≤ 5500000)

/-- A slot holds at most 4 MB of bytes, the signature four; status registers are bytes (R82, R85, R88). -/
def Flash.wf (f : Flash) : Bool :=
  decide (f.sfdp.signature.length = 4) && f.status.all (fun b => decide (b < 256)) && decide (f.slotA.length ≤ 0x400000) && decide (f.slotB.length ≤ 0x400000)

/-- One calibration sum for each converter, one level for each monitor, eight EN levels. -/
def StartInputs.wf (i : StartInputs) : Bool :=
  decide (i.ecSums.length = 8) && decide (i.phSums.length = 64) && decide (i.monUv.length = 24) && decide (i.enPins < 256)

/-- The field widths of a ring frame (R622, R623). -/
def HalRx.wf (r : HalRx) : Bool :=
  decide (r.frame.type < 256) && decide (r.frame.flags < 256) && decide (r.frame.src < 2 ^ 17) &&
    decide (r.frame.dest < 2 ^ 17) && decide (r.frame.id < 65536) && decide (r.frame.hops < 4096) &&
    decide (r.frame.hopLim < 4096) && decide (r.frame.payload.length ≤ 48)

/-- A PMBus block write carries at most 255 data bytes. -/
def PmbTx.wf : PmbTx → Bool
  | .read _ => true
  | .write d _ => decide (d.length ≤ 255)

/-- The field widths of an AVSBus frame (R711). -/
def AvsReq.wf (r : AvsReq) : Bool :=
  decide (r.cmd < 4) && decide (r.select < 16) && decide (r.data < 65536) && decide (r.crc < 8)

/-- The CmdDataTypes of R716. -/
def avsTypes : List Nat := [0, 1, 2, 3, 4, 5, 14]

/-- The PMBus command codes of R693 and R703. -/
def pmbCodes : List Nat :=
  [0x00, 0x01, 0x02, 0x03, 0x04, 0x19, 0x20, 0x21, 0x24, 0x25, 0x26, 0x46, 0x47, 0x4F, 0x50, 0x51, 0x60, 0x61, 0x64, 0x65,
   0x78, 0x79, 0x7A, 0x7B, 0x7C, 0x7D, 0x7E, 0x80, 0x88, 0x8B, 0x8C, 0x8D, 0x98] ++
  [0xD0, 0xD1, 0xD2, 0xD4, 0xD5, 0xD6, 0xD8, 0xD9, 0xDA, 0xDC, 0xDD]

/-- A register address is byte address of 20 bits on a 32-bit boundary, its value 32 bits (R761). -/
def wfReg (addr value : Nat) : Bool := decide (addr < 2 ^ 20) && decide (addr % 4 = 0) && decide (value < 2 ^ 32)

/-- The operands of a command fit the widths that the spec gives them. -/
def Instr.wf : Instr → Bool
  | .suppliesGood s | .wakeRequest _ s | .wakeTimer s | .resetRelease s => s.wf
  | .slotCheck f => f.wf
  | .loadComplete i => i.wf
  | .reloadDone f i => f.wf && i.wf
  | .pllLock _ m => decide (m.length = 24)
  | .park k | .safe k | .swreset k | .rollbackCommit k | .keyRevokeReq _ _ k | .requestChallenge k
  | .submitResponse k _ | .closeSession k | .timingMove k _ _ | .reserveSpare k | .barrierArrive k _ | .barrierLaunch k _ | .snapshotSchedule k _
  | .snapshotCollect k _ | .resetAll k _ | .resetNode k _ => wfKey k
  | .coefficientSwap k _ sl | .releaseReservation k sl => wfKey k && decide (sl < 16)
  | .regacc a d _ | .registerWrite _ a d => wfReg a d
  | .bypass c => decide (c < 256) && !([0x00, 0x02, 0x21, 0x30].contains c)
  | .unsupportedCommand c => decide (c < 256) && !pmbCodes.contains c
  | .controlSample _ uv _ sp => decide (uv.length = 16) && uv.all (within (-5500000) 5500000) && decide (sp.length ≤ 5)
  | .phaseSample _ c | .vinsSample c => within (-2048) 4095 c
  | .fastScTrip _ uv _ => within (-5500000) 5500000 uv
  | .load16 _ v i => decide (v < 65536) && decide (i < 65536)
  | .lipStrobe _ c => decide (c < 16)
  | .prebiasStep _ uv => within (-5500000) 5500000 uv
  | .ecInjection _ r c | .phInjection _ r c => decide (r < 2) && within (-8388608) 8388607 c
  | .conversionDone _ x => x.wf
  | .captureEnd uv a => decide (uv.length = 256) && uv.all (within (-5500000) 5500000) && decide (a ≤ 5500000)
  | .monSample _ m => m.straps.wf
  | .pbBurstEnd b => b.straps.wf
  | .seqTbhiWrite _ v | .injectedRequest v => decide (v < 2 ^ 32)
  | .softwareTrigger m => decide (m < 2 ^ 32)
  | .calZero s r | .calFull s r => decide (s < 16) && decide (r < 65536)
  | .calBindWrite _ v => decide (v < 2 ^ 32)
  | .sync r | .delayReq r | .delayResp r | .discover r | .faultFrame r | .barToken r | .barRelease r
  | .snapSched r | .snapCollect r | .snapResp r | .resetFrame r | .hb r | .pairx r | .unknownTypeFrame r => r.wf
  | .page t | .operation t | .onOffConfig t | .clearFaults t | .phase t | .capability t | .voutMode t | .voutCommand t
  | .voutMax t | .voutMarginHigh t | .voutMarginLow t | .ioutOcFaultLimit t | .ioutOcFaultResponse t
  | .otFaultLimit t | .otFaultResponse t | .otWarnLimit t | .tonDelay t | .tonRise t | .toffDelay t | .toffFall t
  | .statusByte t | .statusWord t | .statusVout t | .statusIout t | .statusInput t | .statusTemperature t
  | .statusCml t | .statusMfrSpecific t | .readVin t | .readVout t | .readIout t | .readTemperature1 t
  | .pmbusRevision t | .mfrRegAddr t | .mfrRegData t | .mfrRegDataInc t | .mfrBitCount t | .mfrBitSel t
  | .mfrBitRead t | .mfrSlogCount t | .mfrSlogSel t | .mfrSlogRead t | .mfrCalCmd t | .mfrCalStat t => t.wf
  | .avsVoltage r | .avsVoutTransitionRate r | .avsCurrentRead r | .avsTemperatureRead r | .avsResetVoltage r
  | .avsPowerMode r | .avsStatus r => r.wf
  | .avsWriteHold r t => r.wf && decide (t < 16) && decide (r.cmd = 1)
  | .avsUnsupportedType r t => r.wf && decide (t < 16) && !avsTypes.contains t
  | _ => true

end Sys2Proof
end

