-- ==== Sys2Proof/Tests/Slice0.lean ====
section
/-!
SUPPORT. The model's own tests: a well-formed and an ill-formed term for each check of `Instr.wf`, and for every statement
with hypotheses concrete states and operands that meet them, with what the step then leaves. Each test runs one command
on a small state; the expected values come from the rules that the statement cites.
-/

namespace Sys2Proof.Tests

set_option Elab.async false

open Sys2Proof Sys2Proof.Machine Sys2Proof.Machine.Reg

/-! Builders. -/

/-- A part in a device state with some register fields set: field, instance, value. -/
def part (d : Dev) (l : List (Fld × Nat × Nat)) : Part := l.foldl (fun q x => q.set x.1 x.2.2 x.2.1) { dev := d }

/-- The state of a part, with nothing waiting. -/
def st (p : Part) : State := State.reset.withPart p

/-- The state after a command. -/
def after (c : Instr) (s : State) : State :=
  match exec c s with
  | .next t => t
  | _ => s

/-- The part after a command. -/
def aft (c : Instr) (p : Part) : Part := (after c (st p)).part

def straps0 : Straps := ⟨false, false, 5000000, 40000⟩
def good : RunResult := ⟨false, true, true, true⟩
def failing : RunResult := ⟨false, true, true, false⟩
def cut : RunResult := ⟨false, false, true, true⟩
def sfdp0 : Sfdp := ⟨[0x53, 0x46, 0x44, 0x50], 1, some ⟨2, 4⟩, some ⟨0, 8⟩, none, false, some (1, 1)⟩
def flash0 : Flash := ⟨sfdp0, [0, 2], [], []⟩
def noCal : CalSums := ⟨0, 0, 0⟩
def inputs0 : StartInputs := ⟨List.replicate 8 noCal, List.replicate 64 noCal, List.replicate 24 0, 0, false⟩
def frame0 : Frame := ⟨0x10, 1, 64, 0, 7, 0, 10, []⟩
def rx0 : HalRx := ⟨.east, true, frame0⟩
def avs0 : AvsReq := ⟨0, true, 0, false, 0, 0, 0⟩
def image0 : ImageInfo := ⟨0, 1, 0, 1, []⟩

/-! Well-formed operands, and one term that each check refuses. -/

theorem test_wf_straps : (Instr.suppliesGood straps0).wf = true ∧
    (Instr.suppliesGood { straps0 with xinUv := 5500001 }).wf = false ∧
    (Instr.wakeTimer { straps0 with addrUv := 5500001 }).wf = false := by decide
theorem test_wf_flash : (Instr.slotCheck flash0).wf = true ∧
    (Instr.slotCheck { flash0 with sfdp := { sfdp0 with signature := [] } }).wf = false := by decide
theorem test_wf_inputs : (Instr.loadComplete inputs0).wf = true ∧ (Instr.loadComplete { inputs0 with monUv := [] }).wf = false ∧
    (Instr.loadComplete { inputs0 with enPins := 256 }).wf = false ∧ (Instr.reloadDone flash0 { inputs0 with ecSums := [] }).wf = false ∧
    (Instr.loadComplete { inputs0 with phSums := [] }).wf = false := by decide
theorem test_wf_pll : (Instr.pllLock true (List.replicate 24 0)).wf = true ∧ (Instr.pllLock true []).wf = false := by decide
theorem test_wf_keys : (Instr.park 0xA5).wf = true ∧ (Instr.park (2 ^ 32)).wf = false ∧
    (Instr.coefficientSwap 0xA5 0 16).wf = false ∧ (Instr.coefficientSwap 0xA5 0 8).wf = true := by decide
theorem test_wf_register : (Instr.registerWrite .pmbus 0x10 0).wf = true ∧ (Instr.registerWrite .pmbus 0x11 0).wf = false ∧
    (Instr.regacc (2 ^ 20) 0 true).wf = false ∧ (Instr.regacc 0xA0100 (2 ^ 32) true).wf = false := by decide
theorem test_wf_codes : (Instr.bypass 0xFF).wf = true ∧ (Instr.bypass 0x21).wf = false ∧
    (Instr.unsupportedCommand 0x05).wf = true ∧ (Instr.unsupportedCommand 0x8B).wf = false ∧
    (Instr.unsupportedCommand 256).wf = false := by decide
def pass : Checks := ⟨true, true⟩
def hkIn : HkInputs := ⟨List.replicate 57 1250000, 2500000, List.replicate 48 0⟩
theorem test_wf_samples : (Instr.controlSample 0 (List.replicate 16 1000000) pass []).wf = true ∧
    (Instr.controlSample 0 [] pass []).wf = false ∧ (Instr.controlSample 0 (List.replicate 16 5500001) pass []).wf = false ∧
    (Instr.controlSample 0 (List.replicate 16 0) pass (List.replicate 6 true)).wf = false ∧
    (Instr.phaseSample 0 (-2049)).wf = false ∧ (Instr.vinsSample 4095).wf = true ∧ (Instr.vinsSample 4096).wf = false ∧
    (Instr.prebiasStep 0 (-5500001)).wf = false ∧ (Instr.conversionDone .a { hkIn with uv := [] }).wf = false ∧
    (Instr.conversionDone .a hkIn).wf = true ∧ (Instr.captureEnd [0] 0).wf = false ∧ (Instr.captureEnd (List.replicate 256 0) 5500001).wf = false := by decide +kernel
theorem test_wf_small : (Instr.load16 0 65536 0).wf = false ∧ (Instr.load16 0 65535 9).wf = true ∧ (Instr.lipStrobe .a 16).wf = false ∧
    (Instr.ecInjection 0 2 0).wf = false ∧ (Instr.phInjection 0 1 0).wf = true ∧ (Instr.seqTbhiWrite 0 (2 ^ 32)).wf = false ∧
    (Instr.softwareTrigger (2 ^ 32)).wf = false ∧ (Instr.injectedRequest (2 ^ 32)).wf = false ∧ (Instr.calZero 16 0).wf = false ∧
    (Instr.calFull 0 65536).wf = false ∧ (Instr.calBindWrite 0 (2 ^ 32)).wf = false := by decide
theorem test_wf_frames : (Instr.hb rx0).wf = true ∧ (Instr.hb { rx0 with frame := { frame0 with type := 256 } }).wf = false ∧
    (Instr.sync { rx0 with frame := { frame0 with flags := 256 } }).wf = false ∧
    (Instr.sync { rx0 with frame := { frame0 with src := 2 ^ 17 } }).wf = false ∧
    (Instr.sync { rx0 with frame := { frame0 with dest := 2 ^ 17 } }).wf = false ∧
    (Instr.sync { rx0 with frame := { frame0 with id := 65536 } }).wf = false ∧
    (Instr.sync { rx0 with frame := { frame0 with hops := 4096 } }).wf = false ∧
    (Instr.sync { rx0 with frame := { frame0 with hopLim := 4096 } }).wf = false ∧
    (Instr.sync { rx0 with frame := { frame0 with payload := List.replicate 49 0 } }).wf = false := by decide
theorem test_wf_ports : (Instr.page (.write [0] .good)).wf = true ∧ (Instr.page (.write (List.replicate 256 0) .good)).wf = false ∧
    (Instr.avsVoltage avs0).wf = true ∧ (Instr.avsVoltage { avs0 with cmd := 4 }).wf = false ∧
    (Instr.avsVoltage { avs0 with select := 16 }).wf = false ∧ (Instr.avsVoltage { avs0 with data := 65536 }).wf = false ∧
    (Instr.avsVoltage { avs0 with crc := 8 }).wf = false ∧ (Instr.avsWriteHold avs0 5).wf = false ∧
    (Instr.avsWriteHold { avs0 with cmd := 1 } 5).wf = true ∧ (Instr.avsUnsupportedType avs0 6).wf = true ∧
    (Instr.avsUnsupportedType avs0 5).wf = false := by decide +kernel

/-! The block as a machine. -/

/-- A queue with a command: the step is the command on the queue's rest. -/
def stQ : State := { st (part .startbist []) with pending := [.bypass 0xFF, .extest] }
theorem witness_step : stQ.pending = .bypass 0xFF :: [.extest] ∧
    step stQ = exec (.bypass 0xFF) { stQ with pending := [.extest] } := ⟨rfl, rfl⟩
theorem witness_idle : (st (part .run [])).pending = [] ∧ step (st (part .run [])) =
    .next (st { part .run [] with tb := 1 }) ∧ step (st (part .parked [])) = .next (st { part .parked [] with aonCount := 1 }) :=
  ⟨rfl, rfl, rfl⟩
theorem witness_steered : (match step (st { part .run [] with hal := { steer := 500000 }, tbFrac := 500000 }) with
      | .next t => t.part.tb == 2 && t.part.tbFrac == 0
      | _ => false) = true := by decide +kernel
/-- A record whose write is in progress. -/
def opRec : NvmOp := ⟨.log ⟨0, 1, 0⟩, 104, 0, true, List.replicate 15 0 ++ [0x5A]⟩
def pOp : Part := { part .off [] with nvm := { op := some opRec } }
theorem witness_array_writer : (after (.nvmOpDone true) (st pOp)).array ≠ (st pOp).array ∧
    nvmRead (after (.nvmOpDone true) (st pOp)).array (104 * 512 + 15) = 0x5A#8 ∧
    nvmRead (after (.nvmOpDone true) (st pOp)).array (104 * 512 + 16) = 0xFF#8 := by decide +kernel
theorem witness_good : (st pOp).Good ∧ Memory.wf (after (.nvmOpDone true) (st pOp)).array = true ∧
    Memory.wf [(1, 0xFF#8)] = false ∧ Memory.wf [(65536, 0#8)] = false ∧ Memory.wf [(2, 0#8), (2, 1#8)] = false := by
  refine ⟨?_, ?_⟩
  · rfl
  · decide +kernel

/-- Families of commands: one of each, and one that is none. -/
theorem witness_families : hkCommand .calAbort = true ∧ ringCommand .syncSend = true ∧ causeCommand (.testLate 0) = true ∧
    pmbusCommand .smbusTimeout = true ∧ avsCommand (.avsIdleResync 0) = true ∧ fabricCommand (.disarm 0) = true ∧
    thermCommand (.thermCheck 0 0) = true ∧ engineCommand .rotationDue = true ∧ systemCommand (.park 0) = true ∧
    powerCommand (.ovEc 0) = true ∧ powerCommand .powerCycle = false := by decide
theorem test_frames : aft .calAbort (part .run []) = part .run [] ∧
    (aft (.vinFault .overSet) { part .run [(PROT_VINLIM.VIN_OV, 0, 100)] with vinValues := [6553600, 6553600, 6553600, 6553600] }).therm =
      (part .run []).therm := by decide +kernel
theorem witness_otp : (after .otpProgramDone { st { part .run [] with otpJob := ⟨some 3, true, false⟩ } with
    otp := ⟨1, false, true⟩ }).otp = ⟨3, true, true⟩ := by decide +kernel

/-! Supplies and resets. -/

theorem witness_release : (aft (.suppliesGood { straps0 with addrUv := 639999 }) (part .off [])).dev = .wakeCold ∧
    (aft (.suppliesGood { straps0 with addrUv := 639999 }) (part .off [])).get SYS_STATE.ADDR_CODE = 15 ∧
    (aft (.suppliesGood { straps0 with xinUv := 199999 }) (part .off [])).flag SYS_STATE.REF_SRC = true ∧
    (aft (.suppliesGood { straps0 with role0 := true }) (part .off [])).get SYS_STATE.ROLE = 1 := by decide +kernel
theorem witness_no_release : (aft (.suppliesGood straps0) (part .off [(SYS_RESET.BIST_HOLD, 0, 1)])).dev = .off ∧
    (aft (.suppliesGood straps0) { part .off [] with pairHold := true }).dev = .off ∧
    (aft (.suppliesGood straps0) { part .off [] with hotLatch := true }).dev = .hotlatch ∧
    (aft (.suppliesGood straps0) (part .run [])).dev = .run ∧ aft (.resetRelease straps0) (part .off []) = part .off [] := by
  decide +kernel
def supplied : Supplies := ⟨true, true, true, true, true⟩
theorem witness_reset_release : supplied.good = true ∧
    (aft (.resetRelease straps0) { part .off [] with supplies := supplied }).dev = .wakeCold ∧
    (aft (.resetRelease straps0) { part .off [(SYS_RESET.BIST_HOLD, 0, 1)] with supplies := supplied }).dev = .off ∧
    (aft (.resetRelease straps0) { part .off [] with supplies := supplied, hotLatch := true }).dev = .hotlatch := by
  decide +kernel
theorem witness_supplies : (aft .powerCycle (part .run [(SYS_STATE.ROLE, 0, 2)])).dev = .off ∧
    (aft .powerCycle (part .run [(SYS_STATE.ROLE, 0, 2)])).regs = [] ∧
    (part .run []).resettable = true ∧
    (aft (.supplyLoss true false false) { part .run [] with supplies := supplied }).get PWR_STATUS.FIRST_LOSS = 2 ∧
    (aft (.supplyLoss true false false) { part .run [] with supplies := supplied }).get SYS_RESET.LAST_RESET = 2 := by
  decide +kernel
theorem witness_losses :
    (aft (.supplyLoss true true true) { part .off [] with supplies := supplied }).flag PWR_EVENT.VDD33_LOST = true ∧
    (aft (.supplyLoss true true true) { part .off [] with supplies := supplied }).get PWR_STATUS.FIRST_LOSS = 4 ∧
    (aft (.supplyLoss false true false) { part .off [(PWR_STATUS.FIRST_LOSS, 0, 1)] with supplies := supplied }).get
      PWR_STATUS.FIRST_LOSS = 1 ∧
    (aft (.supplyLoss true false false) { part .test [] with supplies := supplied }).dev = .test ∧
    (aft (.supplyLoss true false false) { part .hotlatch [] with supplies := supplied }).flag PWR_EVENT.VDD33_LOST = false ∧
    (aft (.supplyLoss true false false) { part .run [] with supplies := { supplied with vaonPor := false } }).dev = .run ∧
    aft (.supplyLoss true false false) (part .run []) = part .run [] ∧
    aft .vaonLow (part .run []) = part .run [] ∧ aft .vaonWarningRise (part .run []) = part .run [] ∧
    (aft .vaonLow { part .run [] with supplies := supplied }).get PWR_STATUS.FIRST_LOSS = 1 ∧
    (aft .vaonLow { part .run [(PWR_STATUS.FIRST_LOSS, 0, 3)] with supplies := supplied }).get PWR_STATUS.FIRST_LOSS = 3 := by
  decide +kernel
theorem witness_vaon : (aft .vaonLow { part .run [(PWR_CFG.VAON_LOW_SAFE, 0, 1)] with supplies := supplied }).dev = .safe ∧
    (aft .vaonLow { part .run [] with supplies := supplied }).dev = .run ∧
    (aft .vaonLow { part .parked [] with supplies := supplied }).flag PWR_EVENT.VAON_LOW = true ∧
    (aft .vaonWarningRise { part .run [] with supplies := { supplied with vaonWarn := false } }).supplies = supplied := by
  decide +kernel
theorem witness_resets : (aft (.resetN 1000) (part .run [])).dev = .off ∧ (aft (.resetN 199) (part .run [])).dev = .run ∧
    (aft (.resetN 1000) (part .hotlatch [])).dev = .hotlatch ∧ (aft (.resetN 1000) (part .off [])).dev = .off ∧
    (aft (.resetN 1000) (part .run [(DBG_STAT.DBG_FAIL_CNT, 0, 2), (SYS_STATE.ROLE, 0, 1)])).get DBG_STAT.DBG_FAIL_CNT = 2 ∧
    (aft (.resetN 1000) (part .run [(DBG_STAT.DBG_FAIL_CNT, 0, 2), (SYS_STATE.ROLE, 0, 1)])).get SYS_STATE.ROLE = 0 ∧
    (aft (.clockLoss .sys) (part .load [])).get SYS_RESET.LAST_RESET = 3 ∧
    (aft (.clockLoss .sys) (part .parked [])).dev = .parked := by decide +kernel
theorem witness_reset_ignored : aft (.resetN 1000) (part .test []) = part .test [] ∧ aft (.clockLoss .sys) (part .off []) = part .off [] ∧
    (part .off []).resettable = false ∧ (part .run []).resettable = true ∧ aft (.resetN 199) (part .run []) = part .run [] ∧
    (200 ≤ 999 ∧ 999 < 1000) := by decide +kernel
theorem witness_pair_hold : (part .load [(SYS_STATE.ROLE, 0, 1)]).role = .main ∧
    (aft (.pairHold 7) (part .load [(SYS_STATE.ROLE, 0, 1), (PAIR_STAT.HOLD_CNT, 0, 255)])).get PAIR_STAT.HOLD_CNT = 255 ∧
    (aft (.pairHold 7) (part .load [(SYS_STATE.ROLE, 0, 1)])).pairHold = true ∧
    (aft (.resetRelease straps0) { part .off [] with supplies := supplied, pairHold := true }).dev = .off ∧
    (aft (.resetN 1000) { part .off [] with supplies := supplied, pairHold := true }).pairHold = false := by decide +kernel
theorem witness_no_pair_hold : aft (.pairHold 0) (part .run []) = part .run [] ∧
    aft (.pairHold 0) (part .startbist [(SYS_STATE.ROLE, 0, 1)]) = part .startbist [(SYS_STATE.ROLE, 0, 1)] := by decide +kernel

/-! The cold start. -/

theorem witness_ref_retry : (aft (.refRetry 199999) (part .wakeCold [(SYS_RESET.REF_RETRY_CNT, 0, 255)])).get
      SYS_RESET.REF_RETRY_CNT = 255 ∧ (aft (.refRetry 199999) (part .wakeResume [])).flag SYS_STATE.REF_SRC = true ∧
    (aft (.refRetry 200000) (part .wakeResume [])).flag SYS_STATE.REF_SRC = false := by decide +kernel
def bist (l : List Nat) : Part := { part .startbist [] with test := { running := l } }
theorem witness_bist : (aft (.pllLock true []) (part .wakeCold [])).test.running = [1, 5] ∧
    nextPartition 4 = none ∧ nextPartition 3 = none ∧ verdictOf good = 1 ∧ verdictOf failing ≠ 1 ∧ verdictOf cut ≠ 1 ∧
    (aft (.partitionVerdict 4 good) (bist [4])).dev = .load ∧ (aft (.partitionVerdict 4 good) (bist [4, 3])).dev = .startbist ∧
    (aft (.partitionVerdict 0 failing) (bist [0])).get SYS_RESET.BIST_FAIL_CNT = 1 ∧
    (aft (.partitionTimeout 5) { bist [5] with regs := [((SYS_RESET.BIST_FAIL_CNT.at 0 0), 1)] }).get SYS_RESET.BIST_LOCK = 1 := by
  decide +kernel
/-- A part in the WAKE of a resume with its context. -/
def waking (d : Dev) : Part := { part d [] with parkCtx := some ⟨0, 0, false, image0⟩ }
theorem witness_resume : (waking .wakeResume).ctxValid ⟨0, 0, false, image0⟩ true = true ∧
    (aft (.pllLock true (List.replicate 24 0)) (waking .wakeResume)).dev = .ready ∧
    (aft (.pllLock true (List.replicate 24 0)) (waking .wakeResume)).flag SYS_STATE.RELOAD_BUSY = true ∧
    (aft (.pllLock false (List.replicate 24 0)) (waking .wakeResume)).dev = .startbist ∧
    aft (.pllLock true []) (part .load []) = part .load [] ∧ aft (.refRetry 0) (part .load []) = part .load [] := by decide +kernel
theorem witness_bist_late : bistMax 4 ≠ 0 ∧
    (aft (.partitionVerdict 4 good) { bist [4] with tb := bistMax 4 }).get SB_VERDICT.V 4 = 1 ∧
    (aft (.partitionVerdict 4 good) { bist [4] with tb := bistMax 4 + 1 }).dev = .off ∧
    (aft (.partitionVerdict 4 good) { bist [4] with tb := bistMax 4 + 1 }).get SYS_RESET.BIST_FAIL_PART = 4 ∧
    aft (.partitionVerdict 3 good) (bist [4]) = bist [4] ∧ aft (.partitionTimeout 3) (bist [4]) = bist [4] := by decide +kernel
theorem witness_slot_check : bFirst flash0 = false ∧ headErased flash0.slotA = true ∧
    (aft (.slotCheck flash0) (part .load [])).get SYS_IMAGE.ERR_A = 12 ∧
    (aft (.slotCheck flash0) (part .load [])).load.judgedA = true ∧
    (aft (.slotCheck { flash0 with slotA := List.replicate 64 0 }) (part .load [])).get SYS_IMAGE.ERR_A ≠ 12 := by decide +kernel
theorem witness_second_slot : (aft (.slotCheck flash0) { part .load [] with load := { judgedA := true } }).load.judgedB = true ∧
    (aft (.slotCheck flash0) { part .load [] with load := { judgedA := true } }).get SYS_IMAGE.ERR_B = 12 ∧
    aft (.slotCheck flash0) { part .load [] with load := { judgedA := true, judgedB := true } } =
      { part .load [] with load := { judgedA := true, judgedB := true } } ∧
    aft (.slotCheck flash0) (part .run []) = part .run [] := by decide +kernel
def loaded (d : Dev) (l : List (Fld × Nat × Nat)) : Part := { part d l with load := { image := some image0 } }
theorem witness_load_complete : (aft (.loadComplete inputs0) { part .load [] with load := { judgedA := true, judgedB := true } }).dev = .safe ∧
    (aft (.loadComplete inputs0) { part .load [] with load := { judgedA := true } }).dev = .load ∧
    (aft (.loadComplete inputs0) (loaded .load [(SYS_RESET.LAST_RESET, 0, 1)])).dev = .ready ∧
    (aft (.loadComplete inputs0) (loaded .load [(SYS_RESET.LAST_RESET, 0, 1), (SYS_STATE.ROLE, 0, 3)])).dev = .safe := by
  decide +kernel
theorem witness_loss_sealed : (loaded .load []).lossSealed = true ∧
    aft (.loadComplete inputs0) { loaded .load [] with load := { image := some image0, lossOpen := true }, nvm := { recs := [⟨2, []⟩] } } =
      { loaded .load [] with load := { image := some image0, lossOpen := true }, nvm := { recs := [⟨2, []⟩] } } ∧
    aft (.loadComplete inputs0) (part .run []) = part .run [] := by decide +kernel

/-! Parking and resume. -/

theorem witness_park : (part .ready []).role = .solo ∧ (part .ready []).railsPark = true ∧
    (aft (.park 0xA5) (part .ready [])).parkReq = true ∧ (aft (.park 0xA4) (part .ready [])).parkReq = false ∧
    (aft (.park 0xA5) (part .run [(HAL_CFG.EN_W, 0, 1)])).get HOST_REFADDR.ADDR = 0x10 ∧
    (aft (.park 0xA5) (part .run [(DBG_STAT.SESSION, 0, 1)])).get HOST_REFUSED.CNT = 1 ∧
    (aft .sclHoldRelease { part .run [] with sclHold := true }).sclHold = false := by decide +kernel
theorem witness_scl_hold : (aft .sclHoldRelease { part .parked [] with sclHold := true, sclAt := 7 }).pmbNack = true ∧
    (aft .sclHoldRelease { part .parked [] with sclHold := true, sclAt := 7 }).aonCount = 407 ∧
    aft .sclHoldRelease (part .run []) = part .run [] ∧ aft (.park 0xA5) (part .off []) = part .off [] := by decide +kernel
theorem witness_park_entry : (part .run []).nvmEmpty = true ∧
    (aft .parkEntry { loaded .run [] with parkReq := true }).dev = .parked ∧
    (aft .parkTimeout { loaded .run [] with parkReq := true, nvm := { recs := [⟨3, []⟩] } }).get SYS_STATE.PARK_ABORT_CNT = 1 := by
  decide +kernel
theorem witness_no_park_entry : (loaded .run []).railsPark = true ∧
    aft .parkEntry (loaded .run []) = loaded .run [] ∧
    aft .parkEntry { part .run [] with parkReq := true } = { part .run [] with parkReq := true } ∧
    aft .parkTimeout { part .run [] with parkReq := true } = { part .run [] with parkReq := true } ∧
    (aft .parkTimeout { loaded .run [] with parkReq := true, parkAt := 5, nvm := { recs := [⟨3, []⟩] } }).tb = 25000005 := by
  decide +kernel
theorem witness_wake : (part .parked []).wakeEn .pmbus = true ∧ (part .parked []).wakeEn .monitor = false ∧
    (aft (.wakeRequest [.pmbus] straps0) (part .parked [])).sclHold = true ∧
    (aft (.wakeRequest [.monitor] straps0) (part .parked [])).dev = .parked ∧
    (aft (.wakeRequest [.avs] straps0) { part .run [] with parkReq := true }).parkReq = false ∧
    (aft (.wakeTimer straps0) (part .parked [(SYS_WAKE.TIMER_WAKE, 0, 1), (SYS_WAKE.WAKE_TIMER, 0, 1)])).dev = .wakeResume := by
  decide +kernel
theorem witness_wakes : (aft (.wakeRequest [.pmbus] straps0) (part .wakeResume [])).wakes = [.pmbus] ∧
    aft (.wakeRequest [.monitor] straps0) (part .run []) = part .run [] ∧
    aft (.wakeRequest [.pmbus] straps0) (part .run []) = part .run [] ∧
    aft (.wakeTimer straps0) (part .parked []) = part .parked [] ∧
    (aft (.wakeTimer straps0) { part .run [(SYS_WAKE.TIMER_WAKE, 0, 1), (SYS_WAKE.WAKE_TIMER, 0, 1)] with parkReq := true }).get
      SYS_STATE.PARK_ABORT_CNT = 1 ∧
    (aft (.wakeTimer straps0) (part .parked [(SYS_WAKE.TIMER_WAKE, 0, 1), (SYS_WAKE.WAKE_TIMER, 0, 2)])).aonCount = 8000000 := by
  decide +kernel
theorem witness_reload : (aft (.reloadDone flash0 inputs0) { part .run [(SYS_STATE.RELOAD_BUSY, 0, 1)] with
      load := { image := some image0, reload := true } }).flag SYS_STATE.RELOAD_FAIL = true ∧
    image0.slot = 0 ∧ headErased flash0.slotA = true := by decide +kernel
theorem witness_no_reload : aft (.reloadDone flash0 inputs0) (part .run []) = part .run [] ∧
    (aft (.reloadDone flash0 inputs0) { part .run [(SYS_STATE.RELOAD_BUSY, 0, 1)] with
      load := { image := some image0, reload := true } }).flag SYS_STATE.RELOAD_BUSY = true := by decide +kernel

/-! SYS_CTRL, OTP and debug. -/

def image5 : ImageInfo := { image0 with rollback := 5 }
theorem witness_control : (aft (.swreset 0xA5) (loaded .safe [])).get SYS_RESET.LAST_RESET = 4 ∧
    (aft (.rollbackCommit 0xA5) { part .run [] with load := { image := some image5 } }).otpJob.target = some 5 ∧
    (aft (.rollbackCommit 0xA5) { part .safe [] with load := { image := some image5 } }).get HOST_REFUSED.CNT = 1 ∧
    (aft (.rollbackCommit 0xA5) (loaded .run [])).get HOST_REFUSED.CNT = 1 ∧
    (aft (.keyRevokeReq true false 0xA5) (loaded .run [])).otpJob.revoke0 = true ∧
    (aft (.keyRevokeReq false true 0xA5) (loaded .run [])).get HOST_REFADDR.ADDR = 0x1C ∧
    (aft (.swreset 0xA4) (loaded .safe [])).refusals = 1 ∧ (aft (.safe 0xA5) (part .ready [])).dev = .safe := by decide +kernel
theorem witness_control_off : (part .run []).pmbActive = true ∧ (part .off []).pmbActive = false ∧
    aft (.swreset 0xA5) (part .off []) = part .off [] ∧
    aft (.safe 0xA5) (part .safe []) = part .safe [] ∧ (aft (.safe 0xA5) (part .run [])).get SYS_STATE.SAFE_CAUSE = 1 ∧
    (aft (.keyRevokeReq true false 0xA5) { part .run [] with load := { image := some image0 } }).otpJob.revoke0 =
      (image0.keyId != 0) ∧
    (aft (.keyRevokeReq true true 0xA5) { part .run [] with load := { image := some { image0 with keyId := 1 } } }).refusals = 1 ∧
    aft (.keyRevokeReq false false 0xA5) (part .run []) = part .run [] ∧
    (aft (.keyRevokeReq true false 0xA4) (part .run [])).get HOST_REFADDR.ADDR = 0x1C := by decide +kernel
theorem witness_debug : (part .ready []).flag DBG_STAT.DBG_LOCK = false ∧ (aft (.requestChallenge 0xA5) (part .safe [])).dev = .safe ∧
    (aft (.requestChallenge 0xA5) (part .run [])).get DBG_STAT.LAST = 3 ∧
    (aft (.requestChallenge 0xA5) (part .safe [(DBG_STAT.DBG_LOCK, 0, 1)])).flag DBG_STAT.SESSION = false ∧
    (aft (.closeSession 0xA5) (part .safe [(DBG_STAT.SESSION, 0, 1)])).flag DBG_STAT.SESSION = false ∧
    (aft .sessionTimeout (part .safe [(DBG_STAT.SESSION, 0, 1)])).flag DBG_STAT.SESSION = false := by decide +kernel
theorem witness_debug_keys : (aft (.closeSession 0xA4) (part .safe [(DBG_STAT.SESSION, 0, 1)])).get HOST_REFADDR.ADDR = 0xA0100 ∧
    aft (.submitResponse 0xA5 true) (part .safe []) = part .safe [] ∧ aft .sessionTimeout (part .safe []) = part .safe [] ∧
    (aft .sessionTimeout { part .safe [(DBG_STAT.SESSION, 0, 1)] with test := { sessionAt := 3 } }).tb = 1250000003 := by decide +kernel
theorem witness_response : (part .ready [(DBG_STAT.SESSION, 0, 1)]).flag DBG_STAT.SESSION = true := by decide +kernel
def jt (d : Dev) (l : List (Fld × Nat × Nat)) : Part := { part d l with supplies := supplied }
theorem witness_jtag : (aft .extest (jt .run [])).test.jtagIr = 0xFF ∧ (aft .extest (jt .test [])).test.jtagIr = 0 ∧
    (aft .scan (jt .test [])).test.jtagIr = 0x30 ∧ (aft .samplePreload (jt .run [])).test.jtagIr = 2 ∧
    (aft (.regacc 0xA00FC 1 false) (jt .run [])).test.jtagData = 0 ∧ (aft (.regacc 0xA0130 1 true) (jt .run [])).test.jtagIr = 0x21 ∧
    (aft (.regacc 0xA0120 (2 ^ 32 - 1) true) (jt .run [])).get DBG_RESP.RESP = 2 ^ 32 - 1 ∧
    (aft (.regacc 0xA012C 5 true) (jt .run [])).get DBG_RESP.RESP 0 3 = 5 ∧
    (aft (.regacc 0xA0100 0 false) (jt .run [])).test.jtagIr = 0x21 ∧
    (aft (.regacc 0x10008 0 false) (jt .test [(RAIL_VOUT.VOUT_COMMAND, 0, 0x1234)])).test.jtagData = 0x1234 ∧
    aft .extest { jt .test [] with supplies := { supplied with vdd33 := false } } =
      { jt .test [] with supplies := { supplied with vdd33 := false } } := by decide +kernel

/-! The NVM. -/

theorem witness_nvm : opRec.bytes.length = unitSize opRec.unit ∧ opRec.page < 128 ∧
    opRec.index * unitSize opRec.unit + unitSize opRec.unit ≤ 512 ∧
    bitOf (aft (.nvmOpDone false) { pOp with dev := .run }).nvm.bad 104 = 1 ∧
    (aft (.nvmOpDone false) { pOp with dev := .run }).flag NVM_STAT.BAD_EV = true ∧
    (aft (.nvmOpDone true) { pOp with dev := .run }).nvm.logSeq = 1 := by decide +kernel
theorem witness_nvm_stopped : aft (.nvmOpDone true) (part .run []) = part .run [] ∧ pOp.nvmRuns = false ∧
    (aft (.nvmOpDone true) pOp).nvm = {} := by decide +kernel

/-- Whatever the key and the nonce, some response words meet the premise of the right response. -/
theorem witness_right_response : ∃ p : Part, p.dev = .ready ∧ p.flag DBG_STAT.SESSION = true ∧ p.responseOk = true := by
  obtain ⟨tag, h⟩ := response_exists (part .ready [(DBG_STAT.SESSION, 0, 1)])
  refine ⟨_, rfl, ?_, h⟩
  rw [Part.flag, withTag_other _ tag DBG_STAT.SESSION 0 0 (by decide)]
  decide
/-- And some do not, with two failures before. -/
theorem witness_wrong_response : ∃ p : Part, p.flag DBG_STAT.SESSION = true ∧ p.get DBG_STAT.DBG_FAIL_CNT = 2 ∧
    p.responseOk = false := by
  obtain ⟨tag, h⟩ := wrong_response_exists (part .ready [(DBG_STAT.SESSION, 0, 1), (DBG_STAT.DBG_FAIL_CNT, 0, 2)])
  refine ⟨_, ?_, ?_, h⟩
  · rw [Part.flag, withTag_other _ tag DBG_STAT.SESSION 0 0 (by decide)]
    decide
  · rw [withTag_other _ tag DBG_STAT.DBG_FAIL_CNT 0 0 (by decide)]
    decide
/-! The ring. -/

def ringUp (d : Dev) (l : List (Fld × Nat × Nat)) : Part :=
  part d ([(HAL_CFG.EN_E, 0, 1), (HAL_CFG.EN_W, 0, 1), (HAL_STAT.UP_E, 0, 1), (HAL_STAT.UP_W, 0, 1)] ++ l)
/-- A received frame of a type with a payload. -/
def rxOf (type : Nat) (payload : List Byte) : HalRx := ⟨.east, true, { frame0 with type := type, payload := payload }⟩
theorem witness_ports :
    (aft (.portUp .west) { part .run [(HAL_CFG.EN_W, 0, 1)] with hal := { delayDone := [false, true] } }).portIsUp .west = true ∧
    (aft (.portDown .east .loopback) (ringUp .run [])).portIsUp .east = false ∧
    (aft (.portDown .east .loopback) (ringUp .run [])).outOf .east = true ∧ (ringUp .run []).hal.out_.length = 2 ∧
    nth (aft (.delayExchange .west) { ringUp .run [] with tb := 9 }).hal.delayAt 1 none = some 288 ∧
    (aft (.delayResp (rxOf 3 (leBytes 4 320))) { ringUp .run [] with tb := 100, hal := { delayAt := [some 2560, none] } }).get
      HAL_LINKDLY.DLY_E = 160 ∧ (ringUp .run []).hal.delayDone.length = 2 := by decide +kernel
theorem witness_delay_req : (ringUp .run []).portEn .east = true ∧ (ringUp .run []).outOf .east = false ∧
    (aft (.delayReq (rxOf 2 [])) (ringUp .run [])).hal.sent.length = 1 := by decide +kernel
theorem witness_ports_idle : aft (.portUp .east) (ringUp .run []) = (ringUp .run []).hal0 ∧
    aft (.portDown .east .silence) (part .run []) = (part .run []).hal0 ∧
    (aft (.delayReq (rxOf 2 [])) { ringUp .run [] with hal := { out_ := [true, false] } }).hal.sent = [] ∧
    (ringUp .run []).hal.delayAt.length = 2 ∧ aft (.delayResp (rxOf 3 [])) (ringUp .run []) = (ringUp .run []).hal0 ∧
    (aft (.delayReq { rxOf 2 [] with crcOk := false }) (ringUp .run [])).get HAL_ERRCNT.CRC_E_CNT = 1 ∧
    aft (.delayReq (rxOf 2 [])) (part .run []) = (part .run []).hal0 := by decide +kernel
def rxSync : HalRx := rxOf 1 (leBytes 8 1000 ++ leBytes 4 0)
theorem witness_time_base : (ringUp .run [(RAIL_STATUS.STATE, 0, 3)]).takesBcast rxSync 1 = true ∧
    (ringUp .run [(RAIL_STATUS.STATE, 0, 3)]).follows 1 32000 = true ∧
    (ringUp .run [(RAIL_STATUS.STATE, 0, 3)]).anyRailOn = true ∧
    (aft (.sync rxSync) (ringUp .run [(RAIL_STATUS.STATE, 0, 3)])).get HAL_RING.MASTER_ID = 1 ∧
    (aft .syncSend (part .ready [(HAL_CFG.MASTER_ELIG, 0, 1), (HAL_CFG.NODE_ID, 0, 2047)])).get HAL_RING.MASTER_ID = 2047 ∧
    (aft .tbLockTimeout (part .ready [(HAL_STAT.TB_LOCK, 0, 1)])).flag HAL_STAT.HOLDOVER = true ∧
    (aft .discoverSend (ringUp .run [(HAL_STAT.IS_MASTER, 0, 1)])).hal.discoverAt = some 0 := by decide +kernel
/-- A SYNC that puts the estimate at a TB. -/
def rxAt (tb : Nat) : HalRx := rxOf 1 (leBytes 8 tb ++ leBytes 4 0)
theorem witness_sync_step : (ringUp .run []).anyRailOn = false ∧ (aft (.sync (rxAt 126)) (ringUp .run [])).tb = 126 ∧
    (aft (.sync (rxAt 125)) (ringUp .run [])).tb = 0 ∧ (aft (.sync (rxAt 126)) (ringUp .run [])).flag HAL_STAT.IS_MASTER = false ∧
    (aft (.sync (rxAt 1)) { ringUp .run [(HAL_STAT.IS_MASTER, 0, 1), (HAL_CFG.NODE_ID, 0, 0)] with tb := 9 }).tb = 9 := by
  decide +kernel
def electing (last : Nat) : Part :=
  { ringUp .run [(HAL_CFG.MASTER_ELIG, 0, 1)] with tb := 37501, hal := { lastSync := some last } }
theorem witness_sync_send : (aft .syncSend (electing 0)).flag HAL_STAT.IS_MASTER = true ∧
    aft .syncSend (electing 1) = (electing 1).hal0 ∧ aft .syncSend (part .run []) = (part .run []).hal0 ∧
    (aft .tbLockTimeout (electing 5)).tb = 125005 ∧
    aft .tbLockTimeout (ringUp .run [(HAL_STAT.IS_MASTER, 0, 1)]) = ringUp .run [(HAL_STAT.IS_MASTER, 0, 1)] ∧
    aft .discoverSend (ringUp .run []) = (ringUp .run []).hal0 ∧ aft .discoverTimeout (ringUp .run []) = ringUp .run [] := by
  decide +kernel
def rxDisc : HalRx := ⟨.west, true, { frame0 with type := 4, src := 0, hops := 3 }⟩
theorem witness_discover :
    (aft (.discover rxDisc) { ringUp .run [(HAL_STAT.IS_MASTER, 0, 1)] with tb := 125000, hal := { discoverAt := some 0 } }).get
      HAL_RING.RING_N = 4 ∧
    (aft (.discover rxDisc) { ringUp .run [(HAL_STAT.IS_MASTER, 0, 1)] with tb := 125000, hal := { discoverAt := some 0 } }).flag
      HAL_STAT.INTACT = true ∧
    (aft .discoverTimeout { ringUp .run [(HAL_STAT.IS_MASTER, 0, 1)] with tb := 5, hal := { discoverAt := some 0 } }).tb = 125000 := by
  decide +kernel
theorem witness_discover_late :
    (aft (.discover rxDisc) { ringUp .run [(HAL_STAT.IS_MASTER, 0, 1)] with tb := 125001, hal := { discoverAt := some 0 } }).flag
      HAL_STAT.INTACT = false ∧
    (aft (.discover { rxDisc with port := .east }) { ringUp .run [(HAL_STAT.IS_MASTER, 0, 1)] with hal := { discoverAt := some 0 } }).flag
      HAL_STAT.INTACT = false ∧
    (aft (.discover rxDisc) (ringUp .run [])).regs = (ringUp .run []).regs := by decide +kernel
theorem witness_reception : (ringUp .run []).takesBcast (rxOf 0x10 [11#8]) 0x10 = true ∧
    (aft (.faultFrame (rxOf 0x10 [11#8])) (ringUp .run [])).get HAL_RXFAULT.CODE = 11 ∧
    knownTypes.contains 0x77 = false ∧ (aft (.unknownTypeFrame (rxOf 0x77 [])) (ringUp .safe [])).flag HAL_STAT.UNK_EV = true ∧
    (aft (.faultFrame { rxOf 0x10 [] with crcOk := false }) (ringUp .run [])).get HAL_ERRCNT.CRC_E_CNT = 1 ∧
    (aft .ringBrokenClear { ringUp .run [(SVC_STATUS.CAUSE, 0, 128)] with hal := { intactSince := some 7 } }).tb = 12500007 ∧
    (aft .halTbloRead { part .run [] with tb := 2 ^ 32 + 5 }).get HAL_TBHI.TBHI = 1 := by decide +kernel
theorem witness_copies : frameBcast (rxOf 0x10 []).frame = true ∧
    (aft (.faultFrame (rxOf 0x10 [5#8])) (aft (.faultFrame (rxOf 0x10 [11#8])) (ringUp .run []))).get HAL_RXFAULT.CODE = 11 ∧
    (aft (.faultFrame (rxOf 0x10 [11#8])) (ringUp .run [])).seenCopy { frame0 with type := 0x10 } = true ∧
    knownTypes.contains 0x10 = true ∧ aft (.unknownTypeFrame (rxOf 0x10 [])) (ringUp .run []) = (ringUp .run []).hal0 ∧
    (aft (.faultFrame (rxOf 0x10 [11#8])) (part .run [])).regs = [] ∧
    aft .ringBrokenClear (ringUp .run []) = ringUp .run [] ∧ aft .halTbloRead (part .off []) = part .off [] := by decide +kernel
theorem witness_barriers : (ringUp .run []).opFree = true ∧ (ringUp .run []).barOf 65535 = none ∧ (ringUp .run []).barFree = some 0 ∧
    (aft (.barrierArrive 0xA5 65535) (ringUp .run [])).barState 0 = 2 ∧
    (aft (.barrierLaunch 0xA5 65535) (ringUp .run [])).hal.runOp = 2 ∧
    (aft (.barToken (rxOf 0x20 [])) (ringUp .run [])).barState 0 = 1 ∧
    (aft (.barRelease (rxOf 0x21 [])) (ringUp .run [(HAL_BAR.STATE, 0, 2), (HAL_BAR.BID, 0, 7)])).barState 0 = 3 := by decide +kernel
def slot0 (state orig : Nat) (h : HalCore) : Part :=
  { ringUp .run [(HAL_BAR.STATE, 0, state), (HAL_BAR.BID, 0, 7), (HAL_BAR.ORIG, 0, orig), (HAL_STAT.INTACT, 0, 1)] with hal := h }
/-- A token of this node. -/
def rxToken (src : Nat) : HalRx := ⟨.east, true, { frame0 with type := 0x20, src := src }⟩
theorem witness_tokens : (slot0 1 0 {}).barOf 7 = some 0 ∧ (aft (.barToken (rxToken 1)) (slot0 1 0 {})).hal.tokens.length = 1 ∧
    (aft (.barToken (rxToken 0)) (slot0 2 1 { runOp := 2 })).barState 0 = 3 ∧
    (aft (.barToken (rxToken 0)) (slot0 2 1 { runOp := 2 })).get HAL_OPSTAT.RESULT = 1 ∧
    (aft (.barrierArrive 0xA5 7) (slot0 1 0 {})).barState 0 = 2 ∧
    (aft (.barrierArrive 0xA4 7) (slot0 1 0 {})).get HAL_OPSTAT.RESULT = 2 ∧
    aft (.barrierLaunch 0xA5 7) (part .off []) = part .off [] ∧
    (aft (.barRelease (rxOf 0x21 [])) (ringUp .run [])).regs = (ringUp .run []).regs := by decide +kernel
theorem witness_slot_reuse : (aft (.barrierSlotFree 0) (slot0 3 0 { tokens := [(.east, { frame0 with id := 9 })] })).barState 0 = 1 ∧
    (aft (.barrierSlotFree 0) (slot0 3 0 { tokens := [(.east, { frame0 with id := 9 })] })).get HAL_BAR.BID = 9 ∧
    aft (.barrierSlotFree 0) (slot0 2 0 {}) = slot0 2 0 {} ∧ aft (.barrierTimeout 0) (slot0 2 1 {}) = slot0 2 1 {} := by
  decide +kernel
theorem witness_barrier_ends : (aft (.barrierSlotFree 0) (ringUp .run [(HAL_BAR.STATE, 0, 3)])).barState 0 = 0 ∧
    (aft (.barrierSlotFree 0) (ringUp .run [(HAL_BAR.STATE, 0, 3)])).tb = 1250000 ∧
    (aft (.barrierTimeout 0) { ringUp .run [(HAL_BAR.STATE, 0, 2), (HAL_BAR.ORIG, 0, 1)] with hal := { runOp := 2 } }).get
      HAL_OPSTAT.RESULT = 4 := by decide +kernel
theorem witness_snapshots : (ringUp .run []).tBcast = 375 + 50 * 2047 ∧
    (aft (.snapshotSchedule 0xA5 9) (ringUp .run [(HAL_OPT_LO.T_LO, 0, 102725), (HAL_STAT.TB_LOCK, 0, 1)])).hal.snaps.length = 1 ∧
    (aft (.snapshotSchedule 0xA5 9) (ringUp .run [(HAL_OPT_LO.T_LO, 0, 102724)])).get HAL_OPSTAT.RESULT = 3 ∧
    (ringUp .run []).takesBcast (rxOf 0x30 (leBytes 8 0)) 0x30 = true ∧
    (aft (.snapSched (rxOf 0x30 (leBytes 8 0))) (ringUp .run [])).hal.snaps.length = 1 ∧
    (aft (.snapSched (rxOf 0x30 (leBytes 8 0))) { ringUp .run [] with tb := 1 }).flag HAL_SNAPSTAT.LATE = true ∧
    (aft .snapLatch { ringUp .run [] with hal := { snaps := [⟨3, 50, 0, 0⟩] } }).tb = 50 := by decide +kernel
theorem witness_snapshots_refused :
    (aft (.snapshotSchedule 0xA5 9) (ringUp .run [(HAL_OPT_LO.T_LO, 0, 102725)])).get HAL_OPSTAT.RESULT = 2 ∧
    (aft (.snapshotCollect 0xA4 9) (ringUp .run [])).get HAL_OPSTAT.RESULT = 2 ∧
    aft (.snapshotCollect 0xA5 9) (part .off []) = part .off [] ∧ aft .snapLatch (ringUp .run []) = ringUp .run [] ∧
    (aft (.snapSched (rxOf 0x30 (leBytes 8 1))) { ringUp .run [] with tb := 1 }).hal.snaps.length = 1 ∧
    (aft .snapLatch { ringUp .run [] with hal := { snaps := [⟨3, 50, 0, 0⟩, ⟨4, 60, 0, 0⟩] } }).hal.latched = [3] := by decide +kernel
theorem witness_collections : (ringUp .run [(HAL_OPARG.DEST, 0, 64)]).named 1 1 = false ∧
    (aft (.snapshotCollect 0xA5 9) (ringUp .run [(HAL_OPARG.DEST, 0, 64)])).hal.collect = some ⟨9, 1, 0, (ringUp .run []).tColl 1⟩ ∧
    (ringUp .run []).takesBcast (rxOf 0x31 [0, 0, 1]) 0x31 = true ∧ (ringUp .run []).named 0 1 = true ∧
    (aft (.snapCollect (rxOf 0x31 [0, 0, 1])) (ringUp .run [])).hal.sent.length = 3 ∧
    (ringUp .run []).takesOwn ⟨.east, true, { frame0 with flags := 0 }⟩ = true ∧
    (aft (.snapResp ⟨.east, true, { frame0 with flags := 0 }⟩) { ringUp .run [] with hal := { collect := some ⟨7, 2, 0, 0⟩ } }).get
      HAL_OPSTAT.RCVD = 1 ∧
    (aft .collectTimeout { ringUp .run [] with hal := { collect := some ⟨7, 64, 3, 50⟩ } }).get HAL_OPSTAT.MISSING = 61 := by
  decide +kernel
theorem witness_own_response : (ringUp .run []).named 0 1 = true ∧
    (aft (.snapshotCollect 0xA5 9) (ringUp .run [(HAL_OPARG.COUNT, 0, 1)])).get HAL_OPSTAT.RESULT = 1 ∧
    (aft (.snapshotCollect 0xA5 9) (ringUp .run [(HAL_OPARG.COUNT, 0, 2)])).hal.collect =
      some ⟨9, 2, 1, (ringUp .run []).tColl 2⟩ ∧
    (ringUp .run []).named 64 1 = false ∧ (aft (.snapCollect (rxOf 0x31 [64, 0, 1])) (ringUp .run [])).regs = (ringUp .run []).regs ∧
    (aft (.snapResp ⟨.east, true, { frame0 with flags := 0 }⟩) { ringUp .run [] with hal := { collect := some ⟨7, 1, 0, 0⟩ } }).hal.collect =
      none ∧
    (aft (.snapResp ⟨.east, true, { frame0 with flags := 0 }⟩) { ringUp .run [] with tb := 1, hal := { collect := some ⟨7, 1, 0, 0⟩ } }).hal.collect =
      some ⟨7, 1, 0, 0⟩ ∧ aft .collectTimeout (ringUp .run []) = ringUp .run [] := by decide +kernel
theorem witness_ring_resets : (aft (.resetAll 0xA5 0) (ringUp .run [])).get SYS_RESET.LAST_RESET = 5 ∧
    (aft (.resetNode 0xA5 0) (ringUp .run [])).get HAL_OPSTAT.OP = 6 ∧
    (ringUp .run []).takesBcast (rxOf 0x40 []) 0x40 = true ∧
    (aft (.resetFrame (rxOf 0x40 [])) (ringUp .run [(HAL_CFG.RESET_EN, 0, 1)])).dev = .off ∧
    (aft (.resetFrame (rxOf 0x40 [])) (ringUp .run [])).dev = .run := by decide +kernel
theorem witness_reset_refused : (aft (.resetAll 0xA4 0) (ringUp .run [])).get HAL_OPSTAT.RESULT = 2 ∧
    (aft (.resetNode 0xA5 0) (ringUp .run [(HAL_OPSTAT.BUSY, 0, 1)])).get HAL_OPSTAT.RESULT = 2 ∧
    aft (.resetAll 0xA5 0) (part .off []) = part .off [] := by decide +kernel

/-! Redundant pairs. -/

def main (l : List (Fld × Nat × Nat)) : Part := ringUp .run ((SYS_STATE.ROLE, 0, 1) :: l)
def mizzen (l : List (Fld × Nat × Nat)) : Part := ringUp .run ((SYS_STATE.ROLE, 0, 2) :: l)
theorem witness_heartbeats : (main []).paired = true ∧ (main []).pairPort = .east ∧
    (aft .hbSend { main [] with pair := { hbSeq := 15 } }).pair.hbSeq = 0 ∧
    (aft (.hb (rxOf 0x50 [4#8])) (main [])).get PAIR_STAT.PARTNER_ARMED = 1 ∧
    (aft (.hb (rxOf 0x50 [0#8])) (mizzen [])).flag PAIR_STAT.PARTNER_HB = true ∧ bitOf (leAt [0#8] 0 1) 1 = 0 ∧
    (main []).mayTake = false ∧ (aft .hbTimeout { main [] with pair := { lastHb := some 3 } }).tb = 5003 ∧
    (mizzen [(PAIR_STAT.ARMED, 0, 1)]).mayTake = true := by decide +kernel
theorem witness_takeover :
    (aft .hbTimeout { mizzen [(PAIR_STAT.ARMED, 0, 1)] with pair := { lastHb := some 3 } }).flag PAIR_STAT.OWNER = true ∧
    (aft .selfFaultTimeout { main [] with pair := { selfFault := true } }).tb = 15000 := by decide +kernel
theorem witness_armed : (aft (.hb (rxOf 0x50 [0#8]))
      { mizzen [(HAL_STAT.TB_LOCK, 0, 1)] with tb := 1250000, pair := { lastHb := some 1245000 } }).flag PAIR_STAT.ARMED = true ∧
    (aft (.hb (rxOf 0x50 [2#8]))
      { mizzen [(HAL_STAT.TB_LOCK, 0, 1)] with tb := 1250000, pair := { lastHb := some 1245000 } }).flag PAIR_STAT.OWNER = true ∧
    (mizzen []).shadowing = true ∧ aft .hbSend (part .run []) = (part .run []).hal0 ∧
    aft (.hb (rxOf 0x50 [])) (part .run []) = (part .run []).hal0 ∧ aft .hbTimeout (part .run []) = part .run [] ∧
    aft .selfFaultTimeout (main []) = main [] ∧ (main []).mayTake = false := by decide +kernel
theorem witness_cross_check : (aft .pairxSend (main [])).hal.sent.length = 1 ∧ (aft .pairxSend (main [])).tb = 2560 ∧
    (aft (.pairx (rxOf 0x60 (List.replicate 48 0))) { mizzen [] with pair := { pairxSeen := false } }).get PAIR_XCNT.XWIN_CNT = 1 ∧
    (aft .pairxWindowSkip { mizzen [] with pair := { pairxSeen := false } }).get PAIR_XCNT.XSKIP_CNT = 1 := by decide +kernel
theorem witness_cross_check_off : aft .pairxSend (part .run []) = (part .run []).hal0 ∧
    aft (.pairx (rxOf 0x60 [])) (main []) = (main []).hal0 ∧ aft .pairxWindowSkip (main []) = main [] ∧
    (aft (.pairx { rxOf 0x60 [] with crcOk := false }) (mizzen [])).get HAL_ERRCNT.CRC_E_CNT = 1 ∧
    (aft .pairxWindowSkip { mizzen [] with pair := { pairxSeen := true } }).get PAIR_XCNT.XSKIP_CNT = 0 := by decide +kernel

/-! Samples, commits and run-ahead. -/

/-- A rail 0 of one phase in a state: period 64 ticks, divisor 1. -/
def rail0 (state : Nat) (l : List (Fld × Nat × Nat)) : Part :=
  part .run ([(RAIL_CFG.RAIL_EN, 0, 1), (RAIL_CFG.PH_COUNT, 0, 1), (RAIL_STATUS.STATE, 0, state), (FAB_CFG.PER, 0, 2048),
    (PH_STAT.STATE, 0, 1), (SEN_CFG.DIV_K, 0, 0x1000)] ++ l)
theorem witness_window : ((rail0 3 []).window 0 [102250]).hi = true ∧ ((rail0 3 []).window 0 [102249]).hi = false ∧
    ((rail0 3 []).window 0 [-102350]).lo = true ∧ ((rail0 3 []).window 0 [-102349]).lo = false ∧
    ((rail0 3 []).window 0 [200]).e = 32 := by decide +kernel
theorem witness_sample : (rail0 3 []).live = true ∧ (rail0 3 []).convRun 0 = true ∧ (rail0 0 []).convRun 0 = false ∧
    (rail0 3 []).rails.length = 8 ∧ (rail0 2 []).rst 0 = .rampUp ∧
    (aft (.controlSample 0 [0] pass []) (rail0 3 [])).dev = .run ∧
    (aft (.controlSample 0 [0] pass []) (rail0 0 [])).rails = (rail0 0 []).rails := by decide +kernel
theorem witness_commit :
    ((aft (.commit 0) ((rail0 2 []).modRail 0 fun r => { r with samples := 1 })).rail 0).dutyCom ≠ none ∧
    (aft (.commit 0) (rail0 0 [])).tb = 0 := by decide +kernel
/-- Rail 0 with one sample behind it. -/
def sampled (state : Nat) (f : RailCore → RailCore) : Part := (rail0 state []).modRail 0 fun r => f { r with samples := 1 }
theorem witness_commits : (sampled 3 fun r => { r with dutyCom := some 1 }).openCommit 0 = false ∧
    ((aft (.commit 0) (sampled 3 fun r => { r with dutyCom := some 1, dutyShadow := some 5 })).rail 0).dutyCom = some 5 ∧
    ((aft (.commit 0) (sampled 3 fun r => { r with dutyCom := some 1, dutyShadow := some 5, entries := [⟨2, 0, 0, 77, 0, 0, true⟩] })).rail
      0).dutyCom = some 77 ∧
    ((aft (.commit 0) (sampled 3 fun r => { r with dutyCom := some 1, dutyShadow := some 5, entries := [⟨2, 0, 0, 77, 0, 0, false⟩] })).rail
      0).dutyCom = some 5 ∧
    ((aft (.commit 0) (sampled 3 id)).rail 0).dutyCom = none ∧
    (sampled 4 fun r => { r with gap := true }).convRun 0 = false ∧
    (aft (.commit 0) (sampled 4 fun r => { r with gap := true, pendBurst := true })).rst 0 = .regulate ∧
    aft (.commit 0) (sampled 4 fun r => { r with gap := true }) = sampled 4 fun r => { r with gap := true } := by decide +kernel
theorem witness_telltale : (aft (.telltaleFilter 7 .pos true) (part .safe [])).flag SEN_STAT.TT_P 7 = true ∧
    (aft (.telltaleFilter 7 .pos true) (part .safe [])).flag SEN_STAT.TT_EV 7 = true ∧
    (aft (.telltaleFilter 0 .neg false) (part .load [(SEN_STAT.TT_N, 0, 1)])).flag SEN_STAT.TT_N 0 = false := by decide +kernel
theorem witness_telltale_stopped : aft (.telltaleFilter 0 .pos true) (part .off []) = part .off [] ∧
    (aft (.telltaleFilter 0 .pos true) (part .safe [(SEN_STAT.TT_P, 0, 1)])).get SEN_EVCNT.TT_CNT = 0 ∧
    (part .safe []).pwmRuns = true := by decide +kernel
def pendIntent (at_ : Nat) : Part := (rail0 3 [(RA_STAT.INTENT, 0, 1)]).modRail 0 fun r =>
  { r with intent := some ⟨5, 0, 0, 100, 0, none⟩, lastSt := at_ }
theorem witness_run_ahead : (aft (.disarm 0) ((rail0 3 [(RA_STAT.ARMED, 0, 1)]).modRail 0 fun r => { r with raIdle := 1 })).flag
      RA_STAT.ARMED = false ∧ (rail0 3 []).armHold 0 = 1 ∧
    aft (.disarm 0) (rail0 3 [(RA_STAT.ARMED, 0, 1)]) = rail0 3 [(RA_STAT.ARMED, 0, 1)] ∧
    (aft (.intentMissed 0) (pendIntent 7200)).flag RA_STAT.MISS_EV = true ∧
    ((aft (.intentMissed 0) (pendIntent 7200)).rail 0).intent = none ∧
    aft (.intentMissed 0) (pendIntent 7199) = pendIntent 7199 ∧
    (aft (.prepDone 0) ((rail0 3 []).modRail 0 fun r => { r with prep := [⟨1, 16, 0⟩] })).get RA_STAT.PREP_DONE = 1 ∧
    (aft (.prepDone 0) ((rail0 3 []).modRail 0 fun r => { r with prep := [⟨1, 15, 0⟩] })).get RA_STAT.PREP_DONE = 0 := by
  decide +kernel
theorem witness_strobe :
    (aft (.lipStrobe .a 15) { part .run [] with tb := 149, lipLast := [some 100, none] }).get LIP_EVCNT.VIOL_A_CNT = 1 ∧
    (aft (.lipStrobe .a 15) (part .run [])).get LIP_STAT.CODE_A = 15 ∧
    (rail0 3 [(RA_CFG.INTENT_EN, 0, 1), (RA_CFG.DEPTH, 0, 1)]).intentRefused 0 = false ∧
    (aft (.lipStrobe .b 3) (rail0 3 [(RA_CFG.INTENT_EN, 0, 1), (RA_CFG.DEPTH, 0, 1), (LIP_CFG.MAP_B, 0, 1)])).get
      RA_STAT.INTENT = 1 := by decide +kernel
theorem witness_strobe_codes :
    (aft (.lipStrobe .a 15) { part .run [] with tb := 150, lipLast := [some 100, none] }).get LIP_EVCNT.VIOL_A_CNT = 0 ∧
    (rail0 3 [(LIP_CFG.MAP_B, 0, 1)]).intentRefused 0 = true ∧
    (aft (.lipStrobe .b 3) (rail0 3 [(LIP_CFG.MAP_B, 0, 1)])).flag RA_STAT.LIPREF_EV = true ∧
    aft (.lipStrobe .b 3) (part .load []) = part .load [] := by decide +kernel
/-- A rail that takes intents, with one pending, and a table entry of a kind for code 3. -/
def mapped (kind : Nat) : Part := (((rail0 3 [(RA_CFG.INTENT_EN, 0, 1), (RA_CFG.DEPTH, 0, 1), (LIP_CFG.MAP_B, 0, 1),
  (RA_STAT.INTENT, 0, 1)]).set RA_ITAB.KIND kind 0 3).modRail 0 fun r =>
    { r with intent := some ⟨5, 0, 0, 100, 0, none⟩, entries := [⟨2, 0, 0, 77, 0, 0, true⟩] })
theorem witness_strobe_kinds : ((aft (.lipStrobe .b 3) (mapped 1)).rail 0).intent = none ∧
    (aft (.lipStrobe .b 3) (mapped 1)).get RA_STAT.INTENT = 0 ∧
    ((aft (.lipStrobe .b 3) (mapped 0)).rail 0).entries = [] ∧ (aft (.lipStrobe .b 3) (mapped 0)).get RA_STAT.ICODE = 3 ∧
    (aft (.lipStrobe .b 3) (mapped 2)).rail 0 = (mapped 2).rail 0 := by decide +kernel

/-! Rails and protection. -/

theorem witness_pins : (aft (.enDebounce 0 ⟨true, 0⟩) (part .safe [])).flag RAIL_STATUS.ON_REQ = true ∧
    ((aft (.enDebounce 0 ⟨true, 0⟩) (part .safe [])).rail 0).enPin = true ∧
    ((aft (.controlDebounce ⟨true, 0⟩) (part .safe [])).rail 7).ctlPin = true := by decide +kernel
theorem witness_debounce : (part .run [(RAIL_CFG.EN_DEB, 0, 2)]).debounced 0 2000 = true ∧
    (part .run [(RAIL_CFG.EN_DEB, 0, 2)]).debounced 0 1999 = false ∧
    aft (.enDebounce 0 ⟨true, 1999⟩) (part .run [(RAIL_CFG.EN_DEB, 0, 2)]) = part .run [(RAIL_CFG.EN_DEB, 0, 2)] ∧
    ((aft (.controlDebounce ⟨true, 1999⟩) (part .run [(RAIL_CFG.EN_DEB, 0, 2)])).rail 0).ctlPin = false ∧
    ((aft (.controlDebounce ⟨true, 1999⟩) (part .run [(RAIL_CFG.EN_DEB, 0, 2)])).rail 1).ctlPin = true ∧
    aft (.controlDebounce ⟨true, 0⟩) (part .off []) = part .off [] := by decide +kernel
/-- An eligible rail with a fresh input. -/
def turnable : Part := { part .ready [(RAIL_CFG.RAIL_EN, 0, 1), (RAIL_CFG.PH_COUNT, 0, 1), (FAB_CFG.PER, 0, 2048), (PH_STAT.STATE, 0, 1),
  (SLICE_STATE.ASSIGNED, 0, 1), (RAIL_CFG.EN_USE, 0, 1), (RAIL_CFG.EN_POL, 0, 1), (PR_MON.MON_OV, 0, 31)] with
    vinCodes := [1, 1, 1, 1], vinValues := [9, 9, 9, 9] }
theorem witness_leaves_off : turnable.eligible 0 = true ∧ turnable.vinFresh = true ∧
    turnable.monReport (turnable.get PR_MON.MON_OV) ≠ some 1 ∧
    (aft (.enDebounce 0 ⟨true, 0⟩) turnable).onReq 0 = true ∧ (aft (.enDebounce 0 ⟨true, 0⟩) turnable).rst 0 = .delayOn ∧
    (aft (.enDebounce 0 ⟨true, 0⟩) turnable).dev = .run ∧ (aft (.enDebounce 0 ⟨false, 0⟩) turnable).rst 0 = .off := by decide +kernel
def done0 (p : Part) : Part := p.modRail 0 fun r => { r with prebiasDone := true }
theorem witness_turn_on : (aft (.delayOnEnd 0) (done0 (rail0 1 []))).rst 0 = .rampUp ∧
    (aft (.hiccupRetry 0) (done0 (rail0 7 []))).rst 0 = .rampUp ∧ ((done0 (rail0 7 [])).rail 0).waitClear = [] ∧
    (aft (.delayOnEnd 0) (done0 (rail0 1 []))).flag RAIL_STATUS.OPEN_SEG = true := by decide +kernel
theorem witness_turn_on_waits : aft (.delayOnEnd 0) (rail0 1 []) = rail0 1 [] ∧ aft (.hiccupRetry 0) (rail0 7 []) = rail0 7 [] ∧
    aft (.prebiasStep 0 0) (rail0 1 []) = rail0 1 [] := by decide +kernel
theorem witness_prebias : ((aft (.prebiasStep 0 97600) (rail0 1 [(RAIL_CFG.PREBIAS_EN, 0, 1)])).rail 0).prebiasDone = true ∧
    (rail0 1 [(RAIL_CFG.PREBIAS_EN, 0, 1)]).searching 0 = true ∧ (rail0 1 []).searching 0 = false ∧
    ((aft (.prebiasStep 0 302250) (rail0 7 [(RAIL_CFG.PREBIAS_EN, 0, 1)])).rail 0).prebiasJ = 1 ∧
    ((aft (.prebiasStep 0 302249) (rail0 7 [(RAIL_CFG.PREBIAS_EN, 0, 1)])).rail 0).prebiasDone = true ∧
    (aft (.prebiasStep 0 302249) (rail0 7 [(RAIL_CFG.PREBIAS_EN, 0, 1)])).get RAIL_VPRE.VALUE =
      (rail0 7 []).prebiasV 0 3022 ∧
    ((aft (.prebiasStep 0 2502400) ((rail0 1 [(RAIL_CFG.PREBIAS_EN, 0, 1)]).modRail 0 fun r => { r with prebiasJ := 11 })).rail
      0).prebiasDone = true ∧
    ((aft (.prebiasStep 0 0) ((rail0 1 [(RAIL_CFG.PREBIAS_EN, 0, 1)]).modRail 0 fun r => { r with prebiasJ := 1 })).rail
      0).prebiasJ = 2 ∧
    ((aft (.prebiasStep 0 0) ((rail0 1 [(RAIL_CFG.PREBIAS_EN, 0, 1)]).modRail 0 fun r => { r with prebiasJ := 11 })).rail
      0).prebiasDone = true := by decide +kernel
theorem witness_turn_off : (aft (.toffDelayEnd 0) (rail0 3 [(RAIL_STATUS.OFF_PEND, 0, 1)])).rst 0 = .rampDown ∧
    (rail0 5 [(RAIL_CFG.EN_USE, 0, 1), (RAIL_CFG.EN_POL, 0, 1)]).onReq 0 = false ∧
    (aft (.offWaitExpiry 0) (rail0 5 [(RAIL_CFG.EN_USE, 0, 1), (RAIL_CFG.EN_POL, 0, 1)])).rst 0 = .off ∧
    (aft (.pgRelease 0) ((rail0 4 []).modRail 0 fun r => { r with pgSt := some 0 })).get RAIL_STATUS.PG = 1 ∧
    (aft (.thrHoldEnd 3) { part .run [(THR_STAT.THR, 0, 15)] with thrHold := [none, none, none, some 32] }).get THR_STAT.THR = 7 := by
  decide +kernel
theorem witness_turn_off_waits : aft (.toffDelayEnd 0) (rail0 3 []) = rail0 3 [] ∧ aft (.offWaitExpiry 0) (rail0 3 []) = rail0 3 [] ∧
    aft (.pgRelease 0) (rail0 4 []) = rail0 4 [] ∧ aft (.thrHoldEnd 3) (part .run []) = part .run [] ∧
    (part .run []).thrAsking 3 = [] ∧
    (aft (.thrHoldEnd 3) { part .run [] with thrHold := [none, none, none, some 64] }).tb = 2 := by decide +kernel
theorem witness_burst :
    (aft (.burstEntry 0) ((rail0 3 []).modRail 0 fun r => { r with burstDwellSt := some 0, lastSt := 40000 })).rst 0 = .burst ∧
    ((aft (.burstTrip 0) ((rail0 4 []).modRail 0 fun r => { r with gap := true })).rail 0).gap = false := by decide +kernel
/-- Rail 0 in BURST, in a gap that began at an instant. -/
def gap (start short : Nat) : Part := (rail0 4 []).modRail 0 fun r => { r with gap := true, gapStart := start, shortGaps := short }
theorem witness_gaps : ((aft (.burstTrip 0) { gap 0 1 with tb := 124 }).rail 0).pendBurst = true ∧
    ((aft (.burstTrip 0) { gap 0 0 with tb := 124 }).rail 0).shortGaps = 1 ∧
    ((aft (.burstTrip 0) { gap 0 1 with tb := 125 }).rail 0).shortGaps = 0 ∧
    aft (.burstTrip 0) (rail0 4 []) = rail0 4 [] ∧ aft (.burstTrip 0) (rail0 3 []) = rail0 3 [] ∧
    aft (.burstEntry 0) (rail0 3 []) = rail0 3 [] := by decide +kernel
/-- Rail 0 in BURST, owned by the parked-burst generator, with its slice loaded. -/
def parkedBurst (stage : Nat) : Part := (rail0 4 [(SLICE_STATE.ASSIGNED, 0, 1), (SLICE_STATE.STATE, 0, 1)]).modRail 0 fun r =>
  { r with pbOwns := true, pbStage := stage, gap := true }
theorem witness_hand_over : (parkedBurst 0).servingOf 0 = some 0 ∧ (parkedBurst 0).sst 0 = .track ∧
    ((aft (.burstTrip 0) (parkedBurst 0)).rail 0).pbStage = 1 ∧ aft (.burstTrip 0) (parkedBurst 1) = parkedBurst 1 := by
  decide +kernel
/-- Rail 0 with a class for every fault code, and runs of its voltage tests. -/
def faulty (state cls : Nat) (l : List (Fld × Nat × Nat)) : Part :=
  ((rail0 state l).forN 12 fun f q => q.set PR_RESP.CLASS cls 0 f).modRail 0 fun r =>
    { r with ovRun := 1, uvRun := 1, trkSinceSt := some 0, lastSt := 80000 }
theorem witness_warnings : (aft (.ovEc 0) (faulty 3 2 [])).get PR_STAT.LAST_FAULT = 3 ∧
    (aft (.uvEc 0) (faulty 3 3 [])).get PR_STAT.LAST_FAULT = 4 ∧ (aft (.uvEc 0) (faulty 3 3 [])).rst 0 = .regulate ∧
    (aft (.shortAtStart 0) (faulty 2 3 [])).get PR_STAT.LAST_FAULT = 7 ∧
    (faulty 2 3 []).get PR_RESP.CLASS 0 6 = 3 ∧ (faulty 3 3 []).shadowing = false := by decide +kernel
theorem witness_latch : (faulty 3 0 []).onReq 0 = true ∧ (aft (.ovEc 0) (faulty 3 0 [])).rst 0 = .latched ∧
    (aft (.ovEc 0) (faulty 3 0 [])).bit PR_STAT.FLT_EV 2 0 = true := by decide +kernel
theorem witness_responses : (aft (.ovEc 0) (rail0 0 [])).regs = (rail0 0 []).regs ∧ aft (.ovEc 0) (rail0 3 []) = rail0 3 [] ∧
    (RailState.regulate).stoppable = true ∧ (RailState.hiccup).stoppable = false ∧
    (aft (.ovEc 0) (faulty 3 0 [(PR_RESP.RETRY, 0, 7)])).rst 0 = .latched ∧
    (aft (.ovEc 0) ((faulty 3 0 []).set PR_RESP.RETRY 7 0 2)).rst 0 = .hiccup ∧
    (aft (.ovEc 0) ((faulty 3 0 []).set PR_RESP.ACTION 2 0 2)).rst 0 = .rampDown ∧
    ((aft (.ovEc 0) (faulty 3 1 [])).rail 0).pendSoft.isSome = true ∧
    (aft (.ovEc 0) ((faulty 7 0 []).set PR_RESP.RETRY 7 0 2)).rst 0 = .hiccup ∧ (aft (.ovEc 0) (faulty 7 0 [])).rst 0 = .latched ∧
    (aft (.ovEc 0) (faulty 3 0 [(RAIL_CFG.EN_USE, 0, 1), (RAIL_CFG.EN_POL, 0, 1)])).rst 0 = .off ∧
    (aft (.ovEc 0) (faulty 8 0 [])).rst 0 = .latched := by decide +kernel
theorem witness_hold : ((aft (.frozen 0) (faulty 3 1 [(SEN_STAT.PROBE_ABSENT, 0, 1)])).rail 0).curHold.isSome = true ∧
    ((aft (.currentHoldEnd 0) ((rail0 3 []).modRail 0 fun r => { r with curHold := some ⟨0, 9, 0, 0, []⟩ })).rail 0).curHold = none ∧
    ((aft (.ovLowEnd 0) ((rail0 8 []).modRail 0 fun r => { r with safeAct := some true })).rail 0).safeAct ≠ some true ∧
    (aft (.retryClear 0) (rail0 3 [(PR_STAT.HIC_CNT, 0, 3)])).get PR_STAT.HIC_CNT = 0 := by decide +kernel
theorem witness_hold_ends : ((aft (.currentHoldEnd 0) ((faulty 3 0 []).modRail 0 fun r =>
      { r with curHold := some ⟨0, 9, 0, 0, [9]⟩ })).rst 0) = .latched ∧
    aft (.frozen 0) (faulty 3 1 []) = faulty 3 1 [] ∧ aft (.currentHoldEnd 0) (rail0 3 []) = rail0 3 [] ∧
    aft (.ovLowEnd 0) (rail0 3 []) = rail0 3 [] ∧ aft (.retryClear 0) (rail0 2 []) = rail0 2 [] ∧
    ((aft (.frozen 0) (faulty 3 2 [(SEN_STAT.PROBE_ABSENT, 0, 1)])).rail 0).curHold = none ∧
    ((aft (.frozen 0) ((faulty 3 1 []).modRail 0 fun r => { r with frozenRun := 32, frozenDs := [0] })).rail 0).curHold.isSome = true ∧
    ((aft (.frozen 0) ((faulty 3 1 []).modRail 0 fun r => { r with frozenRun := 31, frozenDs := [0] })).rail 0).curHold = none := by
  decide +kernel
def vin (l : List (Fld × Nat × Nat)) (v : Nat) : Part := { part .run l with vinValues := [v, v, v, v] }
theorem witness_vin : (part .load []).vinRuns = true ∧
    (aft (.vinsSample 4095) { part .run [] with vinCodes := [0, 0, 0, 0] }).vinCodes = [4095, 0, 0, 0] ∧
    (aft (.vinsSample (-5)) { part .run [] with vinCodes := [1, 2] }).vinCodes = [0, 1, 2] ∧
    (aft (.vinFault .overSet) (vin [(PROT_VINLIM.VIN_OV, 0, 100)] 655360)).flag PROT_VIN.VIN_OV_ACT = true ∧
    (aft (.vinFault .overSet) (vin [(PROT_VINLIM.VIN_OV, 0, 100)] 655359)).flag PROT_VIN.VIN_OV_ACT = false ∧
    (aft (.vinFault .overClear) (vin [(PROT_VIN.VIN_OV_ACT, 0, 1), (PROT_VINLIM.VIN_OV, 0, 100)] 655359)).flag
      PROT_VIN.VIN_OV_ACT = false := by decide +kernel
theorem witness_vin_levels : aft (.vinsSample 5) (part .off []) = part .off [] ∧
    (aft (.vinsSample 5) { part .run [] with tb := 70, vinAt := some 64 }).tb = 128 ∧
    (aft (.vinFault .underSet) (vin [(PROT_VINLIM.VIN_UV, 0, 100), (RAIL_CFG.RAIL_EN, 0, 1), (RAIL_STATUS.STATE, 0, 3)] 0)).get
      PR_STAT.LAST_FAULT = 12 ∧
    (aft (.vinFault .warnSet) (vin [(PROT_VINWARN.VIN_UVW, 0, 100)] 0)).flag PROT_VIN.VINW_EV = true ∧
    (aft (.vinFault .underClear) (vin [(PROT_VIN.VIN_UV_ACT, 0, 1)] 0)).flag PROT_VIN.VIN_UV_ACT = false ∧
    (aft (.vinFault .warnClear) (vin [(PROT_VIN.VIN_UVW_ACT, 0, 1)] 0)).flag PROT_VIN.VIN_UVW_ACT = false ∧
    aft (.vinFault .overClear) (vin [] 0) = vin [] 0 := by decide +kernel
theorem witness_stage : (rail0 3 []).stgen 0 = true ∧ (aft (.stageFault ⟨0, 0⟩) (faulty 3 3 [])).bit PROT_SFLT.SFLT_EV 0 = true ∧
    (aft (.sfltClear ⟨0, 0⟩) (rail0 3 [(PROT_SFLT.SFLT_LVL, 0, 1)])).bit PROT_SFLT.SFLT_LVL 0 = false := by decide +kernel
theorem witness_stage_filter : aft (.stageFault ⟨0, 9⟩) (rail0 3 [(PROT_SFLT.SFLT_FILT, 0, 1)]) = rail0 3 [(PROT_SFLT.SFLT_FILT, 0, 1)] ∧
    (aft (.stageFault ⟨0, 10⟩) (rail0 3 [(PROT_SFLT.SFLT_FILT, 0, 1)])).bit PROT_SFLT.SFLT_EV 0 = true ∧
    aft (.sfltClear ⟨7, 0⟩) (rail0 3 []) = rail0 3 [] ∧ (rail0 3 []).ownsGroup 0 0 = true ∧
    (aft (.stageFault ⟨0, 0⟩) (rail0 3 [(PROT_SFLT.SFLT_LVL, 0, 1)])) = rail0 3 [(PROT_SFLT.SFLT_LVL, 0, 1)] := by decide +kernel

/-! The control engine. -/

def law0 : Law := ⟨[0, 0, 0, 0, 0], [0, 0, 0, 0], false, 0, 0, 100, false, -5, 7⟩
theorem witness_law : 0 ≤ law0.ylim ∧ law0.dmin ≤ law0.dmax ∧ -(2 ^ 23) ≤ law0.dmin ∧ law0.dmax < 2 ^ 23 ∧
    (law0.step ⟨0, 0, 0, 0⟩ [0, 0, 0, 0] [0, 0, 0, 0]).d = 0 ∧ (law0.step ⟨0, 0, 9, 0⟩ [0, 0, 0, 0] [0, 0, 0, 0]).d = 7 := by decide +kernel
theorem witness_exchange_refused : (part .run []).slices.length = 9 ∧
    (aft (.coefficientSwap 0xA4 0 8) (part .run [])).get ENG_XSTAT.RESULT = 11 ∧
    (aft (.reserveSpare 0xA5) (part .run [(ENG_XSTAT.BUSY, 0, 1)])).get ENG_XSTAT.RESULT = 10 ∧
    (aft (.timingMove 0xA5 0 false) (rail0 3 [])).get ENG_XSTAT.RESULT = 1 ∧
    (aft (.reserveSpare 0xA5) (part .run [])).flag SLICE_STATE.RESERVED = true ∧
    (aft (.releaseReservation 0xA5 4) (part .run [(SLICE_STATE.RESERVED, 4, 1)])).flag SLICE_STATE.RESERVED 4 = false ∧
    (aft (.reservationExpiry 4) ((part .run [(SLICE_STATE.RESERVED, 4, 1)]).modSlice 4 fun x => { x with reservedAt := some 1 })).tb =
      25000001 := by decide +kernel
def allAssigned : Part := (part .run []).forN 9 fun k q => q.set SLICE_STATE.ASSIGNED 1 k
def swappable : Part := rail0 3 [(SLICE_STATE.RESERVED, 4, 1), (SLICE_DCLAMP.DMAX, 4, 1), (SLICE_FF.VIN_FLOOR, 4, 80),
  (SLICE_FF.VIN_NOM, 4, 1), (SLICE_STATE.ASSIGNED, 0, 1), (SLICE_STATE.STATE, 0, 2)]
theorem witness_swap : allAssigned.openSpares false = [] ∧ (aft (.reserveSpare 0xA5) allAssigned).get ENG_XSTAT.RESULT = 8 ∧
    swappable.lawOk 4 = true ∧ swappable.servingOf 0 = some 0 ∧
    (aft (.coefficientSwap 0xA5 0 4) swappable).eng.waiting.length = 1 := by decide +kernel
theorem witness_requests : (swappable.get RAIL_ENGINE.TIMING, swappable.railEn 0) = (0, true) ∧
    (aft (.timingMove 0xA5 0 false) swappable).get ENG_XSTAT.RESULT = 1 ∧ (swappable.set FAB_CFG.PER 5000).forerunnerOk 0 = true ∧ (swappable.set FAB_CFG.PER 4999).forerunnerOk 0 = false ∧
    ((aft (.timingMove 0xA5 0 true) (swappable.set FAB_CFG.PER 5000)).eng.waiting.map fun x => (x.kind, x.timing)) = [(.timing, 1)] ∧
    (aft (.timingMove 0xA5 0 true) (swappable.set RA_CFG.DEPTH 1)).get ENG_XSTAT.RESULT = 11 ∧
    (aft (.coefficientSwap 0xA5 0 5) swappable).get ENG_XSTAT.RESULT = 11 ∧
    (aft (.coefficientSwap 0xA5 0 9) swappable).get ENG_XSTAT.RESULT = 11 ∧
    (aft (.reserveSpare 0xA5) (part .run [(ENG_ROT.OVERDUE, 0, 1)])).get ENG_XSTAT.RESULT = 9 ∧
    (aft (.coefficientSwap 0xA5 0 4) (swappable.set ENG_ROT.OVERDUE 1)).get ENG_XSTAT.RESULT = 9 ∧
    (aft (.releaseReservation 0xA5 0) (part .run [])).get ENG_XSTAT.RESULT = 11 ∧
    aft (.reserveSpare 0xA5) (part .off []) = part .off [] ∧ aft (.reservationExpiry 0) (part .run []) = part .run [] ∧
    (aft (.reservationExpiry 4) (aft (.coefficientSwap 0xA5 0 4) swappable)).get ENG_XSTAT.RESULT = 6 := by decide +kernel
def rotate0 : Exch := ⟨.rotate, 0, 0, false, 0, 0, true, 0, 0, false, false⟩
theorem witness_grant : swappable.openSpares false = [1, 2, 3, 5, 6, 7, 8] ∧
    swappable.servingOf 0 = some rotate0.outSlice ∧ swappable.rst 0 ≠ .off ∧
    (aft .exchangeGrant { swappable with eng := { waiting := [rotate0] } }).eng.cur = some { rotate0 with inc := 1 } ∧
    (aft .exchangeGrant { swappable with eng := { waiting := [rotate0] } }).flag ENG_XSTAT.BUSY = true ∧
    (aft .exchangeGrant { swappable with eng := { waiting := [rotate0] } }).sst 1 = .track ∧
    (aft .exchangeGrant { swappable with eng := { waiting := [rotate0], cur := some rotate0 } }).eng.waiting = [rotate0] ∧
    (aft .exchangeGrant swappable).eng = {} := by decide +kernel
/-- A part with one exchange that waits. -/
def granting (p : Part) (kind : ExchKind) (inc : Nat) : Part := { p with eng := { waiting := [{ rotate0 with kind := kind, inc := inc }] } }
theorem witness_grants : (aft .exchangeGrant (granting swappable .swap 4)).sst 4 = .track ∧
    (granting swappable .swap 5).eng = (aft .exchangeGrant (granting swappable .swap 5)).eng ∧
    (aft .exchangeGrant (granting (part .run []) .rotate 0)).eng.waiting = [] ∧
    (granting allAssigned .timing 0).eng = (aft .exchangeGrant (granting allAssigned .timing 0)).eng ∧
    allAssigned.spares = [] ∧ (aft .exchangeGrant (granting allAssigned .replace 0)).eng.waiting = [] ∧
    (aft .exchangeGrant (granting (swappable.set RAIL_STATUS.STATE 0) .replace 0)).get RAIL_ENGINE.SLICE = 1 ∧
    (granting (part .run []) .rotate 0).stale { rotate0 with kind := .rotate } = true ∧
    bestExch [{ rotate0 with at_ := 2 }, rotate0] = some rotate0 := by decide +kernel
/-- Rail 0 with an exchange in progress to slice 1. -/
def exchanging : Part := aft .exchangeGrant (granting swappable .timing 0)
theorem witness_replay_compare : exchanging.eng.cur.isSome = true ∧ exchanging.sst 1 = .track ∧
    (exchanging.incoming 0 0 0 0 false).sst 1 = .failed ∧
    (exchanging.incoming 0 0 0 0 false).flag ENG_EVENT.LOCKSTEP_EV = true := by decide +kernel
theorem witness_spares_left : ((((part .run []).forN 9 fun k q => q.set SLICE_STATE.ASSIGNED (b2n (k != 8)) k).set
      SLICE_STATE.RESERVED 1 8).openSpares true) = [8] ∧
    ((((part .run []).forN 9 fun k q => q.set SLICE_STATE.ASSIGNED (b2n (k != 8)) k).set SLICE_STATE.STATE 3 8).spares.filter
      fun k => (((part .run []).set SLICE_STATE.STATE 3 8).sst k == .test)) = [8] := by decide +kernel
theorem witness_slices : (aft (.load16 8 0x8000 8) (part .run [])).getS SLICE_COEF.COEF 8 8 = -4194304 ∧
    (aft (.load16 8 1 9) (part .run [])).getS SLICE_LSGAIN.LS_GAIN 8 = 128 ∧
    (aft (.load16 8 1 10) (part .run [])).get HOST_REFADDR.ADDR = 0x22048 ∧
    (aft (.digestCheck 8 .singleBit) (part .run [])).get SLICE_CHK.ECC_CORR_CNT 8 = 1 ∧
    (aft .rotationDue (part .run [(ENG_ROT.ROT_INT, 0, 1)])).eng.rotDue = [0] ∧ (aft .rotationDue (part .run [(ENG_ROT.ROT_INT, 0, 1)])).eng.rotNext = 1250000 ∧ (part .run []).nextTest = some 0 ∧
    (aft .rotationStart { part .run [] with eng := { rotDue := [5] } }).sst 0 = .test ∧
    (aft (.sliceTestEnd 0 (.done good)) (part .run [(SLICE_STATE.STATE, 0, 3)])).get IF_SLICE.S = 1 ∧
    (aft (.sliceTestEnd 0 .aborted) (part .run [(SLICE_STATE.STATE, 0, 3)])).get IF_SLICE.S = 4 := by decide +kernel
theorem witness_rotation : aft .rotationDue (part .run []) = part .run [] ∧ aft .rotationStart (part .run []) = part .run [] ∧
    (swappable.modSlice 0 fun x => { x with testedAt := 0 }).nextTest = some 0 ∧ swappable.busySlice 0 = true ∧
    ((aft .rotationStart { swappable with eng := { rotDue := [5] } }).eng.waiting.map fun x => (x.kind, x.outSlice)) = [(.rotate, 0)] ∧
    (aft .rotationStart { part .run [(SLICE_STATE.RESERVED, 0, 1)] with eng := { rotDue := [5] } }).eng.rotDue = [5] ∧
    aft .overdue (part .run []) = part .run [] ∧
    (aft .overdue { part .run [(ENG_ROT.ROT_INT, 0, 1)] with eng := { rotSlice := some (3, 7) } }).tb = 2500008 ∧
    (aft .overdue { part .run [(SLICE_STATE.STATE, 3, 3)] with eng := { rotSlice := some (3, 7), rotDue := [9] } }).flag
      ENG_ROT.OVERDUE = true ∧
    aft (.sliceTestEnd 0 .aborted) (part .run []) = part .run [] := by decide +kernel
theorem witness_slice_fails : (aft .overdue { part .run [] with tb := 1, eng := { rotDue := [0] } }).flag ENG_ROT.OVERDUE = true ∧
    (part .run []).anyOverdue = false ∧ (aft (.digestCheck 8 .mismatch) (part .run [])).sst 8 = .failed ∧ verdictOf failing = 2 ∧
    (aft (.sliceTestEnd 8 (.done failing)) (part .run [(SLICE_STATE.STATE, 8, 3)])).get SLICE_STATE.FAIL_CAUSE 8 = 4 := by
  decide +kernel
theorem witness_digests : aft (.digestCheck 0 .equal) (part .run []) = part .run [] ∧
    (aft (.digestCheck 0 .doubleBit) swappable).get SLICE_STATE.FAIL_CAUSE = 3 ∧
    ((aft (.digestCheck 0 .mismatch) swappable).rail 0).repeatLast = true ∧ swappable.spares ≠ [] ∧
    (aft (.digestCheck 4 .mismatch) swappable).flag ENG_EVENT.RES_LOST_EV = true ∧
    aft (.load16 0 1 0) (part .off []) = part .off [] ∧ (aft (.load16 0 1 0) swappable).get HOST_REFADDR.ADDR = 0x20048 := by
  decide +kernel

/-! The phase fabric. -/

theorem witness_periods : (rail0 3 []).railOf 0 = some 0 ∧ (rail0 3 []).phases.length = 64 ∧
    (aft (.phaseSample 0 2047) (rail0 3 [])).flag PCS_STAT.SAT = true ∧
    ((aft (.phaseSample 0 (-2047)) (rail0 3 [])).ph 0).samples.length = 1 ∧
    ((aft (.periodStart 0) (rail0 3 [])).ph 0).next = 2048 ∧ ((aft (.periodStart 0) (rail0 3 [])).ph 0).offered = false ∧
    swappable.servedBy 0 = some 0 ∧ swappable.sst 0 = .drive ∧
    (aft (.bookkeepingPass 0) { swappable with regs := (swappable.set FAB_BAL.BAL_EN 1).regs }).getS PH_TRIM.TRIM = 0 := by
  decide +kernel
theorem witness_period_pulse : (part .run []).railOf 63 = none ∧
    ((aft (.periodStart 0) ((rail0 3 []).modRail 0 fun r => { r with dutyOld := some 4194304 })).ph 0).offered = true ∧
    ((aft (.periodStart 0) ((rail0 3 []).modRail 0 fun r => { r with dutyOld := some 4194304 })).ph 0).pulse = true ∧
    ((aft (.periodStart 0) ((rail0 3 []).modRail 0 fun r => { r with dutyOld := some 4194304 })).ph 0).onSt = 1024 ∧
    (aft (.phaseSample 0 (-2048)) (rail0 3 [])).get PCS_STAT.SAT_CNT = 1 ∧ aft (.phaseSample 63 0) (rail0 3 []) = rail0 3 [] ∧
    aft (.periodStart 0) (rail0 0 []) = rail0 0 [] ∧ aft (.phaseSample 0 0) (rail0 0 []) = rail0 0 [] ∧
    aft (.bookkeepingPass 8) swappable = swappable ∧ (swappable.active 0) = [0] := by decide +kernel
def phase0 (f : PhaseCore → PhaseCore) : Part := (rail0 3 []).modPh 0 f
theorem witness_phase_faults : (rail0 3 []).pulsing 0 = true ∧ (rail0 3 []).retirable 0 = true ∧
    (aft (.fastScTrip 0 25000 5000) (phase0 fun x => { x with pulse := true, onSt := 1 })).flag PSC.TRUNC = true ∧
    (aft (.fastScTrip 0 25000 5000) (phase0 fun x => { x with pulse := true, onSt := 0 })).flag PSC.TRUNC = false ∧
    (aft (.fastScTrip 0 5000 5000) (phase0 fun x => { x with pulse := true, onSt := 1 })).flag PSC.TRUNC = false ∧
    (aft (.fastScTrip 0 25000 999) (phase0 fun x => { x with pulse := true, onSt := 1 })).flag PSC.TRUNC = false ∧
    ((aft (.phaseOpen 0) (phase0 fun x => { x with openCnt := 3 })).ph 0).retirePend = some 1 ∧
    ((aft (.phaseSenseFault 0 .outOfRange) (phase0 fun x => { x with oorCnt := 4 })).ph 0).retirePend = some 2 ∧
    ((aft (.phaseSenseFault 0 .outOfRange) (phase0 fun x => { x with oorCnt := 3 })).ph 0).retirePend = none ∧
    ((aft (.phaseOpen 0) (phase0 fun x => { x with openCnt := 2 })).ph 0).retirePend = none := by decide +kernel
theorem witness_blanking :
    ((aft (.fastScTrip 0 25000 6000) ((phase0 fun x => { x with pulse := true, onSt := 45 }).set PR_SC.SC_BLANK 1)).ph 0).onSt = 40 ∧
    aft (.fastScTrip 63 25000 5000) (rail0 3 []) = rail0 3 [] ∧
    (aft (.phaseOpen 0) ((rail0 0 []).modPh 0 fun x => { x with openCnt := 3 })).pst 0 = .retired := by decide +kernel
/-- Rail 0 with a burst of the parked-burst generator in progress. -/
def bursting : Part := (rail0 4 [(RAIL_PB.PB_TON, 0, 1), (RAIL_PB.PB_PER, 0, 4), (RAIL_PB.PB_TLOW, 0, 1), (RAIL_PB.PB_PULSES, 0, 2)]).modRail 0
  fun r => { r with pbOwns := true, pbBursting := true }
theorem witness_burst_trip : bursting.pbPulse 0 0 0 = some (0, 0) ∧ bursting.pbPulse 0 0 80000 = none ∧
    bursting.pbPulse 0 0 79999 = some (1, 40000) ∧ bursting.pbOn 0 = 10000 ∧
    ((aft (.fastScTrip 0 25000 5000) { bursting with tb := 1 }).rail 0).pbTrunc = some (0, 32) := by decide +kernel
theorem witness_retire : (phase0 fun x => { x with retirePend := some 5 }).pendingRetire 0 = [(0, 5)] ∧
    (phase0 id).eng.cur = none ∧ (aft (.phaseRetire 0) (phase0 fun x => { x with retirePend := some 5 })).pst 0 = .retired ∧
    (aft (.phaseRetire 0) (phase0 fun x => { x with retirePend := some 5 })).get PH_STAT.RET_CAUSE = 5 ∧
    (aft (.healthForecast 0 3) (phase0 fun x => { x with beyond := [0, 0, 0, 1001] })).flag PH_STAT.HF_TEMP = true ∧
    (aft (.healthForecast 0 3) (phase0 fun x => { x with beyond := [0, 0, 0, 1000] })).flag PH_STAT.HF_TEMP = false ∧
    (aft (.phaseSc 0) ((faulty 3 3 []).modPh 0 fun x => { x with scCnt := 1 })).get PR_STAT.LAST_FAULT = 1 ∧
    (aft (.phaseSc 0) (faulty 3 3 [])).get PR_STAT.LAST_FAULT = 0 := by decide +kernel
theorem witness_retirements : aft (.phaseRetire 0) (rail0 3 []) = rail0 3 [] ∧
    (aft (.phaseRetire 0) (phase0 fun x => { x with retirePend := some 5 })).rst 0 = .latched ∧
    (aft (.phaseRetire 0) ((rail0 0 []).modPh 0 fun x => { x with retirePend := some 5 })).rst 0 = .off ∧
    ((rail0 3 [(RAIL_CFG.PH_COUNT, 0, 2), (PH_STAT.STATE, 1, 1), (FAB_RATE.MIN_AVAIL, 0, 2)]).minAvail 0) = 2 ∧
    ((aft (.phaseRetire 0) ((rail0 3 [(RAIL_CFG.PH_COUNT, 0, 2), (PH_STAT.STATE, 1, 1), (FAB_RATE.MIN_AVAIL, 0, 2)]).modPh 1 fun x =>
      { x with retirePend := some 1 })).rail 0).pendSoft.map (fun x => (x.openLoop, x.ends)) = some (false, .latched) ∧
    aft (.healthForecast 0 0) (rail0 3 []) = rail0 3 [] := by decide +kernel
theorem witness_reef :
    (aft (.reefAdd 0) ((rail0 3 [(FAB_STAT.LEVEL, 0, 7)]).modRail 0 fun r => { r with addRun := [6] })).get FAB_STAT.LEVEL = 6 ∧
    (rail0 3 [(FAB_REEF.LMAX, 0, 1), (FAB_LVL.SHED, 0, 1), (FAB_LVL.I_ADD, 0, 2), (FAB_LVL.I_SHED, 0, 1)]).reefBad 0 = false ∧
    (aft (.reefShed 0) ((rail0 3 [(FAB_REEF.LMAX, 0, 1), (FAB_LVL.SHED, 0, 1), (FAB_LVL.I_ADD, 0, 2), (FAB_LVL.I_SHED, 0, 1)]).modRail 0
      fun r => { r with shedDwellSt := some 0, lastSt := 40000 })).get FAB_STAT.LEVEL = 1 ∧
    ((aft (.phasePeriodEnd 0) (phase0 fun x => { x with judged := false, next := 640 })).tb = 20) ∧
    (aft .healthUpdate (rail0 3 [(FAB_HCFG.HEALTH_IMIN, 0, 1)])).rst 0 = .regulate ∧ (aft .healthUpdate (part .safe [])).tb = 0 := by decide +kernel
theorem witness_reef_waits : aft (.reefAdd 0) (rail0 3 []) = rail0 3 [] ∧ aft (.reefShed 0) (rail0 3 []) = rail0 3 [] ∧
    aft (.reefShed 0) ((rail0 3 []).modRail 0 fun r => { r with shedDwellSt := some 0 }) =
      (rail0 3 []).modRail 0 (fun r => { r with shedDwellSt := some 0 }) ∧
    aft (.phasePeriodEnd 0) (rail0 3 []) = rail0 3 [] ∧ aft (.phasePeriodEnd 63) (rail0 3 []) = rail0 3 [] ∧
    ((aft (.phasePeriodEnd 0) (phase0 fun x => { x with due := some ⟨0, 64, 5, true, true⟩ })).ph 0).scCnt = 1 ∧
    ((aft (.phasePeriodEnd 0) (phase0 fun x => { x with due := some ⟨0, 64, 5, true, true⟩ })).ph 0).oorEnd = 64 ∧
    ((aft (.phasePeriodEnd 0) (rail0 3 [(PH_STAT.STATE, 0, 2)])).ph 0).oorEnd = 2048 ∧
    (aft .healthUpdate { rail0 3 [] with healthAt := some 0, tb := 1 }).tb = 1250000 := by decide +kernel

/-! The housekeeping converters. -/

/-- Both converters at work. -/
def busy (l : List (Fld × Nat × Nat)) : Part := { part .safe l with hk := { jobA := some .readback, jobB := some .readback } }
def inj (ch : Nat) : Part := { part .safe [] with hk := { jobA := some (.inj 0), store := [some ⟨ch, 2, 0, 0⟩, none, none, none] } }
theorem witness_results : (inj 3).job (convIx .a) = some (.inj 0) ∧ (inj 3).hk.queue.length < 256 ∧
    (inj 3).calSetOf 3 0 = none ∧
    ((aft (.conversionDone .a hkIn) (inj 3)).hk.queue.map fun e => (e % 65536, e / 2 ^ 16 % 64)) = [(32768, 3)] ∧
    (aft (.conversionDone .a hkIn) (inj 3)).tb = 1250 ∧ (aft (.conversionDone .b hkIn) (inj 3)) = inj 3 ∧
    (aft .hkQloRead { part .run [] with hk := { queue := [2 ^ 32 + 5] } }).get HK_QHI.ENTRY_HI = 1 ∧
    (aft .hkQhiRead { part .run [] with hk := { queue := [7, 8] } }).hk.queue = [8] ∧
    (aft .hkQloRead (part .run [])).flag HK_STAT.QUNDER_EV = true := by decide +kernel
def rbk (count : Nat) : Part := { part .safe [] with hk := { jobA := some .readback, jobB := some .readback, rb := some ⟨5, 0, some 0, 40, count⟩ } }
theorem witness_readback : (aft (.conversionDone .a hkIn) (rbk 2)).hk.rb = some ⟨5, 0, some 0, 40, 3⟩ ∧
    (aft (.conversionDone .a hkIn) (rbk 3)).hk.rb = none ∧ (aft (.conversionDone .a hkIn) (rbk 3)).get MON_RBCFG.RB_NEXT = 6 ∧
    (aft (.conversionDone .a hkIn) (rbk 3)).get MON_RB.RB_UPPER 2 = 10 ∧
    (aft (.conversionDone .a hkIn) { inj 3 with regs := [(IF_STAT.QUEUE_OFF.key, 1)] }).flag HK_STAT.QOVF_EV = true ∧
    aft .hkQloRead (part .off []) = part .off [] ∧ aft (.conversionDone .a hkIn) (part .run []) = part .run [] := by decide +kernel
def running (s e : Nat) : Part := { part .safe [(SEQ_STAT.RUNNING, s, 1)] with hk := { jobA := some (.seq s e), jobB := some .readback } }
theorem witness_seq_entry : (running 2 0).job 0 = some (.seq 2 0) ∧
    ((aft (.conversionDone .a hkIn) (running 2 0)).hk.queue.map fun x => x / 2 ^ 22 % 16) = [2] := by decide +kernel
theorem witness_triggers : (busy []).hk.seqs.length = 8 ∧ (busy []).job 0 ≠ none ∧ (busy []).job 1 ≠ none ∧
    (aft (.softwareTrigger 0x80) (busy [(SEQ_CFG.EN, 7, 1), (SEQ_CFG.TRIG, 7, 1)])).flag SEQ_STAT.PENDING 7 = true ∧
    (aft (.softwareTrigger 0x80) (busy [(SEQ_CFG.EN, 7, 1), (SEQ_CFG.TRIG, 7, 1), (SEQ_STAT.PENDING, 7, 1)])).flag SEQ_STAT.OVR_EV 7 =
      true ∧
    (aft (.seqDisable 7) (busy [(SEQ_CFG.EN, 7, 1), (SEQ_STAT.PENDING, 7, 1)])).flag SEQ_STAT.PENDING 7 = false := by decide +kernel
theorem witness_triggers_off : aft (.softwareTrigger 1) (part .off []) = part .off [] ∧
    ((aft (.softwareTrigger 1) { part .safe [(SEQ_CFG.EN, 0, 1), (SEQ_CFG.TRIG, 0, 1)] with hk := { jobB := some .readback } }).job 0) =
      some (.seq 0 0) ∧
    aft (.pwmTrigger 0) (busy []) = busy [] ∧ aft (.tbTrigger 0) (busy []) = busy [] ∧
    ((aft (.seqDisable 7) (busy [(SEQ_CFG.EN, 7, 1), (SEQ_STAT.RUNNING, 7, 1)])).seqC 7).stopAtBoundary = true ∧
    (aft (.seqDisable 7) (part .safe [(SEQ_CFG.EN, 7, 1), (SEQ_STAT.RUNNING, 7, 1)])).flag SEQ_STAT.RUNNING 7 = false ∧
    (aft (.injectedRequest 128) { part .safe [] with hk := { jobA := some .readback } }).job 1 = some (.inj 0) := by decide +kernel
theorem witness_pwm_trigger : (aft (.pwmTrigger 0) { (busy [(SEQ_CFG.EN, 3, 1), (SEQ_CFG.TRIG, 3, 2), (RAIL_STATUS.STATE, 0, 3),
      (SEQ_TOFS.TRG_OFS, 3, 9)]) with dev := .run }).flag SEQ_STAT.PENDING 3 = true ∧
    (aft (.pwmTrigger 0) { (busy [(SEQ_CFG.EN, 3, 1), (SEQ_CFG.TRIG, 3, 2), (RAIL_STATUS.STATE, 0, 3),
      (SEQ_TOFS.TRG_OFS, 3, 9)]) with dev := .run }).tb = 9 := by decide +kernel
theorem witness_tb_trigger :
    (aft (.tbTrigger 0) ((busy [(SEQ_CFG.TRIG, 0, 3), (SEQ_PERIOD.PERIOD, 0, 2)]).modSeq 0 fun q => { q with tbArmed := true, tbNext := 4 })).tb = 4 ∧
    ((aft (.tbTrigger 0) ((busy [(SEQ_CFG.TRIG, 0, 3), (SEQ_PERIOD.PERIOD, 0, 2)]).modSeq 0 fun q => { q with tbArmed := true, tbNext := 4 })).seqC
      0).tbNext = 2504 ∧
    ((aft (.seqTbhiWrite 0 1) (busy [])).seqC 0).tbNext = 2 ^ 32 ∧ (busy []).injRefused 59 0 48 = true ∧
    (busy []).injRefused 59 0 47 = false ∧ (busy []).injRefused 60 0 0 = true ∧ (busy []).injRefused 1 3 0 = true ∧
    (aft (.injectedRequest 60) (busy [])).get HOST_REFADDR.ADDR = 0x70014 ∧
    (aft (.injectedRequest 59) (busy [])).hk.store = [some ⟨59, 0, 0, 0⟩, none, none, none] := by decide +kernel
theorem witness_calibration : (aft (.calZero 15 1) (busy [])).hk.cal = some ⟨15, false, 1, false, none⟩ ∧
    (aft (.calFull 15 1) (busy [])).get HK_CALSTAT.LAST = 6 ∧ (busy []).hk.zeros.length = 16 ∧
    (aft (.calFull 0 9) { busy [] with hk := { (busy []).hk with zeros := some 5 :: List.replicate 15 none } }).get HK_CALSTAT.PHASE = 1 ∧
    (aft (.calZero 0 1) { busy [] with hk := { (busy []).hk with cal := some ⟨1, false, 0, true, none⟩ } }).get HK_CALSTAT.LAST = 5 ∧
    (aft .calAbort { busy [] with hk := { (busy []).hk with cal := some ⟨1, false, 0, false, none⟩ } }).get HK_CALSTAT.LAST = 7 ∧
    (aft .calAbort { busy [] with hk := { (busy []).hk with cal := some ⟨1, false, 0, true, none⟩ } }).hk.cal = some ⟨1, false, 0, true, some 1250⟩ ∧
    (aft .calAbort (busy [])) = busy [] := by decide +kernel
def capture (full : Bool) (stop : Option Nat) : Part := { busy [] with hk := { (busy []).hk with
  cal := some ⟨0, full, 0x4000, true, stop⟩, zeros := some 100 :: List.replicate 15 none } }
def allCodes (uv : Nat) : List Int := List.replicate 256 uv
theorem witness_capture : sumN ((capture false none).captured ⟨0, false, 0x4000, true, none⟩ (allCodes 1250000) 2500000) = 8388608 ∧
    nth (aft (.captureEnd (allCodes 1250000) 2500000) (capture false none)).hk.zeros 0 none = some 8388608 ∧
    (aft (.captureEnd (allCodes 2500000) 2500000) (capture false none)).get HK_CALSTAT.LAST = 4 ∧
    (aft (.captureEnd (allCodes 0) 2500000) (capture false none)).get HK_CALSTAT.LAST = 4 ∧
    (aft (.captureEnd (allCodes 0) 2500000) (capture false (some 5))).get HK_CALSTAT.LAST = 7 := by decide +kernel
theorem witness_capture_full : (aft (.captureEnd (allCodes 50000) 2500000) (capture true none)).get HK_CALSTAT.LAST = 3 ∧
    (aft (.captureEnd (allCodes 500) 2500000) (capture true none)).get HK_CALSTAT.LAST = 2 ∧
    (aft (.captureEnd (allCodes 1250000) 2500000) (capture true none)).flag CAL_BIND.VALID = true ∧
    (aft (.captureEnd (allCodes 1250000) 2500000) (capture true none)).get CAL_OFS.OFFSET = 100 := by decide +kernel
theorem witness_bind : (aft (.calBindWrite 15 (256 + 56)) (busy [])).get CAL_BIND.CH 15 = 56 ∧
    (aft (.calBindWrite 15 (256 + 57)) (busy [])).get HOST_REFADDR.ADDR = 0x704F0 ∧ (capture true none).setBusy 0 = true ∧
    (aft .dacReadback (busy [(MON_RBCFG.RB_NEXT, 0, 5)])).hk.rb = some ⟨5, 0, none, 0, 0⟩ := by decide +kernel
theorem witness_bind_fields : (aft (.calBindWrite 0 (256 + 64 + 57)) (busy [(CAL_BIND.VALID, 0, 1), (CAL_BIND.CH, 0, 9)])).get CAL_BIND.CH = 9 ∧
    (aft (.calBindWrite 0 (256 + 64 + 57)) (busy [(CAL_BIND.VALID, 0, 1), (CAL_BIND.CH, 0, 9)])).get CAL_BIND.CONV = 1 ∧
    (aft (.calBindWrite 0 (256 + 64 + 57)) (busy [])).get CAL_BIND.CH = 57 ∧
    (aft (.calBindWrite 0 (256 + 64 + 57)) (busy [])).get CAL_BIND.VALID = 0 ∧
    (aft (.calBindWrite 0 57) (busy [])).refusals = 0 ∧ aft .dacReadback (part .off []) = part .off [] ∧
    (aft .dacReadback { busy [] with tb := 1, hk := { (busy []).hk with rbAt := some 0 } }).tb = 260000 ∧
    aft (.captureEnd [] 0) (busy []) = busy [] ∧ aft .calAbort (part .off []) = part .off [] := by decide +kernel

/-! Monitors and thermal sensing. -/

def monitor (runs : Nat) (l : List (Fld × Nat × Nat)) : Part :=
  { (part .run l).forN 8 (fun n q => ((q.set PR_MON.MON_OV 31 n).set PR_MON.MON_UV 31 n).set RAIL_PBMON.PB_MON 31 n) with
    mons := List.replicate 24 ⟨runs, true, 0, 0⟩ }
theorem witness_monitors : (∀ n : Rail, (monitor 2 []).get PR_MON.MON_OV n ≠ 23) ∧
    (aft (.monSample 23 ⟨1, straps0⟩) (monitor 2 [])).get MON_STAT.STATE 23 = 1 ∧
    (aft (.monCrossing 23 2441) (monitor 1 [(MON_THR.UPPER, 23, 1)])).get MON_STAT.STATE 23 = 0 ∧
    (aft (.monCrossing 23 2442) (monitor 1 [(MON_THR.UPPER, 23, 1)])).flag MON_STAT.ABOVE_EV 23 = true ∧
    (aft (.monSample 23 ⟨1, straps0⟩) (monitor 2 [(MON_STAT.FORCED, 23, 1)])).get MON_STAT.STATE 23 = 0 ∧
    ((aft (.pbBurstEnd ⟨0, straps0⟩) ((part .parked []).modRail 0 fun r => { r with pbOwns := true, pbBursting := true })).rail 0).pbFirst = true := by
  decide +kernel
theorem witness_monitor_bands : aft (.monSample 23 ⟨1, straps0⟩) (monitor 1 []) = monitor 1 [] ∧ aft (.monCrossing 23 1) (monitor 2 []) = monitor 2 [] ∧
    (aft (.monCrossing 23 2442) (monitor 1 [(MON_THR.UPPER, 23, 1), (MON_THR.LOWER, 23, 1)])).get MON_STAT.STATE 23 = 1 ∧
    (aft (.monCrossing 23 2441) (monitor 1 [(MON_THR.UPPER, 23, 1), (MON_THR.LOWER, 23, 1)])).get MON_STAT.STATE 23 = 2 ∧
    (aft (.monCrossing 23 442) (monitor 1 [(MON_THR.UPPER, 23, 1), (MON_CFG.HYS, 23, 1), (MON_STAT.STATE, 23, 1)])).get MON_STAT.STATE 23 = 1 ∧
    (aft (.monCrossing 23 441) (monitor 1 [(MON_THR.UPPER, 23, 1), (MON_CFG.HYS, 23, 1), (MON_STAT.STATE, 23, 1)])).get MON_STAT.STATE 23 = 0 ∧
    (aft (.monCrossing 23 442) (monitor 1 [(MON_THR.UPPER, 23, 1), (MON_CFG.HYS, 23, 1), (MON_STAT.START_HOLD, 23, 1)])).flag
      MON_STAT.START_HOLD 23 = true := by decide +kernel
def fresh (l : List (Fld × Nat × Nat)) : Part := { monitor 2 l with mons := List.replicate 24 ⟨2, false, 0, 0⟩ }
theorem witness_monitor_starts : (aft (.monSample 23 ⟨2442, straps0⟩) (fresh [(MON_THR.UPPER, 23, 1), (MON_CFG.HYS, 23, 1)])).get MON_STAT.STATE 23 = 1 ∧
    (aft (.monSample 23 ⟨2441, straps0⟩) (fresh [(MON_THR.UPPER, 23, 1), (MON_CFG.HYS, 23, 1), (MON_CFG.SAFE_STATE, 23, 2)])).get
      MON_STAT.STATE 23 = 2 ∧
    (aft (.monSample 23 ⟨2441, straps0⟩) (fresh [(MON_THR.UPPER, 23, 1), (MON_CFG.HYS, 23, 1)])).flag MON_STAT.START_HOLD 23 = true ∧
    (aft (.monSample 23 ⟨0, straps0⟩) (fresh [])).tb = 2500 := by decide +kernel
/-- A burst of the parked-burst generator in which samples came. -/
def burstSaw (l : List Nat) : Part := bursting.modRail 0 fun r => { r with pbSeen := l, pbFails := 1 }
theorem witness_burst_samples : ((aft (.pbBurstEnd ⟨0, straps0⟩) (burstSaw [0])).rail 0).pbFails = 0 ∧
    ((aft (.pbBurstEnd ⟨0, straps0⟩) (burstSaw [2])).rail 0).pbFails = 2 ∧
    ((aft (.pbBurstEnd ⟨0, straps0⟩) (burstSaw [2])).rail 0).pbBursting = true ∧
    ((aft (.pbBurstEnd ⟨0, straps0⟩) (burstSaw [])).rail 0).pbFirst = true ∧
    aft (.pbBurstEnd ⟨0, straps0⟩) (rail0 4 []) = rail0 4 [] := by decide +kernel
theorem witness_thermal : (part .run []).therm.length = 21 ∧ (part .load []).scanned 16 = true ∧
    (part .run []).thermRead 16 (.die (-32768)) = some (.inl (-32768)) ∧
    (aft (.thermSample 16 (.die (-32768))) (part .load [])).getS TS_READ.TEMP 16 = -32768 ∧
    (part .run [(TS_CFG.MODE, 0, 1)]).thermRead 0 (.diode 0 1000001) = some (.inr 1) ∧
    ((aft (.thermSample 0 (.diode 0 1000001)) (part .run [(TS_CFG.MODE, 0, 1)])).thermC 0).brokenRun = 1 := by decide +kernel
theorem witness_therm_frame : (aft (.thermSample 16 (.die 0)) { part .run [] with thermAt := some 0, tb := 1 }).tb = 1020000 ∧
    (part .run []).pwmRuns = true ∧ (aft (.thermSample 16 (.die 0)) (part .parked [])).tb = 0 ∧
    (part .run []).thermRead 16 (.diode 0 500000) = none ∧ aft (.thermSample 0 (.die 0)) (part .run []) = part .run [] ∧
    nth ((aft (.thermSample 16 (.die 2000)) (part .run [])).thermC 16).enter 0 0 = 1 ∧
    nth ((aft (.thermSample 16 (.die (-2000))) (part .run [(TS_STAT.WARN_ACT, 16, 1)])).thermC 16).leave 0 0 = 1 ∧
    aft (.sensorBroken 16) (part .run []) = part .run [] ∧ aft .feFail (part .run []) = part .run [] ∧
    aft (.thermCheck 501 80000) (part .off []) = part .off [] ∧ (aft (.thermCheck 501 80501) (part .run [])).feBad = [1, 1] := by
  decide +kernel
def therm (s : Nat) (x : ThermCore) (l : List (Fld × Nat × Nat)) : Part := (part .run l).modTherm s fun _ => x
theorem witness_broken : (aft (.sensorBroken 16) (therm 16 { brokenRun := 3, cause := 2 } [])).get TS_READ.BRK_CAUSE 16 = 2 ∧
    (aft (.sensorBroken 16) (therm 16 { brokenRun := 2 } [])).flag TS_READ.BROKEN 16 = false ∧
    (aft (.thermCheck 500 79500) { part .run [] with feBad := [2, 2] }).feBad = [0, 0] ∧
    (aft .feFail (part .run [(THERM_STAT.FE_FAIL, 0, 1)])).dev = .run ∧ (part .run []).flag THERM_CFG.FE_SAFE = false := by decide +kernel
theorem witness_levels : (part .run []).tsEnter 16 .warn = 4 ∧ (part .run []).tsShutEn 16 = true ∧ (part .run []).tsExit 16 = 4 ∧
    (aft (.thermalLevelEnter 16 .warn) (therm 16 { enter := [4, 0, 0] } [])).flag TS_STAT.WARN_ACT 16 = true ∧
    (aft (.thermalLevelEnter 16 .throttle) (therm 16 { enter := [0, 4, 0] } [])).flag TS_STAT.THR_EV 16 = true ∧
    (aft (.thermalLevelEnter 16 .shutdown) (therm 16 { enter := [0, 0, 4] } [])).dev = .hotlatch ∧
    (aft (.thermalLevelEnter 16 .shutdown) (therm 16 { enter := [0, 0, 3] } [])).dev = .run ∧
    (aft (.thermalLevelExit 16 .warn) (therm 16 { leave := [4, 0, 0] } [(TS_STAT.WARN_ACT, 16, 1)])).flag TS_STAT.WARN_ACT 16 = false := by
  decide +kernel
/-- Every remote sensor broken, and a front end that fails its check for the third time. -/
def allBroken : Part := { (part .run [(THERM_CFG.FE_SAFE, 0, 1)]).forN 16 fun k q => q.set TS_READ.BROKEN 1 k with feBad := [3, 0] }
theorem witness_levels_off : aft (.thermalLevelEnter 16 .warn) (part .run []) = part .run [] ∧
    aft (.thermalLevelExit 16 .warn) (part .run []) = part .run [] ∧
    (aft (.thermalLevelEnter 0 .shutdown) ((part .run [(TS_CFG.MODE, 0, 1)]).modTherm 0 fun _ => { enter := [0, 0, 99] })).flag
      TS_STAT.SHUT_EV 0 = true ∧
    (part .run [(TS_CFG.MODE, 0, 1)]).tsShutEn 0 = false ∧ aft .hotlatchClockStop (part .run []) = part .run [] ∧
    (part .off []).shutDue 16 = false ∧
    (aft .feFail allBroken).dev = .safe ∧
    (aft .feFail allBroken).get SAFE_DETAIL.DETAIL = 3 := by decide +kernel
theorem witness_hot : (aft .fixedDieShutdown (part .parked [])).clocksStopped = true ∧ (aft .fixedDieShutdown (part .run [])).hotLatch = true ∧
    (aft .hotlatchClockStop (part .hotlatch [])).clocksStopped = true := by decide +kernel

/-! In-field tests. -/

theorem witness_injections : (rail0 3 []).injCounts 0 = true ∧ (rail0 7 []).injCounts 0 = false ∧ (rail0 3 []).test.ecInj.length = 8 ∧
    (nth (rail0 3 []).test.ecInj 0 []).length = 2 ∧ (rail0 3 []).ecTol = 20 ∧
    nth (nth (aft (.ecInjection 0 1 21) (rail0 3 [])).test.ecInj 0 []) 1 0 = 1 ∧
    nth (nth (aft (.ecInjection 0 1 20) { rail0 3 [] with test := { ecInj := [[0, 2], [0, 0], [], [], [], [], [], []] } }).test.ecInj 0 []) 1 0 = 0 ∧
    ((aft (.ecInjection 0 1 21) (rail0 3 [])).rail 0).injSt = some 512 ∧
    (aft (.ecInjFail 0) { faulty 3 3 [] with test := { ecInj := [[0, 3]] } }).get PR_STAT.LAST_FAULT = 8 ∧
    (aft (.ecInjFail 0) { faulty 3 3 [] with test := { ecInj := [[0, 3]] } }).bit SENSE_CALSTAT.EC_FAIL 0 = true := by decide +kernel
theorem witness_phase_injections : ((rail0 3 []).ph 0).injCnt.length = 2 ∧ (rail0 3 []).phTol = 16 ∧
    nth ((aft (.phInjection 0 0 17) (rail0 3 [])).ph 0).injCnt 0 0 = 1 ∧
    ((aft (.phInjFail 0) (phase0 fun x => { x with injCnt := [3, 0] })).ph 0).retirePend = some 5 ∧
    (aft (.phInjFail 0) (phase0 fun x => { x with injCnt := [3, 0] })).flag PCS_CAL.CAL_FAIL = true := by decide +kernel
theorem witness_injections_off : aft (.ecInjection 0 0 0) (rail0 7 []) = rail0 7 [] ∧ aft (.phInjection 0 0 0) (rail0 0 []) = rail0 0 [] ∧
    aft (.phInjection 63 0 0) (rail0 3 []) = rail0 3 [] ∧ aft (.ecInjFail 0) (rail0 3 []) = rail0 3 [] ∧
    aft (.phInjFail 0) (rail0 3 []) = rail0 3 [] ∧
    ((aft (.phInjection 0 0 0) (phase0 fun x => { x with samples := [⟨0, 5, false, false⟩] })).ph 0).samples.length = 2 ∧
    (aft (.phInjFail 0) ((rail0 0 []).modPh 0 fun x => { x with injCnt := [3, 0] })).pst 0 = .retired := by decide +kernel
theorem witness_tests : (aft (.mbistStep 5 (some .aborted)) (part .safe [])).flag IF_STAT.NOTRUN_EV = true ∧
    (aft (.mbistStep 5 (some (.done good))) (part .safe [])).get IF_PASSCNT.PASS_CNT = 1 ∧
    (ringUp .run []).portIn .west = true ∧ (aft (.halLoopback .west (.done good)) (ringUp .run [])).outOf .west = false ∧
    (aft (.halLoopback .west (.done failing)) (ringUp .run [])).outOf .west = true ∧
    (aft (.testLate 4) (part .safe [])).flag IF_STAT.LATE_HAL = true ∧
    (aft (.testLate 4) (part .safe [])).bit SVC_STATUS.CAUSE 5 = true := by decide +kernel
theorem witness_ram_fails : (aft (.mbistStep 3 (some (.done failing))) (part .run [])).flag IF_STAT.QUEUE_OFF = true ∧
    (aft (.mbistStep 5 (some (.done failing))) (ringUp .run [])).outOf .east = true ∧
    (aft (.mbistStep 0 (some (.done failing))) (part .run [])).get SAFE_DETAIL.DETAIL = 1 ∧
    aft (.mbistStep 0 none) (part .run []) = part .run [] ∧ aft (.testLate 0) (part .off []) = part .off [] ∧
    (aft (.testLate 4) { part .safe [] with test := { cycleAt := [0, 0, 0, 0, 7] } }).tb = 1250000007 := by decide +kernel

/-! PMBus. -/

theorem witness_pmbus_reads : (part .ready []).pmbActive = true ∧ (part .ready [(SYS_STATE.ADDR_NONE, 0, 1)]).pmbActive = false ∧
    (aft (.capability (.read .none)) (part .safe [])).pmb.reply.data = [0xD4#8] ∧
    (aft (.voutCommand (.read .none)) (part .run [(RAIL_VOUT.VOUT_COMMAND, 7, 0x1234), (HOST_PMBSTAT.PAGE, 0, 7)])).pmb.reply.data =
      [0x34#8, 0x12#8] ∧
    (aft (.readIout (.read .none)) (part .run [])).pmb.reply.ack = true ∧ (part .run []).get HOST_PMBSTAT.PHASE = 0xFF := by decide +kernel
/-- Rail 2 is the page, with phase 1 of its two phases selected, and sensor 0 on that phase. -/
def paged (phase : Nat) : Part := part .run [(HOST_PMBSTAT.PAGE, 0, 2), (HOST_PMBSTAT.PHASE, 0, phase), (RAIL_CFG.PH_COUNT, 2, 2),
  (RAIL_CFG.PH_FIRST, 2, 4), (PCS_AVG.MEAN, 5, 256), (RAIL_CFG.RAIL_EN, 2, 1), (TS_READ.BROKEN, 0, 1)]
theorem witness_pmbus_phases : (aft (.readIout (.read .none)) (paged 1)).pmb.reply.data = leBytes 2 (lin11 1) ∧
    (paged 1).phaseSensor 5 = none ∧ bitOf (aft (.readTemperature1 (.read .none)) (paged 1)).pmb.cml 6 = 1 ∧
    bitOf (aft (.readIout (.read .none)) (paged 2)).pmb.cml 6 = 1 ∧
    ((List.range 8).find? ((paged 0).set HOST_PMBSTAT.PAGE 0xFF).railEn).getD 0 = 2 ∧
    (aft (.mfrRegAddr (.read .none)) (part .run [(HOST_REGPTR.ADDR, 0, 5)])).pmb.reply.data = [4#8, 5#8, 0#8, 0#8, 0#8] := by
  decide +kernel
theorem witness_pmbus_refuses : (aft (.page (.read .none)) (part .parked [])).pmb.reply.ack = false ∧
    (aft (.page (.write [1#8] .bad)) (part .run [])).pmb.cml = 32 ∧
    (aft (.capability (.write [] .good)) (part .run [])).get HOST_REFADDR.ADDR = 0xFFFFFF19 ∧
    (aft (.unsupportedCommand 5) (part .run [])).pmb.cml = 128 ∧ (aft .smbusTimeout (part .run [])).pmb.cml = 2 ∧
    ({ part .run [(HOST_PMBCFG.ALERT_EN, 0, 1)] with pmb := { cml := 2 } } : Part).salert = true ∧
    (aft .alertResponse { part .run [(HOST_PMBCFG.ALERT_EN, 0, 1)] with pmb := { cml := 2 } }).pmb.reply.data = [0x80#8] ∧
    (part .run []).salert = false := by decide +kernel
theorem witness_pmbus_first : (aft (.page (.read .none)) { part .run [] with pmbNack := true }).pmb.reply.ack = false ∧
    (aft (.page (.read .none)) { part .run [] with pmbNack := true }).pmbNack = false ∧
    (aft (.page (.read .none)) { part .run [] with parkReq := true }).parkReq = false ∧
    (aft (.page (.write [1#8] .none)) (part .run [(HOST_PMBCFG.PEC_REQ, 0, 1)])).flag HOST_PMBSTAT.PEC_EV = true ∧
    (aft (.clearFaults (.read .none)) (part .run [])).flag HOST_PMBSTAT.BADDATA_EV = true ∧
    (aft (.page (.write [1#8, 1#8] .good)) (part .run [])).flag HOST_PMBSTAT.BADDATA_EV = true ∧
    (aft .alertResponse (part .run [])).pmb.reply.ack = false ∧
    aft .smbusTimeout { part .run [] with sclHold := true } = { part .run [] with sclHold := true } := by decide +kernel
theorem witness_pmbus_writes : (aft (.page (.write [0xFF#8] .good)) (part .run [])).get HOST_PMBSTAT.PAGE = 0xFF ∧
    (aft (.page (.write [8#8] .good)) (part .run [])).get HOST_PMBSTAT.PAGE = 0 ∧
    (aft (.phase (.write [63#8] .good)) (part .run [])).get HOST_PMBSTAT.PHASE = 63 ∧
    (aft (.clearFaults (.write [] .good)) { part .run [] with pmb := { cml := 255, vout := [3, 4, 0, 0, 0, 0, 0, 0] } }).pmb.vout =
      [0, 4, 0, 0, 0, 0, 0, 0] ∧
    (aft (.statusCml (.write [0x80#8] .good)) { part .run [] with pmb := { cml := 0x82 } }).pmb.cml = 2 := by decide +kernel
theorem witness_set_points :
    (((part .run []).answer true).set RAIL_VOUT.VOUT_COMMAND 65535 0).regOk ((part .run []).answer true) 0x10008 = true ∧
    (aft (.voutCommand (.write [0xFF#8, 0xFF#8] .good)) (part .run [])).get RAIL_VOUT.VOUT_COMMAND = 65535 ∧
    ((((part .run []).answer true).set RAIL_ONOFF.OP_ON 1 0).set RAIL_ONOFF.MARGIN 2 0).regOk ((part .run []).answer true) 0x10004 = true ∧
    (aft (.operation (.write [0xA8#8] .good)) (part .run [])).get RAIL_ONOFF.MARGIN = 2 ∧ bitsOf 0xA8 4 2 ≠ 3 ∧
    (((part .run []).answer true).set RAIL_ONOFF.ON_OFF_CONFIG 31 0).regOk ((part .run []).answer true) 0x10004 = true ∧
    (((part .run []).answer true).set RAIL_TONRISE.TIME 500000 0).regOk ((part .run []).answer true) 0x10018 = true ∧
    ((500000 : Nat) : Int) = clampI 50 500000 (lin11Scaled 0x03FF 1000) ∧ 0 ≤ lin11Y 0x03FF := by decide +kernel
theorem witness_write_refusals : (aft (.operation (.write [0x30#8] .good)) (part .run [])).pmb.cml = 64 ∧
    (aft (.onOffConfig (.write [32#8] .good)) (part .run [])).pmb.cml = 64 ∧ lin11Y 0x0400 < 0 ∧
    (aft (.tonRise (.write [0#8, 0x04#8] .good)) (part .run [])).pmb.cml = 64 ∧
    (aft (.tonRise (.write [0xFF#8, 0x03#8] .good)) (part .run [])).get RAIL_TONRISE.TIME = 500000 ∧
    (aft (.page (.write [0x80#8] .good)) (part .run [])).pmb.cml = 64 ∧
    (aft (.voutCommand (.write [1#8, 0#8] .good)) (part .run [(HOST_PMBSTAT.PAGE, 0, 0xFF)])).get RAIL_VOUT.VOUT_COMMAND 7 = 1 ∧
    (aft (.otWarnLimit (.write [100#8, 0#8] .good)) (part .run [])).pmb.cml = 64 := by decide +kernel
theorem witness_limits : (((part .run []).answer true).set PR_OCLIM.OC_FAULT 20 0).regOk ((part .run []).answer true) 0x60000 = true ∧
    ((20 : Nat) : Int) = lin11Scaled 10 2 ∧
    (aft (.ioutOcFaultLimit (.write [10#8, 0#8] .good)) (part .run [(PR_STAT.TRK_RUN, 0, 1)])).get PR_IAVG.OC_FAULT_EFF = 20 ∧
    (aft (.ioutOcFaultLimit (.write [10#8, 0#8] .good)) (part .run [(PR_STAT.TRK_RUN, 0, 1)])).get PR_STAT.TRK_RUN = 0 ∧
    (part .run [(TS_CFG.MODE, 15, 1), (TS_CFG.RAILS, 15, 1)]).remotesOf 0 = [15] ∧
    (((part .run [(TS_CFG.MODE, 15, 1), (TS_CFG.RAILS, 15, 1)]).answer true).set TS_THR.WARN_T 100 15).thermOk 15 = true ∧
    ((100 : Nat) : Int) = lin11Scaled 100 1 ∧
    (aft (.otWarnLimit (.write [100#8, 0#8] .good)) (part .run [(TS_CFG.MODE, 15, 1), (TS_CFG.RAILS, 15, 1)])).get TS_THR.WARN_T 15 = 100 := by
  decide +kernel
/-- A state with one log entry that a scan finds valid. -/
def logState : State := { st { part .run [] with pmb := { slogUnit := some 0, bitSlot := some 3 } } with
  array := nvmWriteBytes [] (104 * 512) ((part .run []).unitBytes (.log ⟨0x12345600, 3, 9⟩)) }
theorem witness_window_port : windowOk 0x70018 = true ∧ windowOk 0xF0000 = false ∧
    (aft (.mfrRegAddr (.write [1#8, 2#8, 3#8, 4#8] .good)) (part .run [])).get HOST_REGPTR.ADDR = 0x04030201 ∧
    (aft (.mfrRegDataInc (.read .none)) (part .run [(HOST_REGPTR.ADDR, 0, 0x10008), (RAIL_VOUT.VOUT_COMMAND, 0, 0x1234)])).pmb.reply.data.take 3 =
      [4#8, 0x34#8, 0x12#8] ∧
    (aft (.mfrRegDataInc (.read .none)) (part .run [(HOST_REGPTR.ADDR, 0, 0x10008)])).get HOST_REGPTR.ADDR = 0x1000C ∧
    (aft (.mfrRegData (.write [0#8, 0#8, 0#8, 0#8] .good)) (part .run [(HOST_REGPTR.ADDR, 0, 0xF0000)])).get HOST_REFADDR.ADDR = 0xFFFFFFD1 ∧
    (aft (.mfrCalCmd (.write [0x11#8, 0#8, 0#8, 0#8] .good)) (part .run [])).hk.cal.isSome = true := by decide +kernel
theorem witness_window_reads : (aft (.mfrRegData (.read .none)) (part .run [(HOST_REGPTR.ADDR, 0, 0xF0000)])).pmb.reply.data =
      [4#8, 0#8, 0#8, 0#8, 0#8] ∧
    bitOf (aft (.mfrRegData (.read .none)) (part .run [(HOST_REGPTR.ADDR, 0, 0xF0000)])).pmb.cml 6 = 1 ∧
    (aft (.mfrRegDataInc (.write [1#8, 0#8, 0#8, 0#8] .good)) (part .run [(HOST_REGPTR.ADDR, 0, 0x1000C)])).get HOST_REGPTR.ADDR = 0x10010 ∧
    windowOk 0xEFFFC = true ∧ windowOk 2 = false := by decide +kernel
theorem witness_log_entry : (logsByAge logState.array)[0]? = some 0 ∧ (logsByAge logState.array)[1]? = none ∧
    (after (.mfrSlogSel (.write [0#8, 0#8] .good)) logState).part.pmb.slogUnit = some 0 ∧
    (after (.mfrSlogRead (.read .none)) logState).part.pmb.reply.data.take 7 = [16#8, 0x56#8, 0x34#8, 0x12#8, 0#8, 0#8, 0#8] ∧
    (after (.mfrBitRead (.read .none)) logState).part.pmb.chunk = 1 := by decide +kernel
theorem witness_no_entry : (recsByAge (st (part .run [])).array)[0]? = none ∧
    (aft (.mfrBitSel (.write [0#8, 0#8] .good)) (part .run [])).pmb.cml = 64 ∧
    (aft (.mfrSlogSel (.write [0#8, 0#8] .good)) (part .run [])).pmb.cml = 64 ∧
    (aft (.mfrBitRead (.read .none)) (part .run [])).pmb.reply.data = 32#8 :: List.replicate 32 0#8 ∧
    (aft (.mfrSlogRead (.read .none)) (part .run [])).pmb.cml = 64 := by decide +kernel

/-! AVSBus. -/

/-- Port 0 enabled, its select 0 mapped to rail 0. -/
def avsUp (l : List (Fld × Nat × Nat)) : Part := part .run ([(AVS_CFG.EN, 0, 1), (AVS_MAP.SEL, 0, 8)] ++ l)
/-- A request with its own CRC. -/
def sealed (r : AvsReq) (type : Nat) : AvsReq := { r with crc := crc3 29 0 (avsBits r type) }
theorem witness_avs : (avsUp []).role = .solo ∧ (avsUp []).avs.reply.length = 2 ∧ (avsUp []).avs.waitIdle.length = 2 ∧
    (avsUp []).avs.holds.length = 2 ∧ (avsUp []).get AVS_MAP.SEL 0 0 = 8 ∧
    nth (aft (.avsStatus avs0) (part .run [])).avs.reply 0 none = none ∧
    (aft (.avsStatus { avs0 with secondBit := false }) (avsUp [])).flag AVS_STAT.FRAME_EV = true ∧
    (aft (.avsStatus { sealed avs0 14 with crc := ((sealed avs0 14).crc + 1) % 8 }) (avsUp [])).flag AVS_STAT.CRC_EV = true ∧
    (nth (aft (.avsStatus (sealed { avs0 with cmd := 3 } 14)) (avsUp [])).avs.reply 0 none).isSome = true := by decide +kernel
theorem witness_avs_port : (avsUp []).avsDrives = true ∧
    nth (aft (.avsStatus avs0) (avsUp [])).avs.reply 1 none = none ∧
    (aft (.avsStatus avs0) { avsUp [] with parkReq := true }).parkReq = false ∧
    nth (aft (.avsStatus avs0) { avsUp [] with avs := { waitIdle := [true, false] } }).avs.waitIdle 0 false = true ∧
    (aft (.avsStatus (sealed { avs0 with cmd := 3, select := 15 } 14)) (avsUp [])).flag AVS_STAT.REJ_EV = true ∧
    (aft (.avsVoltage (sealed { avs0 with group := true } 0)) (avsUp [])).get AVS_EVCNT.REJ_CNT = 1 ∧
    nth (aft (.avsPowerMode (sealed { avs0 with cmd := 3 } 5)) (avsUp [(AVS_PMODE.PMODE, 0, 3)])).avs.reply 0 none =
      some ((avsUp [(AVS_PMODE.PMODE, 0, 3)]).avsFrame 0 0 0 3) := by decide +kernel
theorem witness_avs_writes :
    (aft (.avsVoltage (sealed { avs0 with data := 900 } 0)) (avsUp [(RAIL_CFG.SP_SRC, 0, 1)])).get RAIL_AVS.AVS_V = 900 ∧
    (aft (.avsVoltage (sealed { avs0 with data := 900 } 0)) (avsUp [])).flag AVS_STAT.REJ_EV = true ∧
    (aft (.avsVoutTransitionRate (sealed { avs0 with data := 0x0133 } 1)) (avsUp [])).get RAIL_SLEW.SLEW_DN = 5000 ∧
    (aft (.avsResetVoltage (sealed avs0 4)) (avsUp [(RAIL_AVS.AVS_VALID, 0, 1)])).flag RAIL_AVS.AVS_VALID = false ∧
    (aft (.avsPowerMode (sealed { avs0 with data := 3 } 5)) (avsUp [])).get AVS_PMODE.PMODE = 3 ∧
    nth (aft (.avsWriteHold (sealed { avs0 with cmd := 1, data := 3 } 5) 5) (avsUp [])).avs.holds 0 [] = [⟨0, 5, 3⟩] ∧
    (aft (.avsUnsupportedType (sealed avs0 13) 13) (avsUp [])).flag AVS_STAT.REJ_EV = true ∧
    (aft (.avsIdleResync 1) { part .run [(AVS_CFG.EN, 1, 1)] with avs := { waitIdle := [true, true] } }).avs.waitIdle = [true, false] := by
  decide +kernel
/-- Port 0 with four held entries. -/
def holding : Part := { avsUp [] with avs := { holds := [[⟨0, 5, 1⟩, ⟨0, 4, 0⟩, ⟨0, 1, 0x0101⟩, ⟨0, 14, 0⟩], []] } }
theorem witness_avs_holds : (aft (.avsWriteHold (sealed { avs0 with cmd := 1, data := 7 } 0) 0) { holding with regs :=
      (holding.set RAIL_CFG.SP_SRC 1).regs }).flag AVS_STAT.REJ_EV = true ∧
    (nth (aft (.avsWriteHold (sealed { avs0 with cmd := 1, data := 2 } 5) 5) holding).avs.holds 0 []).head? = some ⟨0, 5, 2⟩ ∧
    nth (aft (.avsPowerMode (sealed { avs0 with data := 3 } 5)) holding).avs.holds 0 [] = [] ∧
    (aft (.avsPowerMode (sealed { avs0 with data := 3 } 5)) holding).get RAIL_SLEW.SLEW_UP = 100 ∧
    (aft (.avsStatus (sealed { avs0 with data := 0x7800 } 14)) (avsUp [(AVS_RSTAT.R, 0, 15)])).get AVS_RSTAT.R = 0 := by decide +kernel

/-! Registers and outputs. -/

theorem witness_registers : (aft (.registerWrite .pmbus 0xE1000 0) (part .run [])).get HOST_REFADDR.ADDR = 0xE1000 ∧
    (aft (.registerWrite .pmbus 0xF0000 0) (part .run [])).refusals = 0 ∧ (aft (.registerWrite .pmbus 0xE1000 0) (part .off [])).refusals = 0 ∧
    (aft (.registerWrite .jtag 0xA00FC 1) (part .run [])).refusals = 0 ∧
    (aft (.registerWrite .pmbus (PWR_EVENT.VDD33_LOST.key / 32) (2 ^ (PWR_EVENT.VDD33_LOST.key % 32)))
      (part .run [(PWR_EVENT.VDD33_LOST, 0, 1)])).flag PWR_EVENT.VDD33_LOST = false ∧
    (aft (.registerWrite .pmbus (PWR_EVENT.VDD33_LOST.key / 32) 0) (part .run [(PWR_EVENT.VDD33_LOST, 0, 1)])).flag PWR_EVENT.VDD33_LOST =
      true ∧
    (aft (.registerWrite .pmbus (FAB_CFG.MSEL.key / 32) (2 ^ (FAB_CFG.MSEL.key % 32))) (part .run [])).refusals = 1 := by decide +kernel
/-- The word that writes a value to a field of instance 0, and where. -/
def wr (f : Fld) (v : Nat) : Instr := .registerWrite .pmbus (f.key / 32) (v * 2 ^ (f.key % 32))
theorem witness_register_fields : (aft (wr RAIL_TONDLY.TIME 1000) (part .run [])).get RAIL_TONDLY.TIME = 1000 ∧
    (((part .run []).set RAIL_TONDLY.TIME 1000).regOk (part .run []) (RAIL_TONDLY.TIME.key / 32)) = true ∧
    (aft (wr RAIL_PGDLY.PG_DLY 5) (part .run [(RAIL_CFG.RAIL_EN, 0, 1)])).refusals = 1 ∧
    (aft (wr SEQ_TOFS.TRG_OFS 5) (part .run [])).get SEQ_TOFS.TRG_OFS = 5 ∧
    (aft (wr SEQ_TOFS.TRG_OFS 5) (part .run [(SEQ_CFG.EN, 0, 1)])).refusals = 1 ∧
    (aft (wr HOST_PMBCFG.ALERT_MASK 1) (part .run [])).get HOST_PMBCFG.ALERT_MASK = 1 ∧
    aft (.registerWrite .pmbus 0 5) (part .run []) = part .run [] ∧ (aft (.registerWrite .jtag 0xA0130 1) (part .test [])).refusals = 1 ∧
    aft (.registerWrite .pmbus 2 5) (part .run []) = part .run [] := by decide +kernel
theorem witness_register_commands : (aft (.registerWrite .pmbus 0x10 (0xA5 + 2 ^ 9)) (part .run [])).dev = .safe ∧
    (aft (.registerWrite .pmbus 0x22400 (0xA5 + 3 * 2 ^ 8)) (part .run [])).flag SLICE_STATE.RESERVED = true ∧
    (aft (.registerWrite .jtag 0xA0100 (0xA5 + 3 * 2 ^ 8)) (part .run [(DBG_STAT.SESSION, 0, 1)])).flag DBG_STAT.SESSION = false := by
  decide +kernel
theorem witness_stages : (part .safe []).dev = .safe ∧ (part .safe []).pwm 63 0 = .highZ ∧
    ({ part .safe [] with supplies := supplied } : Part).pwm 63 0 = .tri ∧
    ({ rail0 3 [] with supplies := supplied } : Part).railOf 1 = none := by decide +kernel
/-- Rail 0 with its supplies. -/
def powered (state : Nat) : Part := { rail0 state [] with supplies := supplied }
theorem witness_levels_out : ((powered 3).modPh 0 fun x => { x with offered := true, pulse := true, startSt := 5, onSt := 3 }).pwm 0 7 = .high ∧
    ((powered 3).modPh 0 fun x => { x with offered := true, pulse := true, startSt := 5, onSt := 3 }).pwm 0 8 = .low ∧
    ((powered 3).modPh 0 fun x => { x with offered := true, pulse := true, startSt := 5, onSt := 3, zc := true }).pwm 0 8 = .tri ∧
    (powered 3).pwm 0 0 = .tri ∧ ((powered 3).modRail 0 fun r => { r with safeAct := some true }).pwm 0 0 = .low ∧
    ((powered 3).modRail 0 fun r => { r with safeAct := some false }).pwm 0 0 = .tri ∧ (powered 0).pwm 0 0 = .tri := by decide +kernel
def burstOut (trunc : Option (Nat × Nat)) : Part := { (bursting.modRail 0 fun r => { r with pbTrunc := trunc }) with supplies := supplied }
theorem witness_burst_levels : (burstOut none).pwm 0 9999 = .high ∧ (burstOut none).pwm 0 10000 = .low ∧
    (burstOut none).pwm 0 19999 = .low ∧ (burstOut none).pwm 0 20000 = .tri ∧ (burstOut none).pwm 0 40000 = .high ∧
    (burstOut none).pwm 0 80000 = .tri ∧ (burstOut (some (0, 5000))).pwm 0 5000 = .low ∧
    (burstOut (some (0, 5000))).pwm 0 40000 = .high := by decide +kernel

end Sys2Proof.Tests
end

section
/-!
SUPPORT. Scopes: what an operation may change of the part, as data. `Part.kept` is what a scope holds fast of a part, so
that the frame of an operation is one equation, `(op p).kept a = p.kept a`; the frames of the model's update operations
follow here, and `Part.kept_mono` carries an equation from a scope to every wider one.
-/

namespace Sys2Proof.Machine

open Reg

/-- The pieces of the part, beside its registers, that a family of commands may change. -/
inductive Piece where
  | tb | sub | free | refusals | otpJob | load | parkReq | parkAt | pmbNack | healthAt | thermAt | thrMask | thrHold | feBad
  | rails | phases | slices | eng | hk | mons | therm | nvm | hal | pair | pmb | avs | test
deriving DecidableEq

/-- What an operation may change: some pieces, and the registers outside the byte addresses from `lo` to below `hi`. -/
structure Scope where
  pieces : List Piece
  lo : Nat := 0
  hi : Nat

/-- A scope lies within another one: it may change no more. -/
def Scope.within (b a : Scope) : Bool := b.pieces.all a.pieces.contains && decide (b.lo ≤ a.lo) && decide (a.hi ≤ b.hi)

/-- A field lies outside the registers that a scope holds fast: above them with all its copies, or below them as a field
without copies, or the scope holds no register fast. -/
def Scope.may (a : Scope) (f : Fld) : Bool :=
  decide (a.hi * 32 ≤ f.key) || (decide (f.key < a.lo * 32) && decide (f.step1 = 0) && decide (f.step2 = 0)) ||
    decide (a.hi ≤ a.lo)

/-- A value of a piece, blanked where the scope may change it. -/
def Scope.blank {α : Type} (a : Scope) (x : Piece) (z v : α) : α := if x ∈ a.pieces then z else v

/-- A piece of one part, or of another one where the scope may change it. -/
def Scope.pick {α : Type} (a : Scope) (x : Piece) (u v : α) : α := if x ∈ a.pieces then v else u

/-- A part without its registers and without the pieces that a scope may change. -/
def Part.masked (a : Scope) (p : Part) : Part :=
  { p with
    regs := [], tb := a.blank .tb 0 p.tb, sub := a.blank .sub 0 p.sub, free := a.blank .free 0 p.free
    refusals := a.blank .refusals 0 p.refusals, otpJob := a.blank .otpJob {} p.otpJob, load := a.blank .load {} p.load
    parkReq := a.blank .parkReq false p.parkReq, parkAt := a.blank .parkAt 0 p.parkAt
    pmbNack := a.blank .pmbNack false p.pmbNack, healthAt := a.blank .healthAt none p.healthAt
    thermAt := a.blank .thermAt none p.thermAt, thrMask := a.blank .thrMask [] p.thrMask
    thrHold := a.blank .thrHold [] p.thrHold, feBad := a.blank .feBad [] p.feBad, rails := a.blank .rails [] p.rails
    phases := a.blank .phases [] p.phases, slices := a.blank .slices [] p.slices, eng := a.blank .eng {} p.eng
    hk := a.blank .hk {} p.hk, mons := a.blank .mons [] p.mons, therm := a.blank .therm [] p.therm
    nvm := a.blank .nvm {} p.nvm, hal := a.blank .hal {} p.hal, pair := a.blank .pair {} p.pair
    pmb := a.blank .pmb {} p.pmb, avs := a.blank .avs {} p.avs, test := a.blank .test {} p.test }

/-- What the cells of a register file that a scope holds fast read. -/
def Scope.fixed (a : Scope) (r : RegFile) (k : Nat) : Nat := if a.lo * 32 ≤ k ∧ k < a.hi * 32 then r.read k else 0

/-- What a scope holds fast of a part. -/
def Part.kept (a : Scope) (p : Part) : Part × (Nat → Nat) := (p.masked a, a.fixed p.regs)

/-- A part with its registers and the pieces that a scope may change taken from another one. -/
def Part.graft (a : Scope) (p q : Part) : Part :=
  { p with
    regs := q.regs, tb := a.pick .tb p.tb q.tb, sub := a.pick .sub p.sub q.sub, free := a.pick .free p.free q.free
    refusals := a.pick .refusals p.refusals q.refusals, otpJob := a.pick .otpJob p.otpJob q.otpJob
    load := a.pick .load p.load q.load, parkReq := a.pick .parkReq p.parkReq q.parkReq
    parkAt := a.pick .parkAt p.parkAt q.parkAt, pmbNack := a.pick .pmbNack p.pmbNack q.pmbNack
    healthAt := a.pick .healthAt p.healthAt q.healthAt, thermAt := a.pick .thermAt p.thermAt q.thermAt
    thrMask := a.pick .thrMask p.thrMask q.thrMask, thrHold := a.pick .thrHold p.thrHold q.thrHold
    feBad := a.pick .feBad p.feBad q.feBad, rails := a.pick .rails p.rails q.rails
    phases := a.pick .phases p.phases q.phases, slices := a.pick .slices p.slices q.slices, eng := a.pick .eng p.eng q.eng
    hk := a.pick .hk p.hk q.hk, mons := a.pick .mons p.mons q.mons, therm := a.pick .therm p.therm q.therm
    nvm := a.pick .nvm p.nvm q.nvm, hal := a.pick .hal p.hal q.hal, pair := a.pick .pair p.pair q.pair
    pmb := a.pick .pmb p.pmb q.pmb, avs := a.pick .avs p.avs q.avs, test := a.pick .test p.test q.test }

/-! What an equation of kept parts says. -/

theorem Scope.blank_eq_iff {α : Type} {a : Scope} {x : Piece} {z u v : α} :
    a.blank x z v = a.blank x z u ↔ v = a.pick x u v := by
  unfold Scope.blank Scope.pick
  split <;> simp

theorem Scope.blank_blank {α : Type} {a b : Scope} (x : Piece) (z v : α) (h : b.within a = true) :
    a.blank x z (b.blank x z v) = a.blank x z v := by
  unfold Scope.blank
  split
  · rfl
  · rename_i ha
    simp only [Scope.within, Bool.and_eq_true, List.all_eq_true, List.contains_iff_mem] at h
    obtain ⟨⟨hsub, -⟩, -⟩ := h
    rw [if_neg fun hb => ha (hsub x hb)]

/-- A part that keeps what a scope holds fast differs from the old one in the scope alone. -/
theorem Part.eq_graft_of_kept {a : Scope} {p q : Part} (h : q.kept a = p.kept a) : q = p.graft a q := by
  have hm : q.masked a = p.masked a := congrArg Prod.fst h
  cases p
  cases q
  simpa only [Part.masked, Part.graft, Part.mk.injEq, Scope.blank_eq_iff, true_and] using hm

/-- A part that keeps what a scope holds fast reads the same in the registers that the scope holds fast. -/
theorem Part.keeps_of_kept {a : Scope} {p q : Part} (h : q.kept a = p.kept a) : p.keeps q a.lo a.hi := by
  intro k hlo hhi
  have hk : a.fixed q.regs k = a.fixed p.regs k := congrFun (congrArg Prod.snd h) k
  simpa [Scope.fixed, hlo, hhi] using hk

theorem Part.keeps_mono {p q : Part} {lo hi lo' hi' : Nat} (h : p.keeps q lo hi) (hlo : lo ≤ lo') (hhi : hi' ≤ hi) :
    p.keeps q lo' hi' := fun k hk hk' => h k (by omega) (by omega)

theorem Part.masked_masked {a b : Scope} (p : Part) (h : b.within a = true) : (p.masked b).masked a = p.masked a := by
  simp [Part.masked, Scope.blank_blank, h]

/-- What a scope holds fast, every wider scope does not miss. -/
theorem Part.kept_mono {a b : Scope} {p q : Part} (h : b.within a = true) (e : q.kept b = p.kept b) :
    q.kept a = p.kept a := by
  have hm : q.masked a = p.masked a := by
    rw [← Part.masked_masked q h, ← Part.masked_masked p h]
    exact congrArg (Part.masked a) (congrArg Prod.fst e)
  have hr : a.fixed q.regs = a.fixed p.regs := by
    funext k
    have hk : b.fixed q.regs k = b.fixed p.regs k := congrFun (congrArg Prod.snd e) k
    simp only [Scope.within, Bool.and_eq_true, decide_eq_true_eq] at h
    unfold Scope.fixed at hk ⊢
    split
    · rwa [if_pos (by omega), if_pos (by omega)] at hk
    · rfl
  exact Prod.ext hm hr

end Sys2Proof.Machine
end

section
/-!
SUPPORT. The frames of the model's update operations over scopes.
-/

namespace Sys2Proof.Machine

open Reg

/-! Registers. -/

/-- A register write outside the registers that a scope holds fast. -/
@[simp] theorem Part.set_kept (a : Scope) (p : Part) (f : Fld) (v i j : Nat) (h : a.may f = true) :
    (p.set f v i j).kept a = p.kept a := by
  have hr : a.fixed (p.set f v i j).regs = a.fixed p.regs := by
    funext k
    simp only [Scope.may, Bool.or_eq_true, Bool.and_eq_true, decide_eq_true_eq] at h
    simp only [Scope.fixed, Part.set]
    split
    · refine RegFile.read_write_ne _ _ _ _ fun hk => ?_
      rcases h with (h | ⟨⟨h, h1⟩, h2⟩) | h
      · simp only [Fld.at] at hk
        omega
      · simp only [Fld.at, h1, h2, Nat.mul_zero] at hk
        omega
      · omega
    · rfl
  exact Prod.ext rfl hr

@[simp] theorem Part.setS_kept (a : Scope) (p : Part) (f : Fld) (v : Int) (i j : Nat) (h : a.may f = true) :
    (p.setS f v i j).kept a = p.kept a := p.set_kept a f _ i j h

@[simp] theorem Part.setSat_kept (a : Scope) (p : Part) (f : Fld) (v : Int) (i j : Nat) (h : a.may f = true) :
    (p.setSat f v i j).kept a = p.kept a := p.set_kept a f _ i j h

@[simp] theorem Part.put_kept (a : Scope) (p : Part) (f : Fld) (b : Bool) (i j : Nat) (h : a.may f = true) :
    (p.put f b i j).kept a = p.kept a := p.set_kept a f _ i j h

@[simp] theorem Part.setBit_kept (a : Scope) (p : Part) (f : Fld) (k i : Nat) (h : a.may f = true) :
    (p.setBit f k i).kept a = p.kept a := p.set_kept a f _ i 0 h

@[simp] theorem Part.clearBit_kept (a : Scope) (p : Part) (f : Fld) (k i : Nat) (h : a.may f = true) :
    (p.clearBit f k i).kept a = p.kept a := p.set_kept a f _ i 0 h

@[simp] theorem Part.bump_kept (a : Scope) (p : Part) (f : Fld) (i j : Nat) (h : a.may f = true) :
    (p.bump f i j).kept a = p.kept a := p.set_kept a f _ i j h

@[simp] theorem Part.bumpWrap_kept (a : Scope) (p : Part) (f : Fld) (i j : Nat) (h : a.may f = true) :
    (p.bumpWrap f i j).kept a = p.kept a := p.set_kept a f _ i j h

@[simp] theorem Part.event_kept (a : Scope) (p : Part) (e c : Fld) (i : Nat) (he : a.may e = true)
    (hc : a.may c = true) : (p.event e c i).kept a = p.kept a := by
  rw [Part.event, Part.bump_kept _ _ _ _ _ hc, Part.set_kept _ _ _ _ _ _ he]

/-- The fields that lie byte by byte after a field above the registers that a scope holds fast. -/
@[simp] theorem Scope.may_byteFld (a : Scope) (f : Fld) (n : Nat) (h : a.hi * 32 ≤ f.key) :
    a.may (byteFld f n) = true := by
  have hk : a.hi * 32 ≤ (byteFld f n).key := by
    simp only [byteFld]
    omega
  simp [Scope.may, hk]

/-! The pieces of the internal state. -/

@[simp] theorem Part.modRail_kept (a : Scope) (p : Part) (n : Nat) (g : RailCore → RailCore) (h : .rails ∈ a.pieces) :
    (p.modRail n g).kept a = p.kept a := by
  simp [Part.kept, Part.masked, Scope.blank, h]

@[simp] theorem Part.modPh_kept (a : Scope) (p : Part) (n : Nat) (g : PhaseCore → PhaseCore) (h : .phases ∈ a.pieces) :
    (p.modPh n g).kept a = p.kept a := by
  simp [Part.kept, Part.masked, Scope.blank, h]

@[simp] theorem Part.modSlice_kept (a : Scope) (p : Part) (n : Nat) (g : SliceCore → SliceCore) (h : .slices ∈ a.pieces) :
    (p.modSlice n g).kept a = p.kept a := by
  simp [Part.kept, Part.masked, Scope.blank, h]

@[simp] theorem Part.modEng_kept (a : Scope) (p : Part) (g : EngineCore → EngineCore) (h : .eng ∈ a.pieces) :
    (p.modEng g).kept a = p.kept a := by
  simp [Part.kept, Part.masked, Scope.blank, h]

@[simp] theorem Part.modHk_kept (a : Scope) (p : Part) (g : HkCore → HkCore) (h : .hk ∈ a.pieces) :
    (p.modHk g).kept a = p.kept a := by
  simp [Part.kept, Part.masked, Scope.blank, h]

@[simp] theorem Part.modNvm_kept (a : Scope) (p : Part) (g : NvmCore → NvmCore) (h : .nvm ∈ a.pieces) :
    (p.modNvm g).kept a = p.kept a := by
  simp [Part.kept, Part.masked, Scope.blank, h]

@[simp] theorem Part.modHal_kept (a : Scope) (p : Part) (g : HalCore → HalCore) (h : .hal ∈ a.pieces) :
    (p.modHal g).kept a = p.kept a := by
  simp [Part.kept, Part.masked, Scope.blank, h]

@[simp] theorem Part.modPair_kept (a : Scope) (p : Part) (g : PairCore → PairCore) (h : .pair ∈ a.pieces) :
    (p.modPair g).kept a = p.kept a := by
  simp [Part.kept, Part.masked, Scope.blank, h]

@[simp] theorem Part.modPmb_kept (a : Scope) (p : Part) (g : PmbCore → PmbCore) (h : .pmb ∈ a.pieces) :
    (p.modPmb g).kept a = p.kept a := by
  simp [Part.kept, Part.masked, Scope.blank, h]

@[simp] theorem Part.modAvs_kept (a : Scope) (p : Part) (g : AvsCore → AvsCore) (h : .avs ∈ a.pieces) :
    (p.modAvs g).kept a = p.kept a := by
  simp [Part.kept, Part.masked, Scope.blank, h]

@[simp] theorem Part.modTest_kept (a : Scope) (p : Part) (g : TestCore → TestCore) (h : .test ∈ a.pieces) :
    (p.modTest g).kept a = p.kept a := by
  simp [Part.kept, Part.masked, Scope.blank, h]

@[simp] theorem Part.modTherm_kept (a : Scope) (p : Part) (n : Nat) (g : ThermCore → ThermCore) (h : .therm ∈ a.pieces) :
    (p.modTherm n g).kept a = p.kept a := by
  simp [Part.kept, Part.masked, Scope.blank, h, Part.modTherm]

@[simp] theorem Part.tick_kept (a : Scope) (p : Part) (h : .free ∈ a.pieces) : p.tick.kept a = p.kept a := by
  simp [Part.kept, Part.masked, Scope.blank, h]

@[simp] theorem Part.advance_kept (a : Scope) (p : Part) (t : Nat) (h : .tb ∈ a.pieces) (h' : .sub ∈ a.pieces) :
    (p.advance t).kept a = p.kept a := by
  simp [Part.kept, Part.masked, Scope.blank, h, h']

@[simp] theorem Part.advanceSt_kept (a : Scope) (p : Part) (t : Nat) (h : .tb ∈ a.pieces) (h' : .sub ∈ a.pieces) :
    (p.advanceSt t).kept a = p.kept a := by
  simp [Part.kept, Part.masked, Scope.blank, h, h']

@[simp] theorem Part.modSeq_kept (a : Scope) (p : Part) (s : Nat) (g : SeqCore → SeqCore) (h : .hk ∈ a.pieces) :
    (p.modSeq s g).kept a = p.kept a := p.modHk_kept a _ h

/-! Pieces set as they stand in the record. -/

theorem Part.with_mons_kept (a : Scope) (p : Part) (l : List MonCore) (h : .mons ∈ a.pieces) :
    ({ p with mons := l } : Part).kept a = p.kept a := by
  simp [Part.kept, Part.masked, Scope.blank, h]

theorem Part.with_refusals_kept (a : Scope) (p : Part) (n : Nat) (h : .refusals ∈ a.pieces) :
    ({ p with refusals := n } : Part).kept a = p.kept a := by
  simp [Part.kept, Part.masked, Scope.blank, h]

theorem Part.with_parkReq_kept (a : Scope) (p : Part) (b : Bool) (h : .parkReq ∈ a.pieces) :
    ({ p with parkReq := b } : Part).kept a = p.kept a := by
  simp [Part.kept, Part.masked, Scope.blank, h]

theorem Part.with_pmbNack_kept (a : Scope) (p : Part) (b : Bool) (h : .pmbNack ∈ a.pieces) :
    ({ p with pmbNack := b } : Part).kept a = p.kept a := by
  simp [Part.kept, Part.masked, Scope.blank, h]

theorem Part.with_healthAt_kept (a : Scope) (p : Part) (t : Option Nat) (h : .healthAt ∈ a.pieces) :
    ({ p with healthAt := t } : Part).kept a = p.kept a := by
  simp [Part.kept, Part.masked, Scope.blank, h]

theorem Part.with_thermAt_kept (a : Scope) (p : Part) (t : Option Nat) (h : .thermAt ∈ a.pieces) :
    ({ p with thermAt := t } : Part).kept a = p.kept a := by
  simp [Part.kept, Part.masked, Scope.blank, h]

theorem Part.with_thrHold_kept (a : Scope) (p : Part) (l : List (Option Nat)) (h : .thrHold ∈ a.pieces) :
    ({ p with thrHold := l } : Part).kept a = p.kept a := by
  simp [Part.kept, Part.masked, Scope.blank, h]

theorem Part.with_feBad_kept (a : Scope) (p : Part) (l : List Nat) (h : .feBad ∈ a.pieces) :
    ({ p with feBad := l } : Part).kept a = p.kept a := by
  simp [Part.kept, Part.masked, Scope.blank, h]

theorem Part.with_otpJob_kept (a : Scope) (p : Part) (j : OtpJob) (h : .otpJob ∈ a.pieces) :
    ({ p with otpJob := j } : Part).kept a = p.kept a := by
  simp [Part.kept, Part.masked, Scope.blank, h]

theorem Part.with_load_kept (a : Scope) (p : Part) (x : LoadCore) (h : .load ∈ a.pieces) :
    ({ p with load := x } : Part).kept a = p.kept a := by
  simp [Part.kept, Part.masked, Scope.blank, h]

theorem Part.with_thr_kept (a : Scope) (p : Part) (l : List Nat) (m : List (Option Nat)) (h : .thrMask ∈ a.pieces)
    (h' : .thrHold ∈ a.pieces) : ({ p with thrMask := l, thrHold := m } : Part).kept a = p.kept a := by
  simp [Part.kept, Part.masked, Scope.blank, h, h']

theorem Part.with_park_kept (a : Scope) (p : Part) (b : Bool) (t : Nat) (h : .parkReq ∈ a.pieces)
    (h' : .parkAt ∈ a.pieces) : ({ p with parkReq := b, parkAt := t } : Part).kept a = p.kept a := by
  simp [Part.kept, Part.masked, Scope.blank, h, h']

/-! Repeated and conditional operations. -/

@[simp] theorem Part.kept_ite (a : Scope) (c : Prop) [Decidable c] (p q : Part) :
    (if c then p else q).kept a = if c then p.kept a else q.kept a := by
  split <;> rfl

@[simp] theorem Part.foldl_kept {α : Type} (a : Scope) (p : Part) (l : List α) (g : Part → α → Part)
    (h : ∀ q, ∀ x ∈ l, (g q x).kept a = q.kept a) : (l.foldl g p).kept a = p.kept a := by
  induction l generalizing p with
  | nil => rfl
  | cons x l ih =>
    rw [List.foldl_cons, ih _ fun q y hy => h q y (List.mem_cons_of_mem x hy), h p x List.mem_cons_self]

/-- A repeated operation that also answers something at each round. -/
theorem Part.foldl_fst_kept {α β : Type} (a : Scope) (x : Part × β) (l : List α) (g : Part × β → α → Part × β)
    (h : ∀ y, ∀ i ∈ l, (g y i).1.kept a = y.1.kept a) : (l.foldl g x).1.kept a = x.1.kept a := by
  induction l generalizing x with
  | nil => rfl
  | cons i l ih =>
    rw [List.foldl_cons, ih _ fun y k hk => h y k (List.mem_cons_of_mem i hk), h x i List.mem_cons_self]

@[simp] theorem Part.forL_kept (a : Scope) (p : Part) (l : List Nat) (g : Nat → Part → Part)
    (h : ∀ i q, (g i q).kept a = q.kept a) : (p.forL l g).kept a = p.kept a :=
  Part.foldl_kept a p l _ fun q i _ => h i q

@[simp] theorem Part.forN_kept (a : Scope) (p : Part) (n : Nat) (g : Nat → Part → Part)
    (h : ∀ i q, (g i q).kept a = q.kept a) : (p.forN n g).kept a = p.kept a := p.forL_kept a _ g h

@[simp] theorem Part.when_kept (a : Scope) (p : Part) (b : Bool) (g : Part → Part) (h : ∀ q, (g q).kept a = q.kept a) :
    (p.when b g).kept a = p.kept a := by
  cases b
  · rfl
  · exact h p

@[simp] theorem Part.byHost_kept (a : Scope) (p : Part) (g : Part → Part) (h : ∀ q, (g q).kept a = q.kept a) :
    (p.byHost g).kept a = p.kept a := by
  unfold Part.byHost
  split
  · exact h p
  · rfl

/-! The whole state. -/

/-- What a scope holds fast of the whole state: the queue, the NVM array, the OTP state, and what it holds fast of the part. -/
def State.kept (a : Scope) (s : State) : List Instr × List Host.Cell × Otp × Part × (Nat → Nat) :=
  (s.pending, s.array, s.otp, s.part.kept a)

theorem State.kept_part {a : Scope} {s : State} {p : Part} (h : p.kept a = s.part.kept a) :
    ({ s with part := p } : State).kept a = s.kept a := by
  simp [State.kept, h]

/-- A state that keeps what a scope holds fast is the old one with its registers and the pieces of the scope grafted on. -/
theorem State.eq_withPart_of_kept {a : Scope} {s t : State} (h : t.kept a = s.kept a) :
    t = s.withPart (s.part.graft a t.part) := by
  simp only [State.kept, Prod.mk.injEq] at h
  obtain ⟨hpending, harray, hotp, hpart⟩ := h
  cases t
  simp only [State.withPart, State.mk.injEq]
  exact ⟨hpending, harray, hotp, Part.eq_graft_of_kept hpart⟩

theorem State.keeps_of_kept {a : Scope} {s t : State} (h : t.kept a = s.kept a) : s.part.keeps t.part a.lo a.hi := by
  simp only [State.kept, Prod.mk.injEq] at h
  obtain ⟨-, -, -, hpart⟩ := h
  exact Part.keeps_of_kept hpart

end Sys2Proof.Machine
end

section
/-!
SUPPORT. The scopes of the families and of the operations that several families share.
-/

namespace Sys2Proof.Machine

/-- What a refusal changes (R686). -/
def refuseScope : Scope := ⟨[.refusals], 0, 0xC0000⟩
/-- What the end of a park entry by a wake source changes (R107): its count is in the register at address 4. -/
def parkScope : Scope := ⟨[.parkReq], 8, 0x100000⟩
/-- What the squash of run-ahead entries changes (R260, R277). -/
def railScope : Scope := ⟨[.rails], 0, 0x30000⟩
/-- What records, service-log entries and service causes change (R426, R601, R741, R751). -/
def nvmScope : Scope := ⟨[.nvm], 0, 0x60000⟩
/-- What the frames sent and received on the ring change (R623 to R627). -/
def linkScope : Scope := ⟨[.hal], 0, 0xA0000⟩
/-- What the results of an exchange request change (R236, R237). -/
def exchScope : Scope := ⟨[.eng], 0, 0x20000⟩

/-- The housekeeping converters. -/
def hkScope : Scope := ⟨[.tb, .sub, .refusals, .hk], 0, 0x70000⟩
/-- The ring and the pair. -/
def ringScope : Scope := ⟨[.tb, .sub, .free, .refusals, .hal, .pair], 0, 0xA0000⟩
/-- The commands that can raise a service cause or a record. -/
def causeScope : Scope :=
  ⟨[.tb, .sub, .free, .rails, .slices, .eng, .nvm, .hal, .pair, .pmb, .test], 0, 0x20000⟩
/-- The PMBus port. -/
def pmbusScope : Scope := ⟨[.refusals, .parkReq, .pmbNack, .pmb], 8, 0xC0000⟩
/-- The AVSBus ports. -/
def avsScope : Scope := ⟨[.parkReq, .rails, .pmb, .avs], 8, 0x10000⟩
/-- The phase fabric and the rails. -/
def fabricScope : Scope := ⟨[.tb, .sub, .free, .healthAt, .rails, .phases, .slices, .mons], 0, 0x10000⟩
/-- Thermal sensing. -/
def thermScope : Scope := ⟨[.tb, .sub, .thermAt, .thrMask, .thrHold, .feBad, .therm, .nvm], 0, 0x12000⟩
/-- The control engine. -/
def engineScope : Scope := ⟨[.tb, .sub, .refusals, .slices, .eng], 0, 0x20000⟩
/-- SYS_CTRL, debug access and the cold start, which loads the image: no register is held fast. -/
def systemScope : Scope := ⟨[.tb, .sub, .free, .refusals, .otpJob, .load, .parkReq, .parkAt, .nvm, .test], 8, 8⟩

/-! The fields that a function of the model names. -/

@[simp] theorem railScope_may_cnt (c : SquashCause) : railScope.may c.cnt = true := by
  cases c <;> decide

@[simp] theorem ringScope_may_dlyFld (port : HalPort) : ringScope.may (dlyFld port) = true := by
  cases port <;> decide

@[simp] theorem causeScope_may_upFld (port : HalPort) : causeScope.may (upFld port) = true := by
  cases port <;> decide

@[simp] theorem causeScope_may_lateFld (i : Nat) : causeScope.may (lateFld i) = true := by
  unfold lateFld
  split <;> decide

@[simp] theorem systemScope_may (f : Fld) : systemScope.may f = true := by
  simp [Scope.may, systemScope]

@[simp] theorem thermScope_may_levelAct (l : ThermLevel) : thermScope.may (levelAct l) = true := by
  cases l <;> decide

end Sys2Proof.Machine
end

section
/-!
SUPPORT. The frames of operations that several families share.
-/

namespace Sys2Proof.Machine

open Reg

@[simp] theorem Part.refuse_kept (a : Scope) (p : Part) (src : HostSrc) (addr : Nat)
    (h : refuseScope.within a = true) : (p.refuse src addr).kept a = p.kept a := by
  refine Part.kept_mono h ?_
  exact (Part.with_refusals_kept _ _ _ (by decide)).trans (by simp +decide)

@[simp] theorem Part.hal0_kept (a : Scope) (p : Part) (h : linkScope.within a = true) : p.hal0.kept a = p.kept a := by
  refine Part.kept_mono h ?_
  simp +decide [Part.hal0]

@[simp] theorem Part.send_kept (a : Scope) (p : Part) (port : HalPort) (f : Frame) (h : linkScope.within a = true) :
    (p.send port f).kept a = p.kept a := by
  refine Part.kept_mono h ?_
  simp +decide [Part.send]

@[simp] theorem Part.broadcast_kept (a : Scope) (p : Part) (type id : Nat) (payload : List Byte)
    (h : linkScope.within a = true) :
    (p.broadcast type id payload).kept a = p.kept a := by
  refine Part.kept_mono h ?_
  simp +decide [Part.broadcast]

@[simp] theorem Part.broadcastNext_kept (a : Scope) (p : Part) (type : Nat) (payload : List Byte)
    (h : linkScope.within a = true) :
    (p.broadcastNext type payload).kept a = p.kept a := by
  refine Part.kept_mono h ?_
  simp +decide [Part.broadcastNext]

@[simp] theorem Part.crcBad_kept (a : Scope) (p : Part) (port : HalPort) (h : linkScope.within a = true) :
    (p.crcBad port).kept a = p.kept a := by
  refine Part.kept_mono h ?_
  cases port <;> simp +decide [Part.crcBad]

@[simp] theorem Part.forward_kept (a : Scope) (p : Part) (from_ : HalPort) (f : Frame) (bad : Bool)
    (h : linkScope.within a = true) :
    (p.forward from_ f bad).kept a = p.kept a := by
  refine Part.kept_mono h ?_
  simp +decide [Part.forward]

@[simp] theorem Part.noteCopy_kept (a : Scope) (p : Part) (f : Frame) (h : linkScope.within a = true) :
    (p.noteCopy f).kept a = p.kept a := by
  refine Part.kept_mono h ?_
  simp +decide [Part.noteCopy]

@[simp] theorem Part.receive_kept (a : Scope) (p : Part) (r : HalRx) (type : Nat) (fwd : Frame → Frame)
    (h : linkScope.within a = true) :
    (p.receive r type fwd).1.kept a = p.kept a := by
  refine Part.kept_mono h ?_
  simp only [Part.receive]
  (repeat' split) <;> simp +decide

@[simp] theorem Part.clearCause_kept (a : Scope) (p : Part) (c : Nat) (h : a.may SVC_STATUS.CAUSE = true) :
    (p.clearCause c).kept a = p.kept a := by
  simp [Part.clearCause, h]

@[simp] theorem Part.pairRoll_kept (a : Scope) (p : Part) (h : .pair ∈ a.pieces) : p.pairRoll.kept a = p.kept a := by
  simp [Part.pairRoll, h]

@[simp] theorem Part.beginUnit_kept (a : Scope) (p : Part) (u : NvmUnit) (h : nvmScope.within a = true) :
    (p.beginUnit u).kept a = p.kept a := by
  refine Part.kept_mono h ?_
  simp only [Part.beginUnit]
  (repeat' split) <;> simp +decide

@[simp] theorem Part.nvmKick_kept (a : Scope) (p : Part) (h : nvmScope.within a = true) :
    p.nvmKick.kept a = p.kept a := by
  refine Part.kept_mono h ?_
  simp only [Part.nvmKick]
  (repeat' split) <;> simp +decide

@[simp] theorem Part.logQueue_kept (a : Scope) (p : Part) (cause unit : Nat) (h : nvmScope.within a = true) :
    (p.logQueue cause unit).kept a = p.kept a := by
  refine Part.kept_mono h ?_
  simp +decide [Part.logQueue]

@[simp] theorem Part.logEntry_kept (a : Scope) (p : Part) (cause unit : Nat) (h : nvmScope.within a = true) :
    (p.logEntry cause unit).kept a = p.kept a := by
  refine Part.kept_mono h ?_
  simp +decide [Part.logEntry]

@[simp] theorem Part.raiseCause_kept (a : Scope) (p : Part) (c unit : Nat) (h : nvmScope.within a = true) :
    (p.raiseCause c unit).kept a = p.kept a := by
  refine Part.kept_mono h ?_
  simp +decide [Part.raiseCause]

@[simp] theorem Part.setSlice_kept (a : Scope) (p : Part) (s : Nat) (st : SliceState)
    (h : a.may SLICE_STATE.STATE = true) :
    (p.setSlice s st).kept a = p.kept a := by
  simp [Part.setSlice, h]

@[simp] theorem Part.xresult_kept (a : Scope) (p : Part) (op rail slice result : Nat) (h : exchScope.within a = true) :
    (p.xresult op rail slice result).kept a = p.kept a := by
  refine Part.kept_mono h ?_
  simp +decide [Part.xresult]

@[simp] theorem Part.showBusy_kept (a : Scope) (p : Part) (h : exchScope.within a = true) :
    p.showBusy.kept a = p.kept a := by
  refine Part.kept_mono h ?_
  simp +decide [Part.showBusy]

@[simp] theorem Part.xdone_kept (a : Scope) (p : Part) (h : exchScope.within a = true) : p.xdone.kept a = p.kept a := by
  refine Part.kept_mono h ?_
  simp +decide [Part.xdone]

@[simp] theorem Part.followPrep_kept (a : Scope) (p : Part) (n : Nat) (start : Bool) (h : railScope.within a = true) :
    (p.followPrep n start).kept a = p.kept a := by
  refine Part.kept_mono h ?_
  simp +decide [Part.followPrep]

@[simp] theorem Part.showEntries_kept (a : Scope) (p : Part) (n : Nat) (h : railScope.within a = true) :
    (p.showEntries n).kept a = p.kept a := by
  refine Part.kept_mono h ?_
  simp +decide [Part.showEntries]

@[simp] theorem Part.squashFrom_kept (a : Scope) (p : Part) (n : Nat) (c : SquashCause) (slot : Nat)
    (h : railScope.within a = true) : (p.squashFrom n c slot).kept a = p.kept a := by
  refine Part.kept_mono h ?_
  simp +decide [Part.squashFrom]

@[simp] theorem Part.squash_kept (a : Scope) (p : Part) (n : Nat) (c : SquashCause) (h : railScope.within a = true) :
    (p.squash n c).kept a = p.kept a := by
  refine Part.kept_mono h ?_
  simp +decide [Part.squash]

@[simp] theorem Part.queueRec_kept (a : Scope) (p : Part) (r : RecCap) (h : nvmScope.within a = true) :
    (p.queueRec r).kept a = p.kept a := by
  refine Part.kept_mono h ?_
  simp only [Part.queueRec]
  (repeat' split) <;> simp +decide

@[simp] theorem Part.record_kept (a : Scope) (p : Part) (src code : Nat) (cls : RecClass) (rail unit : Option Nat)
    (flags : Nat) (force : Bool) (pre : Option Part) (h : nvmScope.within a = true) :
    (p.record src code cls rail unit flags force pre).kept a = p.kept a := by
  refine Part.kept_mono h ?_
  unfold Part.record
  split <;> simp +decide

@[simp] theorem Part.abortPark_kept (a : Scope) (p : Part) (h : parkScope.within a = true) :
    p.abortPark.kept a = p.kept a := by
  refine Part.kept_mono h ?_
  unfold Part.abortPark
  split
  · exact (Part.with_parkReq_kept _ _ _ (by decide)).trans (by simp +decide)
  · rfl

@[simp] theorem Part.showSlew_kept (a : Scope) (p : Part) (n : Nat) (h : a.may RAIL_STATUS.SLEWING = true) :
    (p.showSlew n).kept a = p.kept a := by
  simp [Part.showSlew, h]

end Sys2Proof.Machine
end

section
/-!
SUPPORT. The frames of the housekeeping converters.
-/

namespace Sys2Proof.Machine

open Reg

@[simp] theorem Part.dropTrigger_kept (p : Part) (s : Nat) : (p.dropTrigger s).kept hkScope = p.kept hkScope := by
  simp +decide [Part.dropTrigger]

@[simp] theorem Part.setJob_kept (p : Part) (c : Nat) (j : Option HkJob) :
    (p.setJob c j).kept hkScope = p.kept hkScope := by
  simp +decide [Part.setJob]

@[simp] theorem Part.takeReadback_kept (p : Part) (c : Nat) : (p.takeReadback c).kept hkScope = p.kept hkScope := by
  simp +decide [Part.takeReadback]

@[simp] theorem Part.interrupt_kept (p : Part) (c : Nat) : (p.interrupt c).kept hkScope = p.kept hkScope := by
  unfold Part.interrupt
  split <;> simp +decide

@[simp] theorem Part.takeCal_kept (p : Part) (c : Nat) (k : Capture) :
    (p.takeCal c k).kept hkScope = p.kept hkScope := by
  simp only [Part.takeCal]
  (repeat' split) <;> simp +decide

@[simp] theorem Part.pushEntry_kept (p : Part) (e : HkEntry) : (p.pushEntry e).kept hkScope = p.kept hkScope := by
  simp +decide [Part.pushEntry]

@[simp] theorem Part.injResult_kept (p : Part) (slot conv ch : Nat) (raw : Option Nat) (stamp : Nat) :
    (p.injResult slot conv ch raw stamp).kept hkScope = p.kept hkScope :=
  (Part.modHk_kept _ _ _ (by decide)).trans (Part.pushEntry_kept _ _)

@[simp] theorem Part.seqEnd_kept (p : Part) (s : Nat) : (p.seqEnd s).kept hkScope = p.kept hkScope := by
  simp +decide [Part.seqEnd]

@[simp] theorem Part.seqAdvance_kept (p : Part) (s : Nat) : (p.seqAdvance s).kept hkScope = p.kept hkScope := by
  simp +decide [Part.seqAdvance]

@[simp] theorem Part.seqResult_kept (p : Part) (s e conv ch : Nat) (raw : Option Nat) (stamp : Nat) :
    (p.seqResult s e conv ch raw stamp).kept hkScope = p.kept hkScope :=
  (Part.modSeq_kept _ _ _ _ (by decide)).trans (Part.pushEntry_kept _ _)

@[simp] theorem Part.timedStart_kept (p : Part) (c s : Nat) : (p.timedStart c s).kept hkScope = p.kept hkScope := by
  simp +decide [Part.timedStart]

@[simp] theorem Part.takeWork_kept (p : Part) (fuel c : Nat) : (p.takeWork fuel c).kept hkScope = p.kept hkScope := by
  induction fuel generalizing p with
  | zero => rfl
  | succ fuel ih =>
    simp only [Part.takeWork]
    (repeat' split) <;> simp +decide [ih]

@[simp] theorem Part.hkKick_kept (p : Part) : p.hkKick.kept hkScope = p.kept hkScope := by
  simp [Part.hkKick]

@[simp] theorem Part.seqTrigger_kept (p : Part) (s : Nat) : (p.seqTrigger s).kept hkScope = p.kept hkScope := by
  simp +decide [Part.seqTrigger]

@[simp] theorem Part.tbhiWrite_kept (p : Part) (s v : Nat) : (p.tbhiWrite s v).kept hkScope = p.kept hkScope := by
  simp only [Part.tbhiWrite]
  (repeat' split) <;> simp +decide

@[simp] theorem Part.dacReadback_kept (p : Part) : p.dacReadback.kept hkScope = p.kept hkScope := by
  simp +decide [Part.dacReadback]

@[simp] theorem Part.tbTrigger_kept (p : Part) (s : Nat) : (p.tbTrigger s).kept hkScope = p.kept hkScope := by
  simp +decide [Part.tbTrigger]

@[simp] theorem Part.boundary_kept (p : Part) (c : Nat) : (p.boundary c).kept hkScope = p.kept hkScope := by
  unfold Part.boundary
  split <;> simp

@[simp] theorem Part.freeCapture_kept (p : Part) (k : Capture) : (p.freeCapture k).kept hkScope = p.kept hkScope := by
  simp only [Part.freeCapture]
  (repeat' split) <;> simp +decide

@[simp] theorem Part.calLast_kept (p : Part) (phase last : Nat) :
    (p.calLast phase last).kept hkScope = p.kept hkScope := by
  simp +decide [Part.calLast]

@[simp] theorem Part.calAborted_kept (p : Part) (k : Capture) : (p.calAborted k).kept hkScope = p.kept hkScope := by
  simp [Part.calAborted]

@[simp] theorem Part.calFail_kept (p : Part) (k : Capture) (last : Nat) :
    (p.calFail k last).kept hkScope = p.kept hkScope := by
  simp +decide [Part.calFail]

@[simp] theorem Part.captureEnd_kept (p : Part) (uv : List Int) (auxRefUv : Nat) :
    (p.captureEnd uv auxRefUv).kept hkScope = p.kept hkScope := by
  unfold Part.captureEnd
  split <;> simp +decide

@[simp] theorem Part.calBegin_kept (p : Part) (src : HostSrc) (full : Bool) (set refVal : Nat) :
    (p.calBegin src full set refVal).kept hkScope = p.kept hkScope := by
  simp +decide [Part.calBegin]

@[simp] theorem Part.calAbort_kept (p : Part) : p.calAbort.kept hkScope = p.kept hkScope := by
  unfold Part.calAbort
  split <;> simp +decide

@[simp] theorem Part.seqTriggers_kept (p : Part) (l : List Nat) : (p.seqTriggers l).kept hkScope = p.kept hkScope := by
  simp [Part.seqTriggers]

@[simp] theorem Part.softTrigger_kept (p : Part) (mask : Nat) : (p.softTrigger mask).kept hkScope = p.kept hkScope := by
  simp [Part.softTrigger]

@[simp] theorem Part.qloRead_kept (p : Part) : p.qloRead.kept hkScope = p.kept hkScope := by
  unfold Part.qloRead
  split <;> simp +decide

@[simp] theorem Part.pwmTrigger_kept (p : Part) (n : Nat) : (p.pwmTrigger n).kept hkScope = p.kept hkScope := by
  simp +decide [Part.pwmTrigger]

@[simp] theorem Part.inject_kept (p : Part) (src : HostSrc) (v : Nat) :
    (p.inject src v).kept hkScope = p.kept hkScope := by
  simp +decide [Part.inject]

@[simp] theorem Part.qhiRead_kept (p : Part) : p.qhiRead.kept hkScope = p.kept hkScope := by
  simp +decide [Part.qhiRead]

@[simp] theorem Part.seqDisable_kept (p : Part) (s : Nat) : (p.seqDisable s).kept hkScope = p.kept hkScope := by
  simp +decide [Part.seqDisable]

/-! The write of CALc_BIND (R511, R526): a register write that stays in the block. -/

@[simp] theorem Part.setField_kept (a : Scope) (p : Part) (f : FieldDef) (i j v : Nat) (h : a.may f.fld = true) :
    (p.setField f i j v).kept a = p.kept a := p.set_kept a _ _ i j h

@[simp] theorem Part.clearField_kept (a : Scope) (p : Part) (f : FieldDef) (i j v : Nat) (h : a.may f.fld = true) :
    (p.clearField f i j v).kept a = p.kept a := p.set_kept a _ _ i j h

theorem Part.setFields_kept (a : Scope) (p : Part) (addr i j v : Nat) (l : List FieldDef)
    (h : ∀ f ∈ l, a.may f.fld = true) : (p.setFields addr i j v l).1.kept a = p.kept a := by
  simp only [Part.setFields]
  split
  · exact Part.foldl_kept _ _ _ _ fun q f hf => q.setField_kept a f i j v (h f hf)
  · refine Part.foldl_fst_kept _ _ _ _ fun x f hf => ?_
    split
    · exact x.1.setField_kept a f i j v (h f hf)
    · rfl

/-- A write of a register whose fields all lie outside what a scope holds fast. -/
theorem Part.writeFields_kept (a : Scope) (p : Part) (d : RegDef) (addr i j v : Nat)
    (h : ∀ f ∈ d.fields, a.may f.fld = true) : (p.writeFields d addr i j v).1.kept a = p.kept a := by
  refine (Part.setFields_kept _ _ _ _ _ _ _ fun f hf => h f (List.mem_filter.mp hf).1).trans ?_
  exact Part.foldl_kept _ _ _ _ fun q f hf => q.clearField_kept a f i j v (h f (List.mem_filter.mp hf).1)

/-- A write of a calibration register leads to nothing beside the registers. -/
theorem Part.written_calibration (p old : Part) (addr : Nat) (hlo : 0x70300 ≤ addr) (hhi : addr < 0x90000) :
    p.written old addr = p := by
  simp (disch := omega) only [Part.written, if_neg]

/-- The registers CALc_BIND (R526) hold no field below the block of the housekeeping converters. -/
theorem findReg_calBind (c : Fin 16) :
    ((findReg registerMap (0x70400 + c * 16)).all fun x => x.1.fields.all fun f => hkScope.may f.fld) = true := by
  revert c
  decide +kernel

theorem Part.plainWrite_kept (p : Part) (src : HostSrc) (addr v : Nat) (hlo : 0x70300 ≤ addr) (hhi : addr < 0x90000)
    (h : ((findReg registerMap addr).all fun x => x.1.fields.all fun f => hkScope.may f.fld) = true) :
    (p.plainWrite src addr v).kept hkScope = p.kept hkScope := by
  unfold Part.plainWrite
  split
  · rename_i d i j hd
    simp only [hd, Option.all_some, List.all_eq_true] at h
    have hw := Part.writeFields_kept hkScope p d addr i j v h
    simp only [Part.written_calibration _ _ _ hlo hhi]
    (repeat' split) <;> simp +decide [hw]
  · simp +decide

@[simp] theorem Part.bindWrite_kept (p : Part) (src : HostSrc) (c : Fin 16) (v : Nat) :
    (p.bindWrite src c v).kept hkScope = p.kept hkScope := by
  simp only [Part.bindWrite]
  split
  · simp +decide
  · exact p.plainWrite_kept src _ v (by omega) (by omega) (findReg_calBind c)

end Sys2Proof.Machine
end

section
/-!
SUPPORT. The frames of the ring and the pair.
-/

namespace Sys2Proof.Machine

open Reg

@[simp] theorem Part.opRefuse_kept (p : Part) (op result : Nat) :
    (p.opRefuse op result).kept ringScope = p.kept ringScope := by
  simp +decide [Part.opRefuse]

@[simp] theorem Part.opReq_kept (p : Part) (key op : Nat) (f : Part → Part)
    (h : ∀ q, (f q).kept ringScope = q.kept ringScope) : (p.opReq key op f).kept ringScope = p.kept ringScope := by
  simp only [Part.opReq]
  split <;> simp +decide [h]

@[simp] theorem Part.tokenOn_kept (p : Part) (port : HalPort) (f : Frame) :
    (p.tokenOn port f).kept ringScope = p.kept ringScope := by
  simp +decide [Part.tokenOn]

@[simp] theorem Part.tokensOn_kept (p : Part) (bid : Nat) : (p.tokensOn bid).kept ringScope = p.kept ringScope := by
  simp +decide [Part.tokensOn]

@[simp] theorem Part.barTake_kept (p : Part) (n bid st : Nat) :
    (p.barTake n bid st).kept ringScope = p.kept ringScope := by
  simp +decide [Part.barTake]

theorem Part.arrive_kept {p q : Part} {bid : Nat} (h : p.arrive bid = some q) : q.kept ringScope = p.kept ringScope := by
  unfold Part.arrive at h
  split at h
  · cases h
    simp +decide
  · obtain ⟨n, -, rfl⟩ := Option.map_eq_some_iff.mp h
    simp +decide

@[simp] theorem Part.opEnd_kept (p : Part) (result : Nat) : (p.opEnd result).kept ringScope = p.kept ringScope := by
  simp +decide [Part.opEnd]

@[simp] theorem Part.opStart_kept (p : Part) (op : Nat) : (p.opStart op).kept ringScope = p.kept ringScope := by
  simp +decide [Part.opStart]

@[simp] theorem Part.barArrive_kept (p : Part) (key bid : Nat) :
    (p.barArrive key bid).kept ringScope = p.kept ringScope := by
  refine Part.opReq_kept _ _ _ _ fun p => ?_
  split
  · rename_i q hq
    simp [Part.arrive_kept hq]
  · simp

@[simp] theorem Part.barTimeout_kept (p : Part) (n : Nat) : (p.barTimeout n).kept ringScope = p.kept ringScope := by
  simp +decide [Part.barTimeout]

@[simp] theorem Part.syncSend_kept (p : Part) : p.syncSend.kept ringScope = p.kept ringScope := by
  simp +decide [Part.syncSend]

@[simp] theorem Part.latch_kept (p : Part) (s : Snap) (ids : List Nat) (late : Bool) :
    (p.latch s ids late).kept ringScope = p.kept ringScope := by
  simp +decide [Part.latch]

@[simp] theorem Part.snapLatch_kept (p : Part) : p.snapLatch.kept ringScope = p.kept ringScope := by
  simp only [Part.snapLatch]
  (repeat' split) <;> simp +decide

@[simp] theorem Part.barRel_kept (p : Part) (bid : Nat) : (p.barRel bid).kept ringScope = p.kept ringScope := by
  simp only [Part.barRel]
  (repeat' split) <;> simp +decide

@[simp] theorem Part.tokenHome_kept (p : Part) (n : Nat) (port : HalPort) (f : Frame) :
    (p.tokenHome n port f).kept ringScope = p.kept ringScope := by
  simp +decide [Part.tokenHome]

@[simp] theorem Part.barToken_kept (p : Part) (r : HalRx) : (p.barToken r).kept ringScope = p.kept ringScope := by
  simp only [Part.barToken]
  (repeat' split) <;> simp +decide

@[simp] theorem Part.discoverSend_kept (p : Part) : p.discoverSend.kept ringScope = p.kept ringScope := by
  simp +decide [Part.discoverSend]

@[simp] theorem Part.sendTo_kept (p : Part) (type dest id : Nat) (payload : List Byte) (eastOnly : Bool) :
    (p.sendTo type dest id payload eastOnly).kept ringScope = p.kept ringScope := by
  simp +decide [Part.sendTo]

@[simp] theorem Part.snapCollect_kept (p : Part) (r : HalRx) : (p.snapCollect r).kept ringScope = p.kept ringScope := by
  simp only [Part.snapCollect]
  (repeat' split) <;> simp +decide

@[simp] theorem Part.storeResp_kept (p : Part) (src : Nat) (payload : List Byte) :
    (p.storeResp src payload).kept ringScope = p.kept ringScope := by
  unfold Part.storeResp
  split <;> simp +decide

@[simp] theorem Part.snapshotCollect_kept (p : Part) (key id : Nat) :
    (p.snapshotCollect key id).kept ringScope = p.kept ringScope := by
  simp +decide [Part.snapshotCollect]

@[simp] theorem Part.sendLink_kept (p : Part) (port : HalPort) (f : Frame) :
    (p.sendLink port f).kept ringScope = p.kept ringScope := by
  simp +decide [Part.sendLink]

@[simp] theorem Part.delayExchange_kept (p : Part) (port : HalPort) :
    (p.delayExchange port).kept ringScope = p.kept ringScope := by
  simp +decide [Part.delayExchange]

@[simp] theorem Part.snapSched_kept (p : Part) (r : HalRx) : (p.snapSched r).kept ringScope = p.kept ringScope := by
  simp only [Part.snapSched]
  (repeat' split) <;> simp +decide

@[simp] theorem Part.ringClear_kept (p : Part) : p.ringClear.kept ringScope = p.kept ringScope := by
  unfold Part.ringClear
  split <;> simp +decide

@[simp] theorem Part.barRelease_kept (p : Part) (r : HalRx) : (p.barRelease r).kept ringScope = p.kept ringScope := by
  simp only [Part.barRelease]
  (repeat' split) <;> simp +decide

@[simp] theorem Part.snapSchedule_kept (p : Part) (key id : Nat) :
    (p.snapSchedule key id).kept ringScope = p.kept ringScope := by
  simp +decide [Part.snapSchedule]

@[simp] theorem Part.loseLock_kept (p : Part) : p.loseLock.kept ringScope = p.kept ringScope := by
  simp +decide [Part.loseLock]

@[simp] theorem Part.lockTimeout_kept (p : Part) : p.lockTimeout.kept ringScope = p.kept ringScope := by
  simp only [Part.lockTimeout]
  (repeat' split) <;> simp +decide

@[simp] theorem Part.unknownFrame_kept (p : Part) (r : HalRx) :
    (p.unknownFrame r).kept ringScope = p.kept ringScope := by
  simp +decide [Part.unknownFrame]

@[simp] theorem Part.collectTimeout_kept (p : Part) : p.collectTimeout.kept ringScope = p.kept ringScope := by
  unfold Part.collectTimeout
  split <;> simp +decide

@[simp] theorem Part.resetNode_kept (p : Part) (key id : Nat) :
    (p.resetNode key id).kept ringScope = p.kept ringScope := by
  simp [Part.resetNode]

@[simp] theorem Part.pairxSkip_kept (p : Part) : p.pairxSkip.kept ringScope = p.kept ringScope := by
  simp +decide [Part.pairxSkip]

@[simp] theorem Part.delayReq_kept (p : Part) (r : HalRx) : (p.delayReq r).kept ringScope = p.kept ringScope := by
  simp +decide [Part.delayReq]

@[simp] theorem Part.barSlotFree_kept (p : Part) (n : Nat) : (p.barSlotFree n).kept ringScope = p.kept ringScope := by
  simp only [Part.barSlotFree]
  (repeat' split) <;> simp +decide

@[simp] theorem Part.pairxSend_kept (p : Part) : p.pairxSend.kept ringScope = p.kept ringScope := by
  simp +decide [Part.pairxSend]

@[simp] theorem Part.faultRx_kept (p : Part) (r : HalRx) : (p.faultRx r).kept ringScope = p.kept ringScope := by
  simp only [Part.faultRx]
  (repeat' split) <;> simp +decide

@[simp] theorem Part.snapResp_kept (p : Part) (r : HalRx) : (p.snapResp r).kept ringScope = p.kept ringScope := by
  simp only [Part.snapResp]
  (repeat' split) <;> simp +decide

@[simp] theorem Part.sendHb_kept (p : Part) : p.sendHb.kept ringScope = p.kept ringScope := by
  simp +decide [Part.sendHb]

@[simp] theorem Part.hbSend_kept (p : Part) : p.hbSend.kept ringScope = p.kept ringScope := by
  simp +decide [Part.hbSend]

@[simp] theorem Part.tbloRead_kept (p : Part) : p.tbloRead.kept ringScope = p.kept ringScope := by
  simp +decide [Part.tbloRead]

@[simp] theorem Part.delayResp_kept (p : Part) (r : HalRx) : (p.delayResp r).kept ringScope = p.kept ringScope := by
  simp only [Part.delayResp]
  (repeat' split) <;> simp +decide

@[simp] theorem Part.barLaunch_kept (p : Part) (key bid : Nat) :
    (p.barLaunch key bid).kept ringScope = p.kept ringScope := by
  refine Part.opReq_kept _ _ _ _ fun p => ?_
  dsimp only
  split
  · rename_i q hq
    have h := Part.arrive_kept hq
    split <;> simp +decide [h]
  · simp

end Sys2Proof.Machine
end

section
/-!
SUPPORT. The frames of the commands that can raise a service cause or a record.
-/

namespace Sys2Proof.Machine

open Reg

@[simp] theorem Part.ringEval_kept (p : Part) (unit : Nat) : (p.ringEval unit).kept causeScope = p.kept causeScope := by
  simp +decide [Part.ringEval]

@[simp] theorem Part.showIntact_kept (p : Part) (intact : Bool) :
    (p.showIntact intact).kept causeScope = p.kept causeScope := by
  simp +decide [Part.showIntact]

@[simp] theorem Part.discover_kept (p : Part) (r : HalRx) : (p.discover r).kept causeScope = p.kept causeScope := by
  simp only [Part.discover]
  (repeat' split) <;> simp +decide

@[simp] theorem Part.dropPort_kept (p : Part) (port : HalPort) :
    (p.dropPort port).kept causeScope = p.kept causeScope := by
  simp +decide [Part.dropPort]

@[simp] theorem Part.retirePort_kept (p : Part) (port : HalPort) :
    (p.retirePort port).kept causeScope = p.kept causeScope := by
  simp +decide [Part.retirePort]

@[simp] theorem Part.portDown_kept (p : Part) (port : HalPort) (why : PortDownWhy) :
    (p.portDown port why).kept causeScope = p.kept causeScope := by
  unfold Part.portDown
  split <;> simp +decide

@[simp] theorem Part.notRun_kept (p : Part) : p.notRun.kept causeScope = p.kept causeScope := by
  simp +decide [Part.notRun]

@[simp] theorem Part.overdueCause_kept (p : Part) (unit : Nat) :
    (p.overdueCause unit).kept causeScope = p.kept causeScope := by
  simp +decide [Part.overdueCause]

@[simp] theorem Part.cycleEnd_kept (p : Part) (i : Nat) : (p.cycleEnd i).kept causeScope = p.kept causeScope := by
  simp +decide [Part.cycleEnd]

@[simp] theorem Part.halCycle_kept (p : Part) : p.halCycle.kept causeScope = p.kept causeScope := by
  simp +decide [Part.halCycle]

@[simp] theorem Part.inFieldFail_kept (p : Part) : p.inFieldFail.kept causeScope = p.kept causeScope := by
  simp +decide [Part.inFieldFail]

@[simp] theorem Part.halLoopback_kept (p : Part) (port : HalPort) (run : TestRun) :
    (p.halLoopback port run).kept causeScope = p.kept causeScope := by
  unfold Part.halLoopback
  split <;> simp +decide

@[simp] theorem Part.ecCycle_kept (p : Part) : p.ecCycle.kept causeScope = p.kept causeScope := by
  simp +decide [Part.ecCycle]

@[simp] theorem Part.ecInjection_kept (p : Part) (n ref : Nat) (code : Int) :
    (p.ecInjection n ref code).kept causeScope = p.kept causeScope := by
  simp +decide [Part.ecInjection]

@[simp] theorem Part.latchMfr_kept (p : Part) (n bit : Nat) :
    (p.latchMfr n bit).kept causeScope = p.kept causeScope := by
  simp +decide [Part.latchMfr]

@[simp] theorem Part.latchMfrAll_kept (p : Part) (bit : Nat) :
    (p.latchMfrAll bit).kept causeScope = p.kept causeScope := by
  simp [Part.latchMfrAll]

@[simp] theorem Part.takeoverSlices_kept (p : Part) : p.takeoverSlices.kept causeScope = p.kept causeScope := by
  refine Part.forN_kept _ _ _ _ fun n q => ?_
  (repeat' split) <;> simp +decide

@[simp] theorem Part.endExch_kept (p : Part) (x : Exch) (result : Nat) :
    (p.endExch x result).kept causeScope = p.kept causeScope := by
  simp +decide [Part.endExch]

@[simp] theorem Part.freeIncoming_kept (p : Part) (x : Exch) :
    (p.freeIncoming x).kept causeScope = p.kept causeScope := by
  simp +decide [Part.freeIncoming]

@[simp] theorem Part.rotBack_kept (p : Part) : p.rotBack.kept causeScope = p.kept causeScope := by
  simp +decide [Part.rotBack]

@[simp] theorem Part.preempt_kept (p : Part) (x : Exch) : (p.preempt x).kept causeScope = p.kept causeScope := by
  simp [Part.preempt]

@[simp] theorem Part.takeoverExch_kept (p : Part) : p.takeoverExch.kept causeScope = p.kept causeScope := by
  unfold Part.takeoverExch
  split <;> simp +decide

@[simp] theorem Part.sendFault_kept (p : Part) (code cls : Nat) (rail : Option Nat) :
    (p.sendFault code cls rail).kept causeScope = p.kept causeScope := by
  simp +decide [Part.sendFault]

@[simp] theorem Part.takeover_kept (p : Part) : p.takeover.kept causeScope = p.kept causeScope :=
  (Part.raiseCause_kept _ _ _ _ (by decide)).trans <| (Part.record_kept _ _ _ _ _ _ _ _ _ _ (by decide)).trans <|
    (Part.sendFault_kept _ _ _ _).trans (by simp +decide)

@[simp] theorem Part.hbTimeout_kept (p : Part) : p.hbTimeout.kept causeScope = p.kept causeScope := by
  simp only [Part.hbTimeout]
  (repeat' split) <;> simp +decide

@[simp] theorem Part.cycleLate_kept (p : Part) (i : Nat) : (p.cycleLate i).kept causeScope = p.kept causeScope := by
  simp +decide [Part.cycleLate]

@[simp] theorem Part.hbMain_kept (p : Part) (armed fresh : Bool) :
    (p.hbMain armed fresh).kept causeScope = p.kept causeScope := by
  simp only [Part.hbMain]
  (repeat' split) <;> simp +decide

@[simp] theorem Part.hbMizzen_kept (p : Part) (self : Bool) :
    (p.hbMizzen self).kept causeScope = p.kept causeScope := by
  simp +decide [Part.hbMizzen]

@[simp] theorem Part.hbRx_kept (p : Part) (r : HalRx) : (p.hbRx r).kept causeScope = p.kept causeScope := by
  simp +decide [Part.hbRx]

@[simp] theorem Part.discoverTimeout_kept (p : Part) : p.discoverTimeout.kept causeScope = p.kept causeScope := by
  unfold Part.discoverTimeout
  split <;> simp +decide

@[simp] theorem Part.portUp_kept (p : Part) (port : HalPort) : (p.portUp port).kept causeScope = p.kept causeScope := by
  simp +decide [Part.portUp]

@[simp] theorem Part.track_kept (p : Part) (n : Nat) (dd : Rat) :
    (p.track n dd).kept causeScope = p.kept causeScope := by
  unfold Part.track
  split <;> simp +decide

@[simp] theorem Part.xmis_kept (p : Part) (n : Nat) (bad : Bool) :
    (p.xmis n bad).kept causeScope = p.kept causeScope := by
  simp +decide [Part.xmis]

@[simp] theorem Part.pairxCompare_kept (p : Part) (pl : List Byte) (n : Nat) :
    (p.pairxCompare pl n).kept causeScope = p.kept causeScope := by
  simp +decide [Part.pairxCompare]

@[simp] theorem Part.pairxRx_kept (p : Part) (r : HalRx) : (p.pairxRx r).kept causeScope = p.kept causeScope := by
  simp +decide [Part.pairxRx]

end Sys2Proof.Machine
end

section
/-!
SUPPORT. The frames of the PMBus port.
-/

namespace Sys2Proof.Machine

open Reg

@[simp] theorem Part.busStart_kept (p : Part) : p.busStart.1.kept pmbusScope = p.kept pmbusScope := by
  simp only [Part.busStart]
  split
  · exact (Part.with_pmbNack_kept _ _ _ (by decide)).trans (by simp +decide)
  · simp +decide

@[simp] theorem Part.answer_kept (p : Part) (ack : Bool) (data : List Byte) :
    (p.answer ack data).kept pmbusScope = p.kept pmbusScope := by
  simp +decide [Part.answer]

@[simp] theorem Part.alertResponse_kept (p : Part) : p.alertResponse.kept pmbusScope = p.kept pmbusScope := by
  simp +decide [Part.alertResponse]

@[simp] theorem Part.latchCml_kept (p : Part) (bit : Nat) : (p.latchCml bit).kept pmbusScope = p.kept pmbusScope := by
  simp +decide [Part.latchCml]

@[simp] theorem Part.badEvent_kept (p : Part) : p.badEvent.kept pmbusScope = p.kept pmbusScope := by
  simp +decide [Part.badEvent]

@[simp] theorem Part.badData_kept (p : Part) (code : Nat) : (p.badData code).kept pmbusScope = p.kept pmbusScope := by
  simp +decide [Part.badData]

/-- A read of the PMBus port changes no more than the port does. -/
def ReadKeeps (rd : Option (State → State × List Byte)) : Prop :=
  ∀ g ∈ rd, ∀ s : State, (g s).1.kept pmbusScope = s.kept pmbusScope

/-- A write of the PMBus port changes no more than the port does. -/
def WriteKeeps (wr : Option PmbWrite) : Prop :=
  ∀ g ∈ wr, ∀ (data : List Byte) (s : State), (g data s).1.kept pmbusScope = s.kept pmbusScope

theorem State.pmbRead_kept (s : State) (code : Nat) (f : Option (State → State × List Byte)) (pec : Pec)
    (h : ReadKeeps f) : (s.pmbRead code f pec).kept pmbusScope = s.kept pmbusScope := by
  unfold State.pmbRead
  split
  · rename_i g
    exact (State.kept_part (by simp +decide)).trans (h g rfl s)
  · exact State.kept_part (by simp +decide)

theorem State.pmbWrite_kept (s : State) (code len : Nat) (f : Option PmbWrite) (data : List Byte) (pec : Pec)
    (h : WriteKeeps f) : (s.pmbWrite code len f data pec).kept pmbusScope = s.kept pmbusScope := by
  simp only [State.pmbWrite]
  split
  · exact State.kept_part (by simp +decide)
  · split
    · rename_i g
      have hg := (h g rfl data { s with part := s.part.answer true }).trans (State.kept_part (by simp +decide))
      split
      · exact State.kept_part (by simp +decide)
      · split
        · exact hg
        · exact (State.kept_part (by simp +decide)).trans hg
    · exact State.kept_part (by simp +decide)

theorem State.pmbus_kept (s : State) (code len : Nat) (rd : Option (State → State × List Byte)) (wr : Option PmbWrite)
    (tx : PmbTx) (hr : ReadKeeps rd) (hw : WriteKeeps wr) :
    (s.pmbus code len rd wr tx).kept pmbusScope = s.kept pmbusScope := by
  simp only [State.pmbus]
  split
  · exact State.kept_part (by simp +decide)
  · have hs := State.kept_part (s := s) s.part.busStart_kept
    split
    · exact (State.pmbRead_kept _ _ _ _ hr).trans hs
    · exact (State.pmbWrite_kept _ _ _ _ _ _ hw).trans hs

@[simp] theorem Part.clearStatus_kept (p : Part) (upd' : (Nat → Nat) → Nat → PmbCore → PmbCore) (m : Nat) :
    (p.clearStatus upd' m).kept pmbusScope = p.kept pmbusScope := by
  simp +decide [Part.clearStatus]

theorem State.slogRead_kept (s : State) : s.slogRead.1.kept pmbusScope = s.kept pmbusScope := by
  unfold State.slogRead
  split
  · rfl
  · exact State.kept_part (Part.latchCml_kept _ _)

@[simp] theorem Part.readTemp_kept (p : Part) : p.readTemp.1.kept pmbusScope = p.kept pmbusScope := by
  simp only [Part.readTemp]
  split
  · rfl
  · (repeat' split) <;> simp

@[simp] theorem Part.smbusTimeout_kept (p : Part) : p.smbusTimeout.kept pmbusScope = p.kept pmbusScope := by
  simp +decide [Part.smbusTimeout]

@[simp] theorem Part.clearFaults_kept (p : Part) : p.clearFaults.kept pmbusScope = p.kept pmbusScope := by
  simp +decide [Part.clearFaults]

@[simp] theorem Part.readIout_kept (p : Part) : (p.readIout).1.kept pmbusScope = p.kept pmbusScope := by
  simp only [Part.readIout]
  (repeat' split) <;> simp

@[simp] theorem Part.unsupported_kept (p : Part) : p.unsupported.kept pmbusScope = p.kept pmbusScope := by
  simp +decide [Part.unsupported]

theorem State.slogSel_kept (s : State) (v : Nat) : (s.slogSel v).1.kept pmbusScope = s.kept pmbusScope := by
  unfold State.slogSel
  split
  · exact State.kept_part (Part.modPmb_kept _ _ _ (by decide))
  · rfl

theorem State.bitSel_kept (s : State) (v : Nat) : (s.bitSel v).1.kept pmbusScope = s.kept pmbusScope := by
  unfold State.bitSel
  split
  · exact State.kept_part (Part.modPmb_kept _ _ _ (by decide))
  · rfl

theorem State.bitRead_kept (s : State) : s.bitRead.1.kept pmbusScope = s.kept pmbusScope := by
  unfold State.bitRead
  split
  · exact State.kept_part (Part.modPmb_kept _ _ _ (by decide))
  · exact State.kept_part (Part.latchCml_kept _ _)

theorem readKeeps_none : ReadKeeps none := fun _ h => by cases h

theorem readKeeps_some {g : State → State × List Byte} (h : ∀ s, (g s).1.kept pmbusScope = s.kept pmbusScope) :
    ReadKeeps (some g) := by
  intro g' hg s
  cases hg
  exact h s

theorem readKeeps_pmbGet (n : Nat) (f : Part → Nat) : ReadKeeps (pmbGet n f) := readKeeps_some fun _ => rfl

theorem readKeeps_pmbPaged (n : Nat) (f : Part → Nat → Nat) : ReadKeeps (pmbPaged n f) := readKeeps_pmbGet n _

theorem readKeeps_pmbGetP (n : Nat) {f : Part → Part × Nat} (h : ∀ p, (f p).1.kept pmbusScope = p.kept pmbusScope) :
    ReadKeeps (pmbGetP n f) := readKeeps_some fun s => State.kept_part (h s.part)

theorem writeKeeps_none : WriteKeeps none := fun _ h => by cases h

theorem writeKeeps_some {g : PmbWrite} (h : ∀ data s, (g data s).1.kept pmbusScope = s.kept pmbusScope) :
    WriteKeeps (some g) := by
  intro g' hg data s
  cases hg
  exact h data s

theorem writeKeeps_pmbSet {f : Nat → Part → Part × Bool} (h : ∀ v p, (f v p).1.kept pmbusScope = p.kept pmbusScope) :
    WriteKeeps (pmbSet f) := writeKeeps_some fun data s => State.kept_part (h (ofLe data) s.part)

end Sys2Proof.Machine
end

section
/-!
SUPPORT. The frames of the AVSBus ports.
-/

namespace Sys2Proof.Machine

open Reg

@[simp] theorem Part.avsResync_kept (p : Part) (port : Nat) : (p.avsResync port).kept avsScope = p.kept avsScope := by
  simp +decide [Part.avsResync]

@[simp] theorem Part.avsSilent_kept (p : Part) (port : Nat) : (p.avsSilent port).kept avsScope = p.kept avsScope := by
  simp +decide [Part.avsSilent]

@[simp] theorem Part.avsReply_kept (p : Part) (r : AvsReq) (ack data : Nat) :
    (p.avsReply r ack data).kept avsScope = p.kept avsScope := by
  simp +decide [Part.avsReply]

@[simp] theorem Part.latchVout_kept (p : Part) (n bit : Nat) : (p.latchVout n bit).kept avsScope = p.kept avsScope := by
  simp +decide [Part.latchVout]

@[simp] theorem Part.showCmd_kept (p : Part) (n : Nat) : (p.showCmd n).kept avsScope = p.kept avsScope := by
  simp +decide [Part.showCmd]

theorem Part.avsApply_kept {p q : Part} {port type data n : Nat} (h : p.avsApply port type data n = some q) :
    q.kept avsScope = p.kept avsScope := by
  simp only [Part.avsApply] at h
  (repeat' split at h) <;> cases h <;> simp +decide

@[simp] theorem Part.avsWrite_kept (p : Part) (port : Nat) (w : AvsHold) :
    (p.avsWrite port w).1.kept avsScope = p.kept avsScope := by
  refine Part.foldl_fst_kept _ _ _ _ fun x n _ => ?_
  split
  · rename_i h
    exact Part.avsApply_kept h
  · rfl

@[simp] theorem Part.setHolds_kept (p : Part) (port : Nat) (l : List AvsHold) :
    (p.setHolds port l).kept avsScope = p.kept avsScope := by
  simp +decide [Part.setHolds]

@[simp] theorem Part.avsCommit_kept (p : Part) (port : Nat) (w : AvsHold) :
    (p.avsCommit port w).kept avsScope = p.kept avsScope := by
  simp [Part.avsCommit]

theorem Part.avsHold_kept {p q : Part} {port : Nat} {w : AvsHold} (h : p.avsHold port w = some q) :
    q.kept avsScope = p.kept avsScope := by
  simp only [Part.avsHold] at h
  (repeat' split at h) <;> cases h <;> simp +decide

theorem Part.avsAct_kept {p : Part} {r : AvsReq} {type : Nat} {x : Part × Nat} (h : p.avsAct r type = some x) :
    x.1.kept avsScope = p.kept avsScope := by
  simp only [Part.avsAct] at h
  split at h
  · cases h
  · split at h
    · split at h
      · cases h
        exact Part.avsCommit_kept _ _ _
      · cases h
    · split at h
      · obtain ⟨q, hq, rfl⟩ := Option.map_eq_some_iff.mp h
        exact Part.avsHold_kept hq
      · cases h
    · obtain ⟨n, -, hn⟩ := Option.bind_eq_some_iff.mp h
      obtain ⟨v, -, rfl⟩ := Option.map_eq_some_iff.mp hn
      rfl
    · cases h

@[simp] theorem Part.avsReq_kept (p : Part) (r : AvsReq) (type : Nat) :
    (p.avsReq r type).kept avsScope = p.kept avsScope := by
  simp only [Part.avsReq]
  split
  · simp +decide
  · split
    · simp +decide
    · split
      · simp +decide
      · split
        · rename_i x hx
          simp +decide [Part.avsAct_kept hx]
        · simp +decide

end Sys2Proof.Machine
end

section
/-!
SUPPORT. The frames of the phase fabric and the rails.
-/

namespace Sys2Proof.Machine

open Reg

@[simp] theorem Part.addPhase_kept (p : Part) (n q : Nat) : (p.addPhase n q).kept fabricScope = p.kept fabricScope := by
  simp only [Part.addPhase]
  (repeat' split) <;> simp +decide

@[simp] theorem Part.movePhase_kept (p : Part) (n q theta c : Nat) (added : Bool) :
    (p.movePhase n q theta c added).kept fabricScope = p.kept fabricScope := by
  simp +decide [Part.movePhase]

@[simp] theorem Part.showDEff_kept (p : Part) (n : Nat) : (p.showDEff n).kept fabricScope = p.kept fabricScope := by
  simp +decide [Part.showDEff]

@[simp] theorem Part.followM_kept (p : Part) (n : Nat) : (p.followM n).kept fabricScope = p.kept fabricScope := by
  simp +decide [Part.followM]

@[simp] theorem Part.showMoving_kept (p : Part) (n : Nat) : (p.showMoving n).kept fabricScope = p.kept fabricScope := by
  simp +decide [Part.showMoving]

@[simp] theorem Part.setActive_kept (p : Part) (n : Nat) (was : List Nat) :
    (p.setActive n was).kept fabricScope = p.kept fabricScope := by
  simp +decide [Part.setActive]

@[simp] theorem Part.commitLevel_kept (p : Part) (n c : Nat) :
    (p.commitLevel n c).kept fabricScope = p.kept fabricScope := by
  simp +decide [Part.commitLevel]

@[simp] theorem Part.reefCommit_kept (p : Part) (n lvl : Nat) :
    (p.reefCommit n lvl).kept fabricScope = p.kept fabricScope := by
  simp only [Part.reefCommit]
  (repeat' split) <;> simp +decide

@[simp] theorem Part.reefShed_kept (p : Part) (n : Nat) : (p.reefShed n).kept fabricScope = p.kept fabricScope := by
  simp only [Part.reefShed]
  (repeat' split) <;> simp +decide

@[simp] theorem Part.waitCleared_kept (p : Part) (n f : Nat) :
    (p.waitCleared n f).kept fabricScope = p.kept fabricScope := by
  simp +decide [Part.waitCleared]

@[simp] theorem Part.sfltClear_kept (p : Part) (k heldNs : Nat) :
    (p.sfltClear k heldNs).kept fabricScope = p.kept fabricScope := by
  simp +decide [Part.sfltClear]

@[simp] theorem Part.reefAdd_kept (p : Part) (n : Nat) : (p.reefAdd n).kept fabricScope = p.kept fabricScope := by
  simp +decide [Part.reefAdd]

@[simp] theorem Part.prebiasEnd_kept (p : Part) (n v : Nat) :
    (p.prebiasEnd n v).kept fabricScope = p.kept fabricScope := by
  simp +decide [Part.prebiasEnd]

@[simp] theorem Part.prebiasStep_kept (p : Part) (n : Nat) (uv : Int) :
    (p.prebiasStep n uv).kept fabricScope = p.kept fabricScope := by
  simp +decide [Part.prebiasStep]

@[simp] theorem Part.periodStart_kept (p : Part) (q : Nat) :
    (p.periodStart q).kept fabricScope = p.kept fabricScope := by
  unfold Part.periodStart
  split <;> simp +decide

@[simp] theorem Part.pgLow_kept (p : Part) (n : Nat) (ev : Bool) :
    (p.pgLow n ev).kept fabricScope = p.kept fabricScope := by
  simp +decide [Part.pgLow]

@[simp] theorem Part.pbHandOn_kept (p : Part) (n : Nat) : (p.pbHandOn n).kept fabricScope = p.kept fabricScope := by
  simp +decide [Part.pbHandOn]

@[simp] theorem Part.monOwn_kept (p : Part) (m : Nat) : (p.monOwn m).kept fabricScope = p.kept fabricScope :=
  Part.with_mons_kept _ _ _ (by decide)

@[simp] theorem Part.pbRelease_kept (p : Part) (n : Nat) : (p.pbRelease n).kept fabricScope = p.kept fabricScope := by
  simp +decide [Part.pbRelease]

@[simp] theorem Part.probeFor_kept (p : Part) (n : Nat) (old new_ : RailState) :
    (p.probeFor n old new_).kept fabricScope = p.kept fabricScope := by
  simp +decide [Part.probeFor]

@[simp] theorem Part.noOffer_kept (p : Part) (n : Nat) : (p.noOffer n).kept fabricScope = p.kept fabricScope := by
  simp +decide [Part.noOffer]

@[simp] theorem Part.sfltFollow_kept (p : Part) : p.sfltFollow.kept fabricScope = p.kept fabricScope := by
  simp +decide [Part.sfltFollow]

@[simp] theorem Part.setRst_kept (p : Part) (n : Nat) (st : RailState) (pgEv : Bool) :
    (p.setRst n st pgEv).kept fabricScope = p.kept fabricScope := by
  simp +decide [Part.setRst]

@[simp] theorem Part.burstEntry_kept (p : Part) (n : Nat) : (p.burstEntry n).kept fabricScope = p.kept fabricScope := by
  simp only [Part.burstEntry]
  (repeat' split) <;> simp +decide

@[simp] theorem Part.healthPhase_kept (p : Part) (n q : Nat) :
    (p.healthPhase n q).kept fabricScope = p.kept fabricScope := by
  simp +decide [Part.healthPhase]

@[simp] theorem Part.healthUpdate_kept (p : Part) : p.healthUpdate.kept fabricScope = p.kept fabricScope := by
  simp only [Part.healthUpdate]
  split
  · rfl
  · refine (Part.forN_kept _ _ _ _ fun n q => ?_).trans ?_
    · simp +decide
    · exact (Part.with_healthAt_kept _ _ _ (by decide)).trans (by simp +decide)

@[simp] theorem Part.startLevel_kept (p : Part) (n : Nat) : (p.startLevel n).kept fabricScope = p.kept fabricScope := by
  simp +decide [Part.startLevel]

@[simp] theorem Part.setVsp_kept (p : Part) (n v : Nat) : (p.setVsp n v).kept fabricScope = p.kept fabricScope := by
  simp +decide [Part.setVsp]

@[simp] theorem Part.enterRampUp_kept (p : Part) (n v : Nat) :
    (p.enterRampUp n v).kept fabricScope = p.kept fabricScope := by
  simp only [Part.enterRampUp]
  (repeat' split) <;> simp +decide

@[simp] theorem Part.hiccupRetry_kept (p : Part) (n : Nat) :
    (p.hiccupRetry n).kept fabricScope = p.kept fabricScope := by
  simp +decide [Part.hiccupRetry]

@[simp] theorem Part.judgePulse_kept (p : Part) (n q : Nat) (e : Period) :
    (p.judgePulse n q e).kept fabricScope = p.kept fabricScope := by
  simp +decide [Part.judgePulse]

@[simp] theorem Part.judgeRange_kept (p : Part) (n q a b : Nat) :
    (p.judgeRange n q a b).kept fabricScope = p.kept fabricScope := by
  simp +decide [Part.judgeRange]

@[simp] theorem Part.periodEnd_kept (p : Part) (q : Nat) : (p.periodEnd q).kept fabricScope = p.kept fabricScope := by
  simp only [Part.periodEnd]
  (repeat' split) <;> simp +decide

@[simp] theorem Part.endIntent_kept (p : Part) (n : Nat) : (p.endIntent n).kept fabricScope = p.kept fabricScope := by
  simp +decide [Part.endIntent]

@[simp] theorem Part.intentMissed_kept (p : Part) (n : Nat) :
    (p.intentMissed n).kept fabricScope = p.kept fabricScope := by
  unfold Part.intentMissed
  split <;> simp +decide

@[simp] theorem Part.prepSample_kept (p : Part) (n q : Nat) (code : Int) :
    (p.prepSample n q code).kept fabricScope = p.kept fabricScope := by
  simp +decide [Part.prepSample]

@[simp] theorem Part.zeroCross_kept (p : Part) (n q : Nat) (s : PhSample) :
    (p.zeroCross n q s).kept fabricScope = p.kept fabricScope := by
  simp +decide [Part.zeroCross]

@[simp] theorem Part.pushSample_kept (p : Part) (n q : Nat) (s : PhSample) :
    (p.pushSample n q s).kept fabricScope = p.kept fabricScope := by
  simp +decide [Part.pushSample]

@[simp] theorem Part.phaseSample_kept (p : Part) (q : Nat) (code : Int) :
    (p.phaseSample q code).kept fabricScope = p.kept fabricScope := by
  unfold Part.phaseSample
  split <;> simp +decide

@[simp] theorem Part.kept_disarm (p : Part) (n : Nat) : (p.disarm n).kept fabricScope = p.kept fabricScope := by
  simp +decide [Part.disarm]

@[simp] theorem Part.balance_kept (p : Part) (s : Nat) : (p.balance s).kept fabricScope = p.kept fabricScope := by
  unfold Part.balance
  split <;> simp +decide

@[simp] theorem Part.ovLowEnd_kept (p : Part) (n : Nat) : (p.ovLowEnd n).kept fabricScope = p.kept fabricScope := by
  simp +decide [Part.ovLowEnd]

@[simp] theorem Part.telltale_kept (p : Part) (n : Nat) (side : SenseSide) (present : Bool) :
    (p.telltale n side present).kept fabricScope = p.kept fabricScope := by
  unfold Part.telltale
  split <;> simp +decide

@[simp] theorem Part.delayOnEnd_kept (p : Part) (n : Nat) : (p.delayOnEnd n).kept fabricScope = p.kept fabricScope := by
  simp +decide [Part.delayOnEnd]

@[simp] theorem Part.prepDone_kept (p : Part) (n : Nat) : (p.prepDone n).kept fabricScope = p.kept fabricScope := by
  simp +decide [Part.prepDone]

@[simp] theorem Part.pgRelease_kept (p : Part) (n : Nat) : (p.pgRelease n).kept fabricScope = p.kept fabricScope := by
  unfold Part.pgRelease
  split <;> simp +decide

@[simp] theorem Part.protEvent_kept (p : Part) (n : Nat) : (p.protEvent n).kept fabricScope = p.kept fabricScope := by
  simp +decide [Part.protEvent]

@[simp] theorem Part.truncated_kept (p : Part) (n q at_ : Nat) :
    (p.truncated n q at_).kept fabricScope = p.kept fabricScope := by
  simp +decide [Part.truncated]

@[simp] theorem Part.fastTrip_kept (p : Part) (q : Nat) (uv : Int) (durationPs : Nat) :
    (p.fastTrip q uv durationPs).kept fabricScope = p.kept fabricScope := by
  simp only [Part.fastTrip]
  (repeat' split) <;> simp +decide

@[simp] theorem Part.retryClear_kept (p : Part) (n : Nat) : (p.retryClear n).kept fabricScope = p.kept fabricScope := by
  simp +decide [Part.retryClear]

@[simp] theorem Part.nextDac_kept (p : Part) (n : Nat) : (p.nextDac n).kept fabricScope = p.kept fabricScope := by
  simp +decide [Part.nextDac]

@[simp] theorem Part.burstTrip_kept (p : Part) (n : Nat) : (p.burstTrip n).kept fabricScope = p.kept fabricScope := by
  simp +decide [Part.burstTrip]

@[simp] theorem Part.enterRampDown_kept (p : Part) (n : Nat) (ss : Option SoftStop) :
    (p.enterRampDown n ss).kept fabricScope = p.kept fabricScope := by
  simp +decide [Part.enterRampDown]

@[simp] theorem Part.toffDelayEnd_kept (p : Part) (n : Nat) :
    (p.toffDelayEnd n).kept fabricScope = p.kept fabricScope := by
  simp +decide [Part.toffDelayEnd]

end Sys2Proof.Machine
end

section
/-!
SUPPORT. The frames of thermal sensing.
-/

namespace Sys2Proof.Machine

open Reg

@[simp] theorem Part.thrHoldEnd_kept (p : Part) (k : Nat) : (p.thrHoldEnd k).kept thermScope = p.kept thermScope := by
  unfold Part.thrHoldEnd
  split
  · split
    · exact (Part.with_thrHold_kept _ _ _ (by decide)).trans (by simp +decide)
    · rfl
  · rfl

@[simp] theorem Part.thrUpdate_kept (p : Part) : p.thrUpdate.kept thermScope = p.kept thermScope := by
  refine Part.forN_kept _ _ _ _ fun k q => ?_
  dsimp only
  split
  · exact (Part.with_thr_kept _ _ _ _ (by decide) (by decide)).trans (by simp +decide)
  · split
    · exact Part.with_thrHold_kept _ _ _ (by decide)
    · rfl

@[simp] theorem Part.levelClear_kept (p : Part) (s : Nat) (l : ThermLevel) :
    (p.levelClear s l).kept thermScope = p.kept thermScope := by
  simp +decide [Part.levelClear]

@[simp] theorem Part.levelExit_kept (p : Part) (s : Nat) (l : ThermLevel) :
    (p.levelExit s l).kept thermScope = p.kept thermScope := by
  simp +decide [Part.levelExit]

@[simp] theorem Part.breakSensor_kept (p : Part) (s cause : Nat) :
    (p.breakSensor s cause).kept thermScope = p.kept thermScope := by
  simp +decide [Part.breakSensor]

@[simp] theorem Part.sensorBroken_kept (p : Part) (s : Nat) :
    (p.sensorBroken s).kept thermScope = p.kept thermScope := by
  simp [Part.sensorBroken]

@[simp] theorem Part.thermSlot_kept (p : Part) (k : Nat) : (p.thermSlot k).kept thermScope = p.kept thermScope := by
  simp only [Part.thermSlot]
  split
  · rfl
  · exact (Part.with_thermAt_kept _ _ _ (by decide)).trans (by simp +decide)

@[simp] theorem Part.thermCheck_kept (p : Part) (zeroUv refUv : Int) :
    (p.thermCheck zeroUv refUv).kept thermScope = p.kept thermScope := by
  simp only [Part.thermCheck]
  split
  · rfl
  · exact (Part.with_feBad_kept _ _ _ (by decide)).trans (by simp)

@[simp] theorem Part.levelCount_kept (p : Part) (s : Nat) (t : Int) (l : ThermLevel) :
    (p.levelCount s t l).kept thermScope = p.kept thermScope := by
  simp +decide [Part.levelCount]

@[simp] theorem Part.thermSample_kept (p : Part) (s : Nat) (m : ThermMeas) :
    (p.thermSample s m).kept thermScope = p.kept thermScope := by
  simp only [Part.thermSample]
  (repeat' split) <;> simp +decide

end Sys2Proof.Machine
end

section
/-!
SUPPORT. The frames of the control engine.
-/

namespace Sys2Proof.Machine

open Reg

@[simp] theorem Part.dropSwap_kept (p : Part) (s : Nat) : (p.dropSwap s).kept engineScope = p.kept engineScope := by
  unfold Part.dropSwap
  split <;> simp +decide

@[simp] theorem Part.unreserve_kept (p : Part) (s : Nat) : (p.unreserve s).kept engineScope = p.kept engineScope := by
  simp +decide [Part.unreserve]

@[simp] theorem Part.expire_kept (p : Part) (s : Nat) : (p.expire s).kept engineScope = p.kept engineScope := by
  simp only [Part.expire]
  (repeat' split) <;> simp +decide

@[simp] theorem Part.rotationDue_kept (p : Part) : p.rotationDue.kept engineScope = p.kept engineScope := by
  simp +decide [Part.rotationDue]

@[simp] theorem Part.rotLate_kept (p : Part) : p.rotLate.kept engineScope = p.kept engineScope := by
  simp +decide [Part.rotLate]

@[simp] theorem Part.enqueue_kept (p : Part) (x : Exch) : (p.enqueue x).kept engineScope = p.kept engineScope := by
  simp +decide [Part.enqueue]

@[simp] theorem Part.rotationStart_kept (p : Part) : p.rotationStart.kept engineScope = p.kept engineScope := by
  simp only [Part.rotationStart]
  (repeat' split) <;> simp +decide

@[simp] theorem Part.load16_kept (p : Part) (src : HostSrc) (s value index : Nat) :
    (p.load16 src s value index).kept engineScope = p.kept engineScope := by
  simp +decide [Part.load16]

@[simp] theorem Part.xrefuse_kept (p : Part) (op result : Nat) :
    (p.xrefuse op result).kept engineScope = p.kept engineScope := by
  simp +decide [Part.xrefuse]

@[simp] theorem Part.xreq_kept (p : Part) (op key : Nat) (f : Part → Part)
    (h : ∀ q, (f q).kept engineScope = q.kept engineScope) : (p.xreq op key f).kept engineScope = p.kept engineScope := by
  unfold Part.xreq
  (repeat' split) <;> simp [h]

@[simp] theorem Part.reserveReq_kept (p : Part) (key : Nat) :
    (p.reserveReq key).kept engineScope = p.kept engineScope := by
  refine Part.xreq_kept _ _ _ _ fun p => ?_
  (repeat' split) <;> simp +decide

@[simp] theorem Part.releaseReq_kept (p : Part) (key s : Nat) :
    (p.releaseReq key s).kept engineScope = p.kept engineScope := by
  simp +decide [Part.releaseReq]

@[simp] theorem Part.swapReq_kept (p : Part) (key n s : Nat) :
    (p.swapReq key n s).kept engineScope = p.kept engineScope := by
  refine Part.xreq_kept _ _ _ _ fun p => ?_
  (repeat' split) <;> simp +decide

@[simp] theorem Part.timingReq_kept (p : Part) (key n : Nat) (tmode : Bool) :
    (p.timingReq key n tmode).kept engineScope = p.kept engineScope := by
  refine Part.xreq_kept _ _ _ _ fun p => ?_
  (repeat' split) <;> simp +decide

end Sys2Proof.Machine
end

section
/-!
SUPPORT. The frames of SYS_CTRL, debug access and the cold start.
-/

namespace Sys2Proof.Machine

open Reg

@[simp] theorem Part.closeSession_kept (p : Part) : p.closeSession.kept systemScope = p.kept systemScope := by
  simp [Part.closeSession]

@[simp] theorem Part.sessionTimeout_kept (p : Part) : p.sessionTimeout.kept systemScope = p.kept systemScope := by
  simp +decide [Part.sessionTimeout]

@[simp] theorem Part.parkTimeout_kept (p : Part) : p.parkTimeout.kept systemScope = p.kept systemScope := by
  simp +decide [Part.parkTimeout]

@[simp] theorem Part.refRetry_kept (p : Part) (xinUv : Nat) :
    (p.refRetry xinUv).kept systemScope = p.kept systemScope := by
  unfold Part.refRetry
  split <;> simp

@[simp] theorem Part.showSfdp_kept (p : Part) (f : Flash) : (p.showSfdp f).kept systemScope = p.kept systemScope := by
  simp [Part.showSfdp]

@[simp] theorem Part.showImage_kept (p : Part) (i : ImageInfo) :
    (p.showImage i).kept systemScope = p.kept systemScope := by
  simp [Part.showImage]

theorem Part.imageWrite_kept {p q : Part} {type addr v : Nat} (h : p.imageWrite type addr v = some q) :
    q.kept systemScope = p.kept systemScope := by
  unfold Part.imageWrite at h
  split at h
  · cases h
  · split at h
    · split at h
      · cases h
        exact Part.foldl_kept _ _ _ _ fun q f _ => by simp
      · cases h
    · cases h

theorem Part.bodyWrites_kept {p q : Part} {type n : Nat} {bs : List Byte} (h : p.bodyWrites type n bs = some q) :
    q.kept systemScope = p.kept systemScope := by
  induction n generalizing p bs with
  | zero => cases h; rfl
  | succ n ih =>
    unfold Part.bodyWrites at h
    split at h
    · rename_i r hr
      exact (ih h).trans (Part.imageWrite_kept hr)
    · cases h

theorem Part.imageWrites_kept {p q : Part} {b : List Byte} {l : List Section} (h : p.imageWrites b l = some q) :
    q.kept systemScope = p.kept systemScope := by
  induction l generalizing p with
  | nil => cases h; rfl
  | cons x l ih =>
    unfold Part.imageWrites at h
    split at h
    · rename_i r hr
      exact (ih h).trans (Part.bodyWrites_kept hr)
    · cases h

/-- A slot that is accepted answers the part with the registers that its image writes. -/
theorem Part.judgeSlot_kept {p q : Part} {o : Otp} {slot : List Byte} (h : p.judgeSlot o slot = .accepted q) :
    q.kept systemScope = p.kept systemScope := by
  simp only [Part.judgeSlot] at h
  (repeat' split at h) <;> cases h
  rename_i hq _
  exact Part.imageWrites_kept hq

@[simp] theorem Part.judgeNext_kept (p : Part) (o : Otp) (f : Flash) :
    (p.judgeNext o f).kept systemScope = p.kept systemScope := by
  simp only [Part.judgeNext]
  split
  · exact (Part.set_kept _ _ _ _ _ _ (by simp)).trans ((Part.with_load_kept _ _ _ (by decide)).trans (by simp))
  · rename_i hq
    exact (Part.with_load_kept _ _ _ (by decide)).trans <| (Part.showImage_kept _ _).trans <|
      (Part.judgeSlot_kept hq).trans <| (Part.with_load_kept _ _ _ (by decide)).trans (by simp)

@[simp] theorem Part.evalWear_kept (p : Part) : p.evalWear.kept systemScope = p.kept systemScope := by
  simp +decide [Part.evalWear]

@[simp] theorem Part.showHeld_kept (p : Part) (m : List Host.Cell) :
    (p.showHeld m).kept systemScope = p.kept systemScope := by
  simp [Part.showHeld]

@[simp] theorem Part.scanNvm_kept (p : Part) (m : List Host.Cell) :
    (p.scanNvm m).kept systemScope = p.kept systemScope := by
  simp +decide [Part.scanNvm]

@[simp] theorem Part.lossRecord_kept (p : Part) : p.lossRecord.kept systemScope = p.kept systemScope := by
  unfold Part.lossRecord
  split
  · exact (Part.record_kept _ _ _ _ _ _ _ _ _ _ (by decide)).trans (Part.with_load_kept _ _ _ (by decide))
  · rfl

@[simp] theorem Part.loadNvm_kept (p : Part) (m : List Host.Cell) :
    (p.loadNvm m).kept systemScope = p.kept systemScope := by
  simp only [Part.loadNvm, Part.lossRecord_kept]
  exact (Part.nvmKick_kept _ _ (by decide)).trans ((Part.with_load_kept _ _ _ (by decide)).trans (by simp))

@[simp] theorem Part.slotCheck_kept (p : Part) (o : Otp) (m : List Host.Cell) (f : Flash) :
    (p.slotCheck o m f).kept systemScope = p.kept systemScope := by
  simp [Part.slotCheck]

@[simp] theorem Part.dbgKeyed_kept (p : Part) (src : HostSrc) (key : Nat) (f : Part → Part)
    (h : ∀ q, (f q).kept systemScope = q.kept systemScope) : (p.dbgKeyed src key f).kept systemScope = p.kept systemScope := by
  unfold Part.dbgKeyed
  split <;> simp +decide [h]

@[simp] theorem Part.revokeTry_kept (p : Part) (key0 key1 : Bool) :
    (p.revokeTry key0 key1).1.kept systemScope = p.kept systemScope :=
  Part.with_otpJob_kept _ _ _ (by decide)

@[simp] theorem Part.revokeReq_kept (p : Part) (src : HostSrc) (key0 key1 : Bool) (key : Nat) :
    (p.revokeReq src key0 key1 key).kept systemScope = p.kept systemScope := by
  simp +decide [Part.revokeReq]

@[simp] theorem Part.fillNonce_kept (p : Part) : p.fillNonce.kept systemScope = p.kept systemScope := by
  simp +decide [Part.fillNonce]

@[simp] theorem Part.requestChallenge_kept (p : Part) (src : HostSrc) :
    (p.requestChallenge src).kept systemScope = p.kept systemScope := by
  simp +decide [Part.requestChallenge]

theorem Part.parkTry_kept {p q : Part} (h : p.parkTry = some q) : q.kept systemScope = p.kept systemScope := by
  unfold Part.parkTry at h
  split at h
  · cases h
    exact Part.with_park_kept _ _ _ _ (by decide) (by decide)
  · cases h

@[simp] theorem Part.park_kept (p : Part) (key : Nat) : (p.park key).kept systemScope = p.kept systemScope := by
  unfold Part.park
  split
  · simp +decide
  · cases h : p.parkTry with
    | none => simp +decide
    | some q => simpa using Part.parkTry_kept h

end Sys2Proof.Machine
end

section
/-!
The families of commands: each command completes and changes no more than the scope of its family.
-/

namespace Sys2Proof.Machine

open Reg

/-- A command completes and changes no more than a scope. -/
def Framed (a : Scope) (c : Instr) (s : State) : Prop := ∃ t, exec c s = .next t ∧ t.kept a = s.kept a

/-- What the frame of a command says of its next state. -/
theorem Framed.next_eq {a : Scope} {c : Instr} {s t : State} (h : Framed a c s) (ht : exec c s = .next t) :
    t = s.withPart (s.part.graft a t.part) ∧ s.part.keeps t.part a.lo a.hi := by
  obtain ⟨t', ht', hk⟩ := h
  cases ht.symm.trans ht'
  exact ⟨State.eq_withPart_of_kept hk, State.keeps_of_kept hk⟩

/-- Every command completes. -/
theorem exec_next (c : Instr) (s : State) : ∃ t, exec c s = .next t := by
  cases c with
  | registerWrite src _ _ => cases src <;> exact ⟨_, rfl⟩
  | _ => exact ⟨_, rfl⟩

theorem hkCommand_framed {c : Instr} (s : State) (hc : hkCommand c = true) : Framed hkScope c s := by
  cases c with
  | softwareTrigger _ | pwmTrigger _ | tbTrigger _ | seqTbhiWrite _ _ | seqDisable _ | hkQloRead | hkQhiRead
  | calAbort | captureEnd _ _ | dacReadback | injectedRequest _ | calZero _ _ | calFull _ _
  | calBindWrite _ _ => exact ⟨_, rfl, State.kept_part (by simp)⟩
  | _ => cases hc

theorem ringCommand_framed {c : Instr} (s : State) (hc : ringCommand c = true) : Framed ringScope c s := by
  cases c with
  | syncSend | delayExchange _ | delayReq _ | delayResp _ | discoverSend | faultFrame _ | barToken _
  | barRelease _ | barrierSlotFree _ | barrierTimeout _ | snapSched _ | snapLatch | snapCollect _
  | snapResp _ | collectTimeout | barrierArrive _ _ | barrierLaunch _ _ | snapshotSchedule _ _
  | snapshotCollect _ _ | resetNode _ _ | unknownTypeFrame _ | halTbloRead | tbLockTimeout | hbSend
  | pairxSend | pairxWindowSkip | ringBrokenClear => exact ⟨_, rfl, State.kept_part (by simp)⟩
  | _ => cases hc

theorem causeCommand_framed {c : Instr} (s : State) (hc : causeCommand c = true) : Framed causeScope c s := by
  cases c with
  | portUp _ | portDown _ _ | discover _ | discoverTimeout | halLoopback _ _ | testLate _
  | ecInjection _ _ _ | hb _ | hbTimeout | pairx _ => exact ⟨_, rfl, State.kept_part (by simp)⟩
  | _ => cases hc

theorem avsCommand_framed {c : Instr} (s : State) (hc : avsCommand c = true) : Framed avsScope c s := by
  cases c with
  | avsVoltage _ | avsVoutTransitionRate _ | avsCurrentRead _ | avsTemperatureRead _ | avsResetVoltage _
  | avsPowerMode _ | avsStatus _ | avsWriteHold _ _ | avsUnsupportedType _ _ | avsIdleResync _ =>
    exact ⟨_, rfl, State.kept_part (by simp)⟩
  | _ => cases hc

theorem fabricCommand_framed {c : Instr} (s : State) (hc : fabricCommand c = true) : Framed fabricScope c s := by
  cases c with
  | phaseSample _ _ | periodStart _ | phasePeriodEnd _ | bookkeepingPass _ | reefAdd _ | reefShed _
  | healthUpdate | disarm _ | prepDone _ | intentMissed _ | prebiasStep _ _ | pgRelease _ | toffDelayEnd _
  | burstEntry _ | burstTrip _ | retryClear _ | ovLowEnd _ | delayOnEnd _ | hiccupRetry _ | fastScTrip _ _ _
  | telltaleFilter _ _ _ | sfltClear _ => exact ⟨_, rfl, State.kept_part (by simp)⟩
  | _ => cases hc

theorem thermCommand_framed {c : Instr} (s : State) (hc : thermCommand c = true) : Framed thermScope c s := by
  cases c with
  | thermSample _ _ | thermCheck _ _ | sensorBroken _ | thermalLevelExit _ _ | thrHoldEnd _ =>
    exact ⟨_, rfl, State.kept_part (by simp)⟩
  | _ => cases hc

theorem engineCommand_framed {c : Instr} (s : State) (hc : engineCommand c = true) : Framed engineScope c s := by
  cases c with
  | load16 _ _ _ | coefficientSwap _ _ _ | timingMove _ _ _ | reserveSpare _ | releaseReservation _ _
  | reservationExpiry _ | rotationDue | rotationStart => exact ⟨_, rfl, State.kept_part (by simp)⟩
  | _ => cases hc

theorem systemCommand_framed {c : Instr} (s : State) (hc : systemCommand c = true) : Framed systemScope c s := by
  cases c with
  | requestChallenge _ | closeSession _ | sessionTimeout | keyRevokeReq _ _ _ | park _ | parkTimeout
  | refRetry _ | slotCheck _ => exact ⟨_, rfl, State.kept_part (by simp)⟩
  | _ => cases hc

/-- A transaction of the PMBus port whose read and write keep to the port. -/
theorem pmbus_framed {c : Instr} {s : State} {code len : Nat} {rd : Option (State → State × List Byte)}
    {wr : Option PmbWrite} {tx : PmbTx} (h : exec c s = .next (s.pmbus code len rd wr tx)) (hr : ReadKeeps rd)
    (hw : WriteKeeps wr) : Framed pmbusScope c s := ⟨_, h, State.pmbus_kept s code len rd wr tx hr hw⟩

theorem pmbusCommand_framed {c : Instr} (s : State) (hc : pmbusCommand c = true) : Framed pmbusScope c s := by
  cases c with
  | capability _ | voutMode _ | otFaultResponse _ | readVin _ | pmbusRevision _ =>
    exact pmbus_framed rfl (readKeeps_pmbGet _ _) writeKeeps_none
  | ioutOcFaultResponse _ | otFaultLimit _ | statusByte _ | statusWord _ | readVout _ =>
    exact pmbus_framed rfl (readKeeps_pmbPaged _ _) writeKeeps_none
  | readIout _ => exact pmbus_framed rfl (readKeeps_pmbGetP _ fun p => by simp) writeKeeps_none
  | readTemperature1 _ => exact pmbus_framed rfl (readKeeps_pmbGetP _ fun p => by simp) writeKeeps_none
  | mfrBitCount _ | mfrSlogCount _ => exact pmbus_framed rfl (readKeeps_some fun _ => rfl) writeKeeps_none
  | mfrBitRead _ => exact pmbus_framed rfl (readKeeps_some State.bitRead_kept) writeKeeps_none
  | mfrSlogRead _ => exact pmbus_framed rfl (readKeeps_some State.slogRead_kept) writeKeeps_none
  | mfrBitSel _ =>
    exact pmbus_framed rfl (readKeeps_pmbGet _ _) (writeKeeps_some fun data s => s.bitSel_kept (ofLe data))
  | mfrSlogSel _ =>
    exact pmbus_framed rfl (readKeeps_pmbGet _ _) (writeKeeps_some fun data s => s.slogSel_kept (ofLe data))
  | mfrRegAddr _ =>
    exact pmbus_framed rfl (readKeeps_some fun _ => rfl) (writeKeeps_pmbSet fun v p => by simp +decide)
  | clearFaults _ => exact pmbus_framed rfl readKeeps_none (writeKeeps_pmbSet fun v p => by simp)
  | page _ | phase _ =>
    exact pmbus_framed rfl (readKeeps_pmbGet _ _) (writeKeeps_pmbSet fun v p => by split <;> simp +decide)
  | statusVout _ | statusIout _ | statusTemperature _ | statusMfrSpecific _ =>
    exact pmbus_framed rfl (readKeeps_pmbPaged _ _) (writeKeeps_pmbSet fun v p => by simp)
  | statusInput _ | statusCml _ =>
    exact pmbus_framed rfl (readKeeps_pmbGet _ _) (writeKeeps_pmbSet fun v p => by simp)
  | alertResponse | smbusTimeout | unsupportedCommand _ => exact ⟨_, rfl, State.kept_part (by simp)⟩
  | _ => cases hc

/-- Settles O4: each family is framed by its scope, and what a scope holds fast gives the clause of the family. -/
theorem familyFrames : Obligations.FamilyFrames := by
  intro c s
  obtain ⟨t, ht⟩ := exec_next c s
  refine ⟨t, ht, fun hc => (hkCommand_framed s hc).next_eq ht, fun hc => (ringCommand_framed s hc).next_eq ht,
    fun hc => (causeCommand_framed s hc).next_eq ht, fun hc => ?_, fun hc => (avsCommand_framed s hc).next_eq ht,
    fun hc => (fabricCommand_framed s hc).next_eq ht, fun hc => (thermCommand_framed s hc).next_eq ht,
    fun hc => (engineCommand_framed s hc).next_eq ht, fun hc => ((systemCommand_framed s hc).next_eq ht).1⟩
  obtain ⟨hpart, hregs⟩ := (pmbusCommand_framed s hc).next_eq ht
  exact ⟨hpart, Part.keeps_mono hregs (by decide) (by decide), Part.keeps_mono hregs (by decide) (by decide)⟩

end Sys2Proof.Machine
end

section
/-!
The idle tick.
-/

namespace Sys2Proof.Machine

open Reg

/-- One tick of the PWM clock moves TB, in millionths of a tick, by a tick and the steering (R633). -/
theorem Part.tbTick_total (p : Part) (h : 0 ≤ 1000000 + p.hal.steer) :
    (p.tbTick.tb * 1000000 + p.tbTick.tbFrac : Int) = p.tb * 1000000 + p.tbFrac + 1000000 + p.hal.steer := by
  simp only [Part.tbTick]
  omega

@[simp] theorem Part.idle_regs (p : Part) : p.idle.regs = p.regs := by
  unfold Part.idle
  (repeat' split) <;> rfl

@[simp] theorem Part.idle_dev (p : Part) : p.idle.dev = p.dev := by
  unfold Part.idle
  (repeat' split) <;> rfl

theorem Part.idle_of_pwmRuns (p : Part) (h : p.pwmRuns = true) : p.idle = p.tbTick := if_pos h

theorem Part.idle_tb_of_stopped (p : Part) (h : p.pwmRuns = false) : p.idle.tb = p.tb ∧ p.idle.tbFrac = p.tbFrac := by
  simp only [Part.idle, h, Bool.false_eq_true, if_false]
  split <;> exact ⟨rfl, rfl⟩

/-- The AON period count moves by one in PARKED and in the WAKE of a resume, where the PWM clock stands (R24). -/
theorem Part.idle_aonCount (p : Part) :
    p.idle.aonCount = p.aonCount + b2n (p.dev == .parked || p.dev == .wakeResume) := by
  cases hd : p.dev <;> simp [Part.idle, Part.pwmRuns, Part.tbTick, hd, b2n]

/-- Settles O2: the branches of the idle tick, by whether the PWM clock runs. -/
theorem idleTick : Obligations.IdleTick := by
  intro s hs
  refine ⟨{ s with part := s.part.idle }, by simp [step, hs], hs, rfl, rfl, Part.idle_regs _, Part.idle_dev _,
    fun hp hsteer => ?_, Part.idle_tb_of_stopped _, Part.idle_aonCount _⟩
  simpa only [Part.idle_of_pwmRuns _ hp] using Part.tbTick_total _ hsteer

end Sys2Proof.Machine
end
